-- ==== Sys2Proof/Word.lean ====
section
/-! DEFINITION. The word type of the part: everything on its links, lines and in settlement memory is a byte (R176). -/

namespace Sys2Proof

/-- One byte of a frame or of settlement memory. -/
abbrev Byte := BitVec 8

/-- The byte whose value is `n` modulo 256. -/
def byteOf (n : Nat) : Byte := BitVec.ofNat 8 n

end Sys2Proof
end

