-- ==== Sys2Proof/Config.lean ====
section
/-! DEFINITION. The fixed sizes of the part (with the rule that states each) and the free values: what the spec leaves
open is an opaque constant here, with no body, so that no proof can see what it is. -/

namespace Sys2Proof.Config

/-- Greatest purse, amount and max balance, in VU (R1). -/
def maxAmount : Nat := 9999999
/-- Greatest slot capacity (R131, R171). -/
def maxSlots : Nat := 1048576
/-- Greatest count of 32 bits: card numbers, periods, the seconds counter (R2, R34, R92). -/
def maxWord : Nat := 4294967295
/-- Journal numbers run from 1 to 2^48 - 1 (R114). -/
def maxJournal : Nat := 281474976710655
/-- Entries of the Hold Table (R26). -/
def holdEntries : Nat := 512
/-- Holds of one card (R27, R30). -/
def holdsPerCard : Nat := 4
/-- Waiters of one lock slot (R20). -/
def lockWaiters : Nat := 6
/-- Entries of the capture ring (R59). -/
def ringEntries : Nat := 256
/-- Slots of the journal (R115). -/
def journalSlots : Nat := 4096
/-- PENDING records allowed (R115). -/
def pendingLimit : Nat := 32
/-- The untaken count that raises JOURNAL-HIGH (R124). -/
def journalHigh : Nat := 3072
/-- Requests in flight on the host link, and replies of frames that took no tag (R159, R161). -/
def linkSlots : Nat := 8
/-- Merchants with an account (R69). -/
def merchants : Nat := 240
/-- Entries of a line's station table (R143). -/
def lineEntries : Nat := 48
/-- The format mark of the totals record (R131). -/
def formatMark : Nat := 0x53433438
/-- The commit mark of a journal record (R180). -/
def commitMark : Nat := 0x5AC3
/-- Configuration records read at start-up and written by stage 2 of FORMAT: 8 windows, 8 tariff classes, 4 lines and
192 stations (R110, R127, R171). -/
def configRecords : Nat := 212

/-- First byte of each region (R110). -/
def totalsBase : Nat := 8192
def merchantsBase : Nat := 12288
def journalBase : Nat := 73728
def cardsBase : Nat := 335872

/-- FREE VALUE (log 12). What a stored code that no table of R176 to R178 names stands for: `unnamedCode table code` is
taken modulo the number of the table's codes, so it is one of the named ones, and nothing says which. -/
opaque unnamedCode (table code : Nat) : Nat

/-- FREE VALUE (log 13). What a reply, a notice or a record carries for a figure that does not fit the `width` bytes that
R176 gives it. -/
opaque wideFigure (width figure : Nat) : Nat

/-- FREE VALUE (log 27). Which row of R97's table settles a merchant whose state has none: taken modulo the three listed
states. -/
opaque unlistedRow (net : Int) : Nat

end Sys2Proof.Config
end

