-- ==== Sys2Proof/Machine/Bytes.lean ====
section
/-! DEFINITION. Byte order, signs, and the two checks: the 16-bit record check of settlement memory (R10) and the frame
check of the link and the lines (R157, R183). -/

namespace Sys2Proof.Machine
open Sys2Proof

/-- `n` modulo 256 to the power `w`, in `w` bytes, low byte first (R176). -/
def leBytes : Nat → Nat → List Byte
  | 0, _ => []
  | w + 1, n => byteOf n :: leBytes w (n / 256)

/-- The number whose bytes, low byte first, these are (R176). -/
def leNat : List Byte → Nat
  | [] => 0
  | b :: bs => b.toNat + 256 * leNat bs

/-- A figure in `w` bytes, low byte first; one that does not fit is a free value (log 13). -/
def fig (w n : Nat) : List Byte :=
  leBytes w (if n < 256 ^ w then n else Config.wideFigure w n)

/-- Whether `x` is a two's complement number of `w` bytes. -/
def fitsSigned (w : Nat) (x : Int) : Bool :=
  decide (-(256 ^ w : Int) ≤ 2 * x ∧ 2 * x < (256 ^ w : Int))

/-- A signed figure in `w` bytes, two's complement, low byte first (R176); one that does not fit is a free value. -/
def sfig (w : Nat) (x : Int) : List Byte :=
  leBytes w (if fitsSigned w x then (x % (256 ^ w : Int)).toNat else Config.wideFigure w x.natAbs)

/-- The signed number whose two's complement bytes, low byte first, these are (R176). -/
def leInt (bs : List Byte) : Int :=
  let n := leNat bs
  if 2 * n < 256 ^ bs.length then (n : Int) else (n : Int) - (256 ^ bs.length : Int)

/-- A flag byte (R176). -/
def flagByte (b : Bool) : List Byte := [if b then 1 else 0]

/-- A stored code read against a table of `bound` codes 0, 1, …: a code the table does not name is a free value. -/
def namedCode (table bound code : Nat) : Nat :=
  if code < bound then code else Config.unnamedCode table code % bound

/-- A stored flag byte (R176), by the same reading. -/
def readFlag (b : Nat) : Bool := decide (namedCode 0 2 b = 1)

/-- Bytes `at` to `at + w - 1` of a record, as a number. -/
def field (r : List Byte) (at_ w : Nat) : Nat := leNat ((r.drop at_).take w)

/-- Bytes `at` to `at + w - 1` of a record, as a signed number. -/
def sfield (r : List Byte) (at_ w : Nat) : Int := leInt ((r.drop at_).take w)

/-- The sum of a record's 16-bit words, each low byte first (R10). -/
def wordSum : List Byte → Nat
  | a :: b :: rest => a.toNat + 256 * b.toNat + wordSum rest
  | [a] => a.toNat
  | [] => 0

/-- Whether a record passes its record check: its words sum to 0 modulo 65,536 (R10, R110). -/
def recordOk (r : List Byte) : Bool := decide (wordSum r % 65536 = 0)

/-- The check that makes a sum of words or bytes 0 modulo 65,536 (R10, R157). -/
def checkOf (sum : Nat) : Nat := (65536 - sum % 65536) % 65536

/-- A record whose body has an even number of bytes, closed by its record check (R10). -/
def withCheck (body : List Byte) : List Byte := body ++ leBytes 2 (checkOf (wordSum body))

/-- `body` closed by zero bytes up to `n` bytes: the bytes a record leaves unnamed are written as 0 (R10, R69, R110). -/
def padTo (n : Nat) (body : List Byte) : List Byte := body ++ List.replicate (n - body.length) 0

/-- The sum of byte values that the check of a frame closes (R157). -/
def byteSum : List Byte → Nat
  | [] => 0
  | b :: bs => b.toNat + byteSum bs

end Sys2Proof.Machine
end

