-- ==== Sys2Proof/Syntax.lean ====
section
/-! DEFINITION. The commands of the part: one constructor per row of spec/opcode_table.json, in the table's order. A host
request carries the tag and the body bytes of its frame (R157, R177), so every length and every value of a field can
be given to it; an event at which a write of settlement memory may end badly carries what the device then holds. -/

namespace Sys2Proof

/-- What settlement memory holds where a verified write was cut off or failed (R113; R48 and R118 for a failed one): the
new record, the old one, or bytes whose check fails. The spec leaves the choice open, so it is an operand of the event. -/
inductive Residue where
  | written
  | unwritten
  | torn (bytes : List Byte)
  deriving DecidableEq, Repr

/-- The two outside causes of a reset (R130). The third, RESTART, is the part's own (R167). -/
inductive PowerCause where
  | powerOn
  | resetPin
  deriving DecidableEq, Repr

/-- A command: one row of spec/opcode_table.json with its operands. -/
inductive Instr where
  /-- RESET (R168). Power-on or a low level on RESET_N resets every block, clears the link, queues and tables, and begins start-up with a read of the totals record. -/
  | reset (cause : PowerCause) (straps : BitVec 2) (left : Residue)
  /-- FRAME_REJECTED (R158). A host frame whose length is out of range or whose check sum is not 0 is discarded whole and answered FRAME-REJECTED with tag 0, room permitting. -/
  | frameRejected (bytes : List Byte)
  /-- RECEIVE_GAP_EXPIRY (R158). A gap longer than 10 ms between bytes of a host frame ends the frame as rejected with reason GAP, and the receiver hunts again. -/
  | receiveGapExpiry (bytes : List Byte)
  /-- REPLY_FRAME_SENT (R161). The last byte of a reply frame is sent, its tag leaves the in-flight table, and the next queued reply begins with NOTICES-PENDING sampled. -/
  | replyFrameSent (left : Residue)
  /-- ACTIVATE (R49). Activate a BLANK card with an amount and a computed bonus, through field, phase, window, lock, read, state, mask and limit checks, then append. -/
  | activate (tag : Byte) (body : List Byte)
  /-- LOAD (R51). Top up an ACTIVE card of a reloadable window with an amount and a computed bonus, within the max balance. -/
  | load (tag : Byte) (body : List Byte)
  /-- HOLD (R30). Set aside an amount on an ACTIVE card, with optional partial approval, after state, mask, admission and hold-count checks. -/
  | hold (tag : Byte) (body : List Byte)
  /-- RELEASE (R32). Remove an ACTIVE hold of the requesting merchant from the card's chain, or answer HOLD-GONE. -/
  | release (tag : Byte) (body : List Byte)
  /-- BALANCE (R33). Report the card's state, purses, held total, available values, hold count and last movement period under the card's lock. -/
  | balance (tag : Byte) (body : List Byte)
  /-- CAPTURE (R54). Take a final amount against a named hold, after the card-state test, by a claim at the Hold Table. -/
  | capture (tag : Byte) (body : List Byte)
  /-- REDEEM (R52). Take an amount from a card's available value in one request, with optional partial redemption. -/
  | redeem (tag : Byte) (body : List Byte)
  /-- VOID (R61). Reverse a whole capture found in the capture ring for the same card and merchant, restoring each purse by its share. -/
  | void (tag : Byte) (body : List Byte)
  /-- REFUND (R64). Add an amount to the paid purse of an ACTIVE card within the tariff refund cap and the max balance. -/
  | refund (tag : Byte) (body : List Byte)
  /-- CASH_OUT (R66). From the desk, empty the purses of an ACTIVE or BLOCKED card of a cashable window with no holds and make it CASHED. -/
  | cashOut (tag : Byte) (body : List Byte)
  /-- BLOCK (R67). From the desk, make an ACTIVE card BLOCKED by a CARD-STATE movement that clears its holds at the card write. -/
  | block (tag : Byte) (body : List Byte)
  /-- UNBLOCK (R67). From the desk, make a BLOCKED card ACTIVE by a CARD-STATE movement. -/
  | unblock (tag : Byte) (body : List Byte)
  /-- SUSPEND_MERCHANT (R75). Append a MERCHANT-STATE record taking an ACTIVE merchant to SUSPENDED in the admission table. -/
  | suspendMerchant (tag : Byte) (body : List Byte)
  /-- RESUME_MERCHANT (R75). Append a MERCHANT-STATE record taking a SUSPENDED merchant to ACTIVE. -/
  | resumeMerchant (tag : Byte) (body : List Byte)
  /-- CLOSE_MERCHANT (R75). Append a MERCHANT-STATE record taking an ACTIVE or SUSPENDED merchant to CLOSING. -/
  | closeMerchant (tag : Byte) (body : List Byte)
  /-- CUTOFF (R92). Append a PERIOD-END marker after store, room and close-state tests and raise the append period by 1. -/
  | cutoff (tag : Byte) (body : List Byte)
  /-- TAKE_ADVICE (R123). Read up to 3 committed records from the oldest untaken number, advance it by a totals write, and deliver them. -/
  | takeAdvice (tag : Byte) (body : List Byte)
  /-- READ_PAYOUT (R104). Return the payout list entry at the cursor and advance it, or answer NOT-YET or LIST-END. -/
  | readPayout (tag : Byte) (body : List Byte)
  /-- REWIND_PAYOUT (R105). Set the payout list cursor to 0 and report the list state and entry count. -/
  | rewindPayout (tag : Byte) (body : List Byte)
  /-- RELEASE_PAYOUT (R106). Release a COMPLETE payout list by a totals write of the released period, then empty the list. -/
  | releasePayout (tag : Byte) (body : List Byte)
  /-- READ_TOTALS (R134). Read the totals record and report its fields. -/
  | readTotals (tag : Byte) (body : List Byte)
  /-- MERCHANT_STATUS (R90). Read a merchant record and report its fields, bank and last result with the admission state. -/
  | merchantStatus (tag : Byte) (body : List Byte)
  /-- START_SWEEP (R136). Start an audit sweep from slot 1 with cleared accumulators, or refuse it as BUSY or STORE-FAULT. -/
  | startSweep (tag : Byte) (body : List Byte)
  /-- STOP_SWEEP (R140). Abort a RUNNING sweep with SWEEP-DONE ABORTED, or report IDLE. -/
  | stopSweep (tag : Byte) (body : List Byte)
  /-- ENABLE_STATION (R154). Make a DISABLED or FAULTY station entry ABSENT after its identity passes the merchant and duplicate tests. -/
  | enableStation (tag : Byte) (body : List Byte)
  /-- DISABLE_STATION (R154). Make a station entry DISABLED and discard its held reply. -/
  | disableStation (tag : Byte) (body : List Byte)
  /-- CLEAR_STATION_COUNTS (R154). Clear the misses, bad answers, run counter and error count of a station entry. -/
  | clearStationCounts (tag : Byte) (body : List Byte)
  /-- LINE_STATUS (R155). Report a line's state, copy and round counter and the fields of one selected or the weakest entry. -/
  | lineStatus (tag : Byte) (body : List Byte)
  /-- PART_STATUS (R165). Gather and report the figures of phase, store, periods, journal, locks, ring, holds, time, list, sweep and lines. -/
  | partStatus (tag : Byte) (body : List Byte)
  /-- TAKE_NOTICES (R164). Deliver every pending notice with its details, empty the notice set and drive ATTN_N high. -/
  | takeNotices (tag : Byte) (body : List Byte)
  /-- RESTART (R167). Queue the OK reply, stop accepting frames, and reset at the end of sending that reply. -/
  | restart (tag : Byte) (body : List Byte)
  /-- SET_TIME (R35). Set the seconds counter and the time-set flag and report the value before and after. -/
  | setTime (tag : Byte) (body : List Byte)
  /-- FORMAT (R171). After the guard, begin the six stages of verified writes that give the settlement memory new empty books. -/
  | format (tag : Byte) (body : List Byte)
  /-- SET_PROGRAMME (R5). In SETUP, replace all fields of a programme window by a verified write to CONFIG. -/
  | setProgramme (tag : Byte) (body : List Byte)
  /-- SET_TARIFF (R72). In SETUP, replace the rate, fee and refund cap of a tariff class by a verified write to CONFIG. -/
  | setTariff (tag : Byte) (body : List Byte)
  /-- SET_MERCHANT (R73). In SETUP, read a merchant record and write it back with a new class and group, making an UNCONFIGURED merchant ACTIVE. -/
  | setMerchant (tag : Byte) (body : List Byte)
  /-- SET_STATION (R173). In SETUP, write a station record with identity and enabled flag to CONFIG. -/
  | setStation (tag : Byte) (body : List Byte)
  /-- SET_LINE (R173). In SETUP, write a line record with rate, answer window and enabled flag to CONFIG. -/
  | setLine (tag : Byte) (body : List Byte)
  /-- OPEN_SERVICE (R174). Check store, time, windows and stations and, when all pass, enter SERVICE and open the enabled lines. -/
  | openService (tag : Byte) (body : List Byte)
  /-- SECONDS_TICK (R34). The seconds counter rises by 1, saturating at its greatest value. -/
  | secondsTick
  /-- HOLD_EXPIRY (R36). A due ACTIVE hold is removed from its chain and counted in HOLDS-EXPIRED. -/
  | holdExpiry (epoch : Byte) (serial : BitVec 16)
  /-- HOLD_ENTRY (R31). The Hold Table enters a decided hold with a reference, ACTIVE state and expiry time, or refuses it HOLD-TABLE-FULL. -/
  | holdEntry (lock : Fin 16)
  /-- HOLD_CLAIM (R37). The Hold Table decides a capture's claim as OTHER-MERCHANT, EXCEEDS, CLAIMED or NOT-FOUND. -/
  | holdClaim (lock : Fin 16)
  /-- CARD_READ_DONE (R11). A card read completes, is sorted into its outcome, and the owner's decision goes on or is refused. -/
  | cardReadDone
  /-- APPEND_ISSUE (R116). The head of the append queue gets its append access when no append is at the port, fewer than 32 records are PENDING and the store is NORMAL. -/
  | appendIssue
  /-- APPEND_WRITE_DONE (R117). The verified append write completes: the record takes its number and period, counts rise, and the card write, admission change or period rise follows. -/
  | appendWriteDone
  /-- APPEND_WRITE_FAILS (R118). The append write fails its verification twice, the store goes to FAULT, and the origin is answered STORE-FAULT with j. -/
  | appendWriteFails (left : Residue)
  /-- CARD_WRITE_DONE (R47). A movement's card write completes: holds are removed, the ring is updated, the reply is handed over, the lock passes on and the movement joins the accrual queue. -/
  | cardWriteDone
  /-- CARD_WRITE_FAILS (R48). A card write fails twice, the store goes to FAULT, and the movement completes reduced with a STORE-FAULT reply carrying j. -/
  | cardWriteFails (left : Residue)
  /-- ACCRUAL_START (R82). The MAU takes the record one above the totals' last applied number once it is queued and the store is NORMAL, and begins its accrual. -/
  | accrualStart
  /-- ACCRUAL_MERCHANT_READ_DONE (R83). Stage 1's merchant record read completes and the effect and commission step are applied and written, or skipped. -/
  | accrualMerchantReadDone
  /-- ACCRUAL_MERCHANT_WRITE_DONE (R83). Stage 1's merchant write completes or fails, and stage 2 applies the effect to the totals working copy. -/
  | accrualMerchantWriteDone (failed : Option Residue)
  /-- TOTALS_WRITE_DONE (R131). A verified totals write completes, finishing its accrual stage, walk end, release, advice or epoch write, and the next due totals write is issued. -/
  | totalsWriteDone
  /-- TOTALS_WRITE_FAILS (R131). A totals write fails twice, the store goes to FAULT, and a changed field returns to its earlier value. -/
  | totalsWriteFails (left : Residue)
  /-- COMMIT_MARK_DONE (R122). The commit part is written, record j is COMMITTED, the pending count falls and the next accrual or append may follow. -/
  | commitMarkDone
  /-- COMMIT_MARK_FAILS (R122). The commit write fails twice, the store goes to FAULT and the record stays PENDING. -/
  | commitMarkFails (left : Residue)
  /-- CLOSE_WALK_START (R95). The MAU reaches a PERIOD-END marker, sets the list BUILDING and begins eight passes over the merchant records. -/
  | closeWalkStart
  /-- WALK_MERCHANT_READ_DONE (R96). A walk read completes and the merchant is copied from its stored result, skipped, or computed and written. -/
  | walkMerchantReadDone
  /-- WALK_MERCHANT_WRITE_DONE (R98). The walk's verified merchant write completes and its payout record is added to the list, with CLOSED admission where due. -/
  | walkMerchantWriteDone
  /-- ADVICE_READ_DONE (R123). A journal read for advice completes, and reading goes on, stops, or sets FAULT on a bad check. -/
  | adviceReadDone
  /-- MERCHANT_STATUS_READ_DONE (R90). The merchant record read for MERCHANT-STATUS completes and the reply is formed or refused STORE-FAULT. -/
  | merchantStatusReadDone
  /-- READ_TOTALS_READ_DONE (R134). The totals read for READ-TOTALS completes and the reply is formed or refused STORE-FAULT. -/
  | readTotalsReadDone
  /-- PROGRAMME_WRITE_DONE (R5). The window record write completes and the PWU copy takes the new fields before the reply OK. -/
  | programmeWriteDone
  /-- TARIFF_WRITE_DONE (R72). The tariff record write completes and the on-chip class copy takes the new fields before the reply OK. -/
  | tariffWriteDone
  /-- SET_MERCHANT_READ_DONE (R73). The merchant record read for SET-MERCHANT completes and the write back is issued, or the request is refused STORE-FAULT. -/
  | setMerchantReadDone
  /-- SET_MERCHANT_WRITE_DONE (R73). The merchant record write completes and the admission table takes the new state, class and group. -/
  | setMerchantWriteDone
  /-- LINE_CONFIG_WRITE_DONE (R173). A line or station record write completes and the controller's copy changes as R144 gives. -/
  | lineConfigWriteDone
  /-- CONFIG_WRITE_FAILS (R125). A configuration write fails twice, the store goes to FAULT and the request is refused STORE-FAULT. -/
  | configWriteFails (left : Residue)
  /-- FORMAT_WRITE_DONE (R171). One FORMAT write completes and the next write of the stage or of the next stage is issued. -/
  | formatWriteDone
  /-- FORMAT_WRITE_FAILS (R172). A FORMAT write fails twice, the store goes to FAULT and the part enters UNFORMATTED. -/
  | formatWriteFails (left : Residue)
  /-- SWEEP_READ_DONE (R137). A sweep read completes, its purses are added or counted unreadable, the cursor advances and the next read is issued. -/
  | sweepReadDone
  /-- REBUILD_READ_DONE (R109). A list-rebuild read completes and a merchant closed in the period is copied into the list, or a bad check stops the rebuild. -/
  | rebuildReadDone
  /-- STARTUP_TOTALS_READ_DONE (R127). The start-up read of the totals record completes and the part goes UNFORMATTED, to SETUP in FAULT, or raises the epoch and reads CONFIG. -/
  | startupTotalsReadDone
  /-- STARTUP_CONFIG_READ_DONE (R127). A window, tariff, line or station record read at start-up completes and is loaded, or loaded as reset value on a bad check. -/
  | startupConfigReadDone
  /-- JOURNAL_SCAN_READ_DONE (R128). A journal slot read of the start-up scan completes and the scan goes on or stops, setting the journal figures. -/
  | journalScanReadDone
  /-- RECOVERY_CARD_READ_DONE (R129). Recovery's card read completes and the card step is done or a card write from the journal body is issued. -/
  | recoveryCardReadDone
  /-- RECOVERY_CARD_WRITE_DONE (R129). Recovery's card write completes, or fails and ends recovery in FAULT. -/
  | recoveryCardWriteDone (failed : Option Residue)
  /-- ADMISSION_LOAD_READ_DONE (R78). A merchant record read for the admission load completes and its entry is loaded. -/
  | admissionLoadReadDone
  /-- OFFER_START (R147). After the quiet time the controller sends a TURN or REPLY frame to the next eligible entry. -/
  | offerStart (line : Fin 4)
  /-- BROADCAST_START (R153). After the quiet time the controller sends a pending SERVICE-OPEN or PERIOD-CHANGE frame with merchant byte 0. -/
  | broadcastStart (line : Fin 4)
  /-- EMPTY_ROUND_WAIT_EXPIRY (R146). A round with no eligible entry ends after one answer window and the next round begins. -/
  | emptyRoundWaitExpiry (line : Fin 4)
  /-- OFFER_SENT (R147). The last byte of a TURN or REPLY frame is sent, DE goes low and the answer window starts. -/
  | offerSent (line : Fin 4)
  /-- BROADCAST_SENT (R153). The last byte of an all-station frame is sent and the line returns to IDLE-GAP. -/
  | broadcastSent (line : Fin 4)
  /-- GOOD_ANSWER (R148). A valid PASS or REQUEST from the offered station resets its counters, makes it PRESENT and delivers a held reply. -/
  | goodAnswer (line : Fin 4) (frame : List Byte)
  /-- ANSWER_WINDOW_EXPIRY (R149). No byte arrives in the answer window: a miss is counted and the entry may become SILENT. -/
  | answerWindowExpiry (line : Fin 4)
  /-- ANSWER_GAP_EXPIRY (R147). A gap longer than the answer window breaks off an answer, ending the offer as a bad answer. -/
  | answerGapExpiry (line : Fin 4)
  /-- BAD_ANSWER (R150). A garbled or foreign answer counts an error and bad answer, and at 3 makes the entry FAULTY. -/
  | badAnswer (line : Fin 4) (frame : List Byte)
  /-- WALK_MERCHANT_WRITE_FAILS (R102). The close walk's verified write of a merchant record fails its verification twice: the store goes to FAULT with a STORE-FAULT notice of region MERCHANTS and the marker's number, the merchant gets no list entry, and the walk stops with the list BUILDING. -/
  | walkMerchantWriteFails (left : Residue)
  /-- NO_REQUEST_KIND_FRAME (R160). An accepted host frame whose kind byte is 0x80 or above, or names no request kind, passes the tag test and is refused BAD-REQUEST at the field check with a reply of kind 0xFE. -/
  | noRequestKindFrame (kind : Byte) (tag : Byte) (body : List Byte)
  deriving DecidableEq, Repr

end Sys2Proof
end

