-- ==== Sys2Proof/Machine/State.lean ====
section
/-! DEFINITION. The state of the part as plain data: the queue of commands, settlement memory and the nine blocks, each
field with the rule that names it; the outcomes that stop the model; and the state right after a power-on reset. -/

namespace Sys2Proof.Machine
open Sys2Proof

/-! ### Codes of states, kinds and statuses (R178) -/

/-- Card states (R13). -/
inductive CardState where
  | blank | active | blocked | cashed
  deriving DecidableEq, Repr

/-- Merchant states (R69, R74). -/
inductive MerchantState where
  | unconfigured | active | suspended | closing | closed
  deriving DecidableEq, Repr

/-- A station's health (R143). -/
inductive StationState where
  | absent | present | silent | faulty | disabled
  deriving DecidableEq, Repr

/-- What a line controller is doing on the wire (R143). -/
inductive LineState where
  | closed | idleGap | offering | delivering | broadcasting
  deriving DecidableEq, Repr

/-- The phases (R169); `startup` is the span after a reset in which the part is in no phase. -/
inductive Phase where
  | startup | unformatted | setup | service
  deriving DecidableEq, Repr

/-- Store state (R125). -/
inductive StoreState where
  | normal | fault
  deriving DecidableEq, Repr

/-- State of the payout list (R103). -/
inductive ListState where
  | empty | building | complete
  deriving DecidableEq, Repr

/-- Sweep state (R135). -/
inductive SweepState where
  | idle | running
  deriving DecidableEq, Repr

/-- Hold state (R26). -/
inductive HoldState where
  | active | claimed
  deriving DecidableEq, Repr

/-- The purse spent first (R3, R18). -/
inductive PurseOrder where
  | paidFirst | bonusFirst
  deriving DecidableEq, Repr

/-- Movement kinds and the two other kinds of journal record (R114, R178). -/
inductive MoveKind where
  | activate | load | capture | redeem | lateCapture | void | refund | cashOut | cardState | merchantState | periodEnd
  deriving DecidableEq, Repr

/-- Status of a payout record (R97). -/
inductive PayStatus where
  | paid | nil | debt | withheld | final | finalDebt
  deriving DecidableEq, Repr

/-- Regions of settlement memory (R110). -/
inductive Region where
  | config | totals | merchants | journal | cards
  deriving DecidableEq, Repr

/-- Statuses of replies (R178). -/
inductive Status where
  | ok | partialOk | busy | badRequest | notInPhase | unknownCard | wrongSlot | cardState | programmeRule | insufficient
  | overLimit | holdLimit | holdTableFull | holdGone | exceedsHold | holdsPresent | merchantState | voidTooLate
  | journalFull | storeFault | closeRefused | notYet | listEnd | configRefused | formatRefused
  deriving DecidableEq, Repr

/-- Causes of a reset (R130). -/
inductive ResetCause where
  | powerOn | resetPin | restart
  deriving DecidableEq, Repr

/-- Outcomes of a sweep (R139, R182). -/
inductive SweepOutcome where
  | isMatch | mismatch | aborted
  deriving DecidableEq, Repr

/-- Where a request came from (R20): a station, or the link under a tag. -/
inductive Origin where
  | station (line entry : Nat)
  | link (tag : Nat)
  deriving DecidableEq, Repr

/-! ### Replies and notices -/

/-- A reply as its block forms it (R161, R179): the request's kind code, the status, the flags of the owning block, the
reason, the figures, and the journal number it carries (R152; 0 where it carries none). -/
structure Reply where
  kind : Nat
  status : Status
  late : Bool := false
  clamped : Bool := false
  reason : Nat := 0
  figures : List Byte := []
  journal : Nat := 0
  deriving DecidableEq, Repr

/-- A reply frame of the outbound queue (R161). `kind` is the frame's kind byte; `tagged` says that its tag is in the
in-flight table; `resets` that the part resets when its last byte is sent (R167, R172); `begun` that its first byte is
sent, with NOTICES-PENDING as sampled then. -/
structure OutFrame where
  kind : Nat
  tag : Nat
  reply : Reply
  tagged : Bool
  resets : Bool := false
  begun : Bool := false
  noticesPending : Bool := false
  deriving DecidableEq, Repr

structure StartedNotice where
  cause : ResetCause
  epoch : Nat
  recovered : Nat
  deriving DecidableEq, Repr

structure StoreFaultNotice where
  region : Region
  journal : Nat
  deriving DecidableEq, Repr

structure CloseDoneNotice where
  period : Nat
  records : Nat
  payout : Int
  deriving DecidableEq, Repr

structure SweepDoneNotice where
  outcome : SweepOutcome
  paid : Int
  bonus : Int
  expectedPaid : Int
  expectedBonus : Int
  slots : Nat
  unreadable : Nat
  deriving DecidableEq, Repr

structure StationChangeNotice where
  line : Nat
  entry : Nat
  state : StationState
  further : Nat
  deriving DecidableEq, Repr

structure ReplyDiscardedNotice where
  line : Nat
  entry : Nat
  journal : Nat
  count : Nat
  deriving DecidableEq, Repr

/-- The notice set: at most one pending notice of each of the eight kinds (R162). -/
structure Notices where
  started : Option StartedNotice := none
  storeFault : Option StoreFaultNotice := none
  journalHigh : Option Nat := none
  closeDone : Option CloseDoneNotice := none
  sweepDone : Option SweepDoneNotice := none
  stationChange : Option StationChangeNotice := none
  holdsExpired : Option Nat := none
  replyDiscarded : Option ReplyDiscardedNotice := none
  deriving DecidableEq, Repr

/-- Host Link Port (R157 to R168). -/
structure Hlp where
  /-- The strap pins BR1 and BR0 as the board holds them. -/
  straps : BitVec 2
  /-- Link rate in bit/s, sampled from the straps at reset. -/
  rate : Nat
  /-- The inbound frame buffer; the receiver hunts while it is empty. -/
  inbound : List Byte
  /-- The receiver discards every byte (R167, R172). -/
  deaf : Bool
  /-- The in-flight request table: the tags taken. -/
  inFlight : List Nat
  /-- The outbound queue, oldest first; the head is the frame on TXD. -/
  outbound : List OutFrame
  notices : Notices
  /-- Pin ATTN_N; true is low (R163). -/
  attnLow : Bool
  deriving DecidableEq, Repr

/-! ### Till lines -/

/-- An entry of a station table (R143). -/
structure Station where
  merchant : Nat
  lane : Nat
  enabled : Bool
  state : StationState
  misses : Nat
  bad : Nat
  run : Nat
  errors : Nat
  outstanding : Bool
  held : Option Reply
  deriving DecidableEq, Repr

/-- The reset value of a station entry (R144). -/
def stationReset : Station :=
  { merchant := 0, lane := 0, enabled := false, state := .disabled, misses := 0, bad := 0, run := 0, errors := 0,
    outstanding := false, held := none }

/-- A line's configuration: the code of its rate (R177), its answer window in ms, and its enabled flag (R143). -/
structure LineCopy where
  rate : Nat
  window : Nat
  enabled : Bool
  deriving DecidableEq, Repr

/-- The reset value of a line copy: 38,400 bit/s, 4 ms, not enabled (R144). -/
def lineCopyReset : LineCopy := { rate := 0, window := 4, enabled := false }

/-- A till line controller (R143, R146, R147, R153). -/
structure Line where
  state : LineState
  copy : LineCopy
  stations : Vector Station 48
  round : Nat
  position : Nat
  serviceOpen : Option Nat
  periodChange : Option Nat
  /-- Driver enable pin; true is high. -/
  de : Bool
  /-- The entry of the offer in progress. -/
  offered : Option Nat
  /-- The answer window of the offer is running (R147). -/
  answering : Bool
  /-- The entry was disabled during the offer, so its answer's content is dropped (R154). -/
  dropAnswer : Bool
  /-- An entry has been offered in this round (R146). -/
  offeredInRound : Bool
  /-- The line waits out a round with no eligible entry (R146). -/
  emptyWait : Bool
  /-- The frame on the wire while the controller sends (R183). -/
  wire : List Byte
  deriving DecidableEq, Repr

/-- A line controller after reset (R144, R156). -/
def lineReset : Line :=
  { state := .closed, copy := lineCopyReset, stations := Vector.replicate 48 stationReset, round := 0, position := 0,
    serviceOpen := none, periodChange := none, de := false, offered := none, answering := false, dropAnswer := false,
    offeredInRound := false, emptyWait := false, wire := [] }

/-! ### Programme windows, tariffs, admission -/

/-- A programme window (R3). -/
structure Window where
  enabled : Bool
  low : Nat
  high : Nat
  base : Nat
  maxBalance : Nat
  bonusRate : Nat
  bonusThreshold : Nat
  bonusCap : Nat
  order : PurseOrder
  reloadable : Bool
  cashable : Bool
  lifetime : Nat
  groupMask : Nat
  deriving DecidableEq, Repr

/-- A window disabled with every field zero (R4). -/
def windowReset : Window :=
  { enabled := false, low := 0, high := 0, base := 0, maxBalance := 0, bonusRate := 0, bonusThreshold := 0, bonusCap := 0,
    order := .paidFirst, reloadable := false, cashable := false, lifetime := 0, groupMask := 0 }

/-- A tariff class (R71). -/
structure Tariff where
  rate : Nat
  fee : Nat
  cap : Nat
  deriving DecidableEq, Repr

/-- A tariff class with every field 0 (R71). -/
def tariffReset : Tariff := { rate := 0, fee := 0, cap := 0 }

/-- An entry of the admission table (R78). -/
structure Admission where
  state : MerchantState
  cls : Nat
  group : Nat
  deriving DecidableEq, Repr

/-- The reset value of an admission entry (R78). -/
def admissionReset : Admission := { state := .unconfigured, cls := 0, group := 0 }

/-! ### Records of settlement memory, as read -/

/-- A card record (R10) without its check. -/
structure CardRec where
  state : CardState
  number : Nat
  paid : Nat
  bonus : Nat
  lastJournal : Nat
  activation : Nat
  lastPeriod : Nat
  count : Nat
  deriving DecidableEq, Repr

/-- The totals record (R131) without its check. -/
structure Totals where
  mark : Nat
  capacity : Nat
  epoch : Nat
  accrued : Nat
  released : Nat
  oldest : Nat
  lastApplied : Nat
  outPaid : Int
  outBonus : Int
  bonusIssued : Int
  bonusForfeited : Int
  paidOut : Int
  deriving DecidableEq, Repr

/-- The working copy with every field 0 (R131). -/
def totalsReset : Totals :=
  { mark := 0, capacity := 0, epoch := 0, accrued := 0, released := 0, oldest := 0, lastApplied := 0, outPaid := 0,
    outBonus := 0, bonusIssued := 0, bonusForfeited := 0, paidOut := 0 }

/-- The open bank of a merchant record (R70). -/
structure Bank where
  g : Int
  captures : Nat
  bf : Int
  v : Int
  voids : Nat
  f : Int
  refunds : Nat
  s : Int
  sales : Nat
  c : Int
  rho : Nat
  x : Int
  deriving DecidableEq, Repr

/-- An untouched bank (R70). -/
def bankReset : Bank :=
  { g := 0, captures := 0, bf := 0, v := 0, voids := 0, f := 0, refunds := 0, s := 0, sales := 0, c := 0, rho := 0, x := 0 }

/-- A merchant's payout record (R97). -/
structure Payout where
  merchant : Nat
  group : Nat
  period : Nat
  state : MerchantState
  g : Int
  captures : Nat
  bf : Int
  v : Int
  voids : Nat
  f : Int
  refunds : Nat
  s : Int
  sales : Nat
  c : Int
  x : Int
  carryBefore : Int
  n : Int
  payout : Int
  carryAfter : Int
  status : PayStatus
  deriving DecidableEq, Repr

/-- A merchant record (R69) without its check. -/
structure MerchantRec where
  merchant : Nat
  cls : Nat
  group : Nat
  state : MerchantState
  carry : Int
  lastApplied : Nat
  lastClosed : Nat
  bank : Bank
  lastResult : Option Payout
  deriving DecidableEq, Repr

/-- The body of a journal record (R114, R180) without its check. `newState` and `reqKind` are bytes 7 and 15; `ref` is the
number in bytes 34 to 39. -/
structure JBody where
  number : Nat
  kind : MoveKind
  newState : Nat
  period : Nat
  origin : Origin
  merchant : Nat
  reqKind : Nat
  card : Nat
  slot : Nat
  amount : Nat
  paidDelta : Int
  bonusDelta : Int
  ref : Nat
  imagePaid : Nat
  imageBonus : Nat
  imageActivation : Nat
  imageCount : Nat
  deriving DecidableEq, Repr

/-- The sums a group-end or list-end record carries (R99). -/
structure PaySums where
  g : Int
  v : Int
  f : Int
  s : Int
  c : Int
  x : Int
  payout : Int
  deriving DecidableEq, Repr

/-- An entry of the payout list (R99). -/
inductive PayEntry where
  | merchant (r : Payout)
  | groupEnd (group records : Nat) (sums : PaySums)
  | listEnd (period records groups : Nat) (sums : PaySums)
  deriving DecidableEq, Repr

/-! ### Card Engine and Hold Table -/

/-- The card request kinds that seek a lock (R21). -/
inductive CardKind where
  | activate | load | hold | release | balance | capture | redeem | void | refund | cashOut | block | unblock
  deriving DecidableEq, Repr

/-- A card request with its origin and fields (R20), and the window and slot found at matching (R6, R7). A field the kind
does not carry is 0. -/
structure CardReq where
  origin : Origin
  kind : CardKind
  merchant : Nat
  card : Nat
  amount : Nat := 0
  partialFlag : Bool := false
  epoch : Nat := 0
  serial : Nat := 0
  voided : Nat := 0
  window : Nat := 0
  slot : Nat := 0
  deriving DecidableEq, Repr

/-- A decided hold on its way to the Hold Table (R31). -/
structure HoldPlan where
  held : Nat
  paid : Nat
  bonus : Nat
  available : Nat
  deriving DecidableEq, Repr

/-- A movement as the Card Engine hands it on (R43): the request it answers, and what it decided. `readCount` and
`readActivation` come from the record read (R114); `held` is the claimed hold's held amount. -/
structure Movement where
  kind : MoveKind
  req : CardReq
  amount : Nat
  paidDelta : Int
  bonusDelta : Int
  newState : CardState
  paid : Nat
  bonus : Nat
  readCount : Nat
  readActivation : Nat
  capturePeriod : Nat := 0
  held : Nat := 0
  clamped : Bool := false
  deriving DecidableEq, Repr

/-- Where the decision of a lock's owner stands (R23): its card read is at the port; its hold goes to the Hold Table (with
the plan); its claim goes there (with the record read); its movement is at append or beyond. -/
inductive Deciding where
  | reading
  | entering (h : HoldPlan)
  | claiming (r : CardRec)
  | moving
  deriving DecidableEq, Repr

/-- An occupied card lock slot (R20). -/
structure LockSlot where
  card : Nat
  owner : CardReq
  waiters : List CardReq
  doing : Deciding
  deriving DecidableEq, Repr

/-- An entry of the capture ring (R59). -/
structure RingEntry where
  journal : Nat
  card : Nat
  merchant : Nat
  paid : Nat
  bonus : Nat
  period : Nat
  voided : Bool
  deriving DecidableEq, Repr

/-- The Card Engine: lock table (R20) and capture ring (R59, oldest first). -/
structure CardEngine where
  locks : Vector (Option LockSlot) 16
  ring : List RingEntry
  deriving DecidableEq, Repr

/-- A hold entry (R26). -/
structure Hold where
  epoch : Nat
  serial : Nat
  card : Nat
  slot : Nat
  merchant : Nat
  origin : Origin
  requested : Nat
  held : Nat
  paid : Nat
  bonus : Nat
  expiry : Nat
  state : HoldState
  deriving DecidableEq, Repr

/-- The Hold Table (R26 to R34). `holds` stands in the order the entries were made, so a card's chain is its entries in
this order (R27). -/
structure HoldTable where
  holds : List Hold
  serial : Nat
  epoch : Nat
  seconds : Nat
  timeSet : Bool
  deriving DecidableEq, Repr

/-! ### Accesses of the memory port -/

/-- The totals writes of R131 by purpose. -/
inductive TotalsJob where
  | epoch
  | accrual
  | walkEnd
  | release (tag period : Nat)
  | advice (tag u : Nat) (records : List (List Byte))
  deriving DecidableEq, Repr

/-- A configuration record to be written, with the request that asks for it (R5, R72, R173). -/
inductive ConfigItem where
  | window (index : Nat) (w : Window)
  | tariff (cls : Nat) (t : Tariff)
  | line (line : Nat) (c : LineCopy)
  | station (line entry merchant lane : Nat) (enabled : Bool)
  deriving DecidableEq, Repr

/-- An access of the memory port, in service or waiting (R112). An `append` waits for its tests; once they pass it is the
`appendWrite` of a completed body (R117). -/
inductive PortOp where
  | append
  | appendWrite (b : JBody)
  | commitMark (j : Nat) (delta : Int) (rem : Nat)
  | cardWrite (lock : Nat) (m : Movement) (j p : Nat)
  | recoveryCardWrite (b : JBody)
  | cardRead (lock slot : Nat)
  | recoveryCardRead (b : JBody)
  | accrualRead (m : Nat)
  | accrualWrite (m : Nat) (r : MerchantRec)
  | walkRead (m : Nat)
  | walkWrite (m : Nat) (r : MerchantRec)
  | setMerchantRead (tag m cls group : Nat)
  | setMerchantWrite (tag m : Nat) (before : MerchantState) (r : MerchantRec)
  | statusRead (tag m : Nat)
  | admissionRead (m : Nat)
  | rebuildRead (m : Nat)
  | startupTotalsRead
  | totalsRead (tag : Nat)
  | totalsWrite (job : TotalsJob) (copy : Totals) (earlier : Nat)
  | configRead (k : Nat)
  | configWrite (item : ConfigItem)
  | formatWrite (stage index : Nat) (address : Nat) (bytes : List Byte)
  | adviceRead (j : Nat)
  | scanRead (n : Nat)
  | sweepRead (slot : Nat)
  deriving DecidableEq, Repr

/-! ### Journal Controller, Merchant Accrual Unit, Period Close Unit, Audit Sweep Unit -/

/-- The three requests that change a merchant's state (R75). -/
inductive AdminKind where
  | suspend | resume | close
  deriving DecidableEq, Repr

/-- A record waiting to be appended (R116). -/
inductive AppendItem where
  | movement (lock : Nat) (m : Movement)
  | admin (tag : Nat) (k : AdminKind) (merchant : Nat)
  | cutoff (tag : Nat)
  deriving DecidableEq, Repr

/-- What a request of R170 asks for. -/
inductive ConfigWhat where
  | item (i : ConfigItem)
  | merchant (m cls group : Nat)
  | openService
  | format (capacity : Nat)
  deriving DecidableEq, Repr

/-- A request of R170: its tag, its kind code, and what it asks for. -/
structure ConfigReq where
  tag : Nat
  kind : Nat
  what : ConfigWhat
  deriving DecidableEq, Repr

/-- A running FORMAT (R171). -/
structure FormatJob where
  tag : Nat
  capacity : Nat
  stage : Nat
  written : Nat
  deriving DecidableEq, Repr

/-- A TAKE-ADVICE being served (R123): the records read so far, from `u` upward. -/
structure AdviceJob where
  tag : Nat
  count : Nat
  u : Nat
  records : List (List Byte)
  deriving DecidableEq, Repr

/-- Where start-up stands (R127 to R130): `scan n found` reads number n, with the PENDING bodies found below it; `recover`
holds the PENDING records left, and whether the card step of the first is done. -/
inductive StartStage where
  | none
  | totals
  | epoch
  | config (k : Nat)
  | scan (n : Nat) (found : List JBody)
  | recover (todo : List JBody) (cardDone : Bool)
  | rebuild
  | admission (m : Nat)
  deriving DecidableEq, Repr

/-- The Journal Controller (R110 to R130, R169 to R173). -/
structure Jc where
  phase : Phase
  stage : StartStage
  cause : ResetCause
  recovered : Nat
  store : StoreState
  next : Nat
  oldest : Nat
  untaken : Nat
  pendingCount : Nat
  appendQueue : List AppendItem
  appendIssued : Bool
  appendPeriod : Nat
  admission : Vector Admission 240
  tariffs : Vector Tariff 8
  serving : Option PortOp
  waiting : List PortOp
  cfg : Option ConfigReq
  cfgWaiting : List ConfigReq
  format : Option FormatJob
  advice : Option AdviceJob
  adviceWaiting : List (Nat × Nat)
  deriving DecidableEq, Repr

/-- An accrual in progress (R83). -/
structure Accrual where
  body : JBody
  stage2 : Bool
  delta : Int
  rem : Nat
  deriving DecidableEq, Repr

/-- A close walk in progress (R95): the marker's number, the period, the pass and the merchant. -/
structure Walk where
  j : Nat
  period : Nat
  group : Nat
  merchant : Nat
  deriving DecidableEq, Repr

/-- The Merchant Accrual Unit (R81 to R89, R131). -/
structure Mau where
  copy : Totals
  queue : List JBody
  accrual : Option Accrual
  walk : Option Walk
  totalsBusy : Option TotalsJob
  totalsDue : List TotalsJob
  deriving DecidableEq, Repr

/-- The Period Close Unit (R103, R106, R109). -/
structure Pcu where
  entries : List PayEntry
  cursor : Nat
  state : ListState
  period : Nat
  releasing : Bool
  rebuild : Option (Nat × Nat)
  deriving DecidableEq, Repr

/-- The Audit Sweep Unit (R135). -/
structure Asu where
  state : SweepState
  cursor : Nat
  paid : Int
  bonus : Int
  unreadable : Nat
  outstanding : Bool
  stale : Bool
  deriving DecidableEq, Repr

/-- The whole machine. `mem` is settlement memory (R110): address and byte pairs, addresses strictly rising, no listed
byte equal to what an unlisted address reads as. -/
structure State where
  pending : List Instr
  mem : List Host.Cell
  hlp : Hlp
  lines : Vector Line 4
  windows : Vector Window 8
  ce : CardEngine
  ht : HoldTable
  jc : Jc
  mau : Mau
  pcu : Pcu
  asu : Asu
  deriving DecidableEq, Repr

/-- Why the model stops with a fault. -/
inductive Fault where
  /-- Raised when an access completes whose record lies outside the CARDS region of R110 (slot 0, or a slot above the
  greatest capacity): the spec says no such address exists. Safe: the part's answer is not modelled, the model stops. -/
  | noSuchAddress (slot : Nat)
  deriving DecidableEq, Repr

/-- Why the model refuses a command. -/
inductive Refusal where
  /-- Raised by exec for a command whose meaning is not written yet. Safe: the model stops. -/
  | notModelled (mnemonic : String)
  deriving DecidableEq, Repr

/-! ### Reset -/

/-- The link rate that the straps BR1 and BR0 set (00, pin summary; R168). -/
def strapRate (straps : BitVec 2) : Nat :=
  match straps.toNat with
  | 0 => 115200
  | 1 => 230400
  | 2 => 460800
  | _ => 921600

/-- Every block right after a reset of the given cause, with settlement memory, the straps and the command queue as they
stand (R4, R20, R41, R71, R78, R103, R115, R116, R131, R135, R144, R156, R168): start-up has begun, with its read of the
totals record in service (R127). -/
def resetWith (cause : ResetCause) (straps : BitVec 2) (mem : List Host.Cell) (pending : List Instr) : State where
  pending := pending
  mem := mem
  hlp := { straps := straps, rate := strapRate straps, inbound := [], deaf := false, inFlight := [], outbound := [],
           notices := {}, attnLow := false }
  lines := Vector.replicate 4 lineReset
  windows := Vector.replicate 8 windowReset
  ce := { locks := Vector.replicate 16 none, ring := [] }
  ht := { holds := [], serial := 1, epoch := 0, seconds := 0, timeSet := false }
  jc := { phase := .startup, stage := .totals, cause := cause, recovered := 0, store := .normal, next := 0, oldest := 0,
          untaken := 0, pendingCount := 0, appendQueue := [], appendIssued := false, appendPeriod := 0,
          admission := Vector.replicate 240 admissionReset, tariffs := Vector.replicate 8 tariffReset,
          serving := some .startupTotalsRead, waiting := [], cfg := none, cfgWaiting := [], format := none,
          advice := none, adviceWaiting := [] }
  mau := { copy := totalsReset, queue := [], accrual := none, walk := none, totalsBusy := none, totalsDue := [] }
  pcu := { entries := [], cursor := 0, state := .empty, period := 0, releasing := false, rebuild := none }
  asu := { state := .idle, cursor := 0, paid := 0, bonus := 0, unreadable := 0, outstanding := false, stale := false }

/-- The part right after power-on, on a fresh settlement memory (log 1), with the straps at 00 (log 2), nothing commanded. -/
def State.reset : State := resetWith .powerOn 0 [] []

end Sys2Proof.Machine
end

