-- ==== Sys2Proof/Machine/Operands.lean ====
section
/-! DEFINITION. The operand forms of the requests: the code and body length of every request kind (R177), and the field
check of each body (R160, R176): none where the length is wrong, a flag or code byte has no meaning, or a value lies
outside its range. -/

namespace Sys2Proof.Machine
open Sys2Proof

/-- The code of a card request kind (R177). -/
def CardKind.code : CardKind → Nat
  | .activate => 0x01 | .load => 0x02 | .hold => 0x03 | .release => 0x04 | .balance => 0x05 | .capture => 0x06
  | .redeem => 0x07 | .void => 0x08 | .refund => 0x09 | .cashOut => 0x0A | .block => 0x0B | .unblock => 0x0C

/-- The card request kind of a code (R177). -/
def cardKindOf? : Nat → Option CardKind
  | 0x01 => some .activate | 0x02 => some .load | 0x03 => some .hold | 0x04 => some .release | 0x05 => some .balance
  | 0x06 => some .capture | 0x07 => some .redeem | 0x08 => some .void | 0x09 => some .refund | 0x0A => some .cashOut
  | 0x0B => some .block | 0x0C => some .unblock | _ => none

/-- The body length of a card request kind (R177). -/
def CardKind.length : CardKind → Nat
  | .activate | .load | .refund | .release => 8
  | .hold | .redeem => 9
  | .balance | .cashOut | .block | .unblock => 5
  | .capture | .void => 11

/-- The kinds a station may send (R151). -/
def CardKind.fromStation : CardKind → Bool
  | .cashOut | .block | .unblock => false
  | _ => true

/-- Body length of each request kind; none for a code that names no request kind (R177). -/
def bodyLength? : Nat → Option Nat
  | 0x01 | 0x02 | 0x04 | 0x09 => some 8
  | 0x03 | 0x07 => some 9
  | 0x05 | 0x0A | 0x0B | 0x0C => some 5
  | 0x06 | 0x08 => some 11
  | 0x10 | 0x11 | 0x12 | 0x18 | 0x1D => some 1
  | 0x13 | 0x19 | 0x1A | 0x1B | 0x1C | 0x20 | 0x21 | 0x30 | 0x31 | 0x33 | 0x3E => some 0
  | 0x28 | 0x29 | 0x2A | 0x2B => some 2
  | 0x32 => some 4
  | 0x38 | 0x3B => some 3
  | 0x39 => some 30
  | 0x3A => some 8
  | 0x3C => some 5
  | 0x3D => some 4
  | _ => none

/-- Whether a value lies in a range that includes both of its ends (00, Ranges). -/
def inRange (lo hi n : Nat) : Bool := decide (lo ≤ n ∧ n ≤ hi)

/-- The card number a card request's body carries, as the bytes a refusal repeats (R179); none of them when the body has
not the kind's length, for then it has no card number field (log 11). -/
def carriedCard (kind : Nat) (body : List Byte) : List Byte :=
  match cardKindOf? kind with
  | some k => if body.length = k.length then (body.drop 1).take 4 else []
  | none => []

/-- The merchant field of a card request (R45): 0 to 240, and 0 alone for CASH-OUT, BLOCK and UNBLOCK. -/
def merchantAllowed (k : CardKind) (m : Nat) : Bool :=
  match k with
  | .cashOut | .block | .unblock => decide (m = 0)
  | _ => inRange 0 240 m

/-- The field check of a card request (R1, R2, R29, R45, R61, R176, R177); `body` begins with the merchant byte. None says that
some field fails, which is all that the reply tells (reason FIELD, log 36). -/
def cardRequest? (k : CardKind) (o : Origin) (body : List Byte) : Option CardReq :=
  let req : CardReq := { origin := o, kind := k, merchant := field body 0 1, card := field body 1 4 }
  if body.length ≠ k.length ∨ merchantAllowed k req.merchant = false ∨ req.card = 0 then none
  else match k with
    | .activate | .load | .refund =>
      if inRange 1 Config.maxAmount (field body 5 3) then some { req with amount := field body 5 3 } else none
    | .hold | .redeem =>
      if inRange 1 Config.maxAmount (field body 5 3) && inRange 0 1 (field body 8 1)
      then some { req with amount := field body 5 3, partialFlag := decide (field body 8 1 = 1) } else none
    | .release =>
      if inRange 1 65535 (field body 6 2) then some { req with epoch := field body 5 1, serial := field body 6 2 } else none
    | .capture =>
      if inRange 1 65535 (field body 6 2) && inRange 1 Config.maxAmount (field body 8 3)
      then some { req with epoch := field body 5 1, serial := field body 6 2, amount := field body 8 3 } else none
    | .void =>
      if inRange 1 Config.maxJournal (field body 5 6) then some { req with voided := field body 5 6 } else none
    | .balance | .cashOut | .block | .unblock => some req

/-- A body with no field. -/
def noFields? (body : List Byte) : Option Unit := if body.length = 0 then some () else none

/-- A body that names a merchant from 1 to 240 (R75, R90). -/
def merchantField? (body : List Byte) : Option Nat :=
  if body.length = 1 && inRange 1 Config.merchants (field body 0 1) then some (field body 0 1) else none

/-- The count of a TAKE-ADVICE, 1 to 3 (R123). -/
def adviceCount? (body : List Byte) : Option Nat :=
  if body.length = 1 && inRange 1 3 (field body 0 1) then some (field body 0 1) else none

/-- A line of 0 to 3 and an entry of 0 to 47 (R154). -/
def stationFields? (body : List Byte) : Option (Nat × Nat) :=
  if body.length = 2 && inRange 0 3 (field body 0 1) && inRange 0 47 (field body 1 1)
  then some (field body 0 1, field body 1 1) else none

/-- A line of 0 to 3 and a selector: an entry, or none for WEAKEST (R155, R177). -/
def lineStatusFields? (body : List Byte) : Option (Nat × Option Nat) :=
  if body.length = 2 && inRange 0 3 (field body 0 1) then
    if field body 1 1 = 0xFF then some (field body 0 1, none)
    else if inRange 0 47 (field body 1 1) then some (field body 0 1, some (field body 1 1)) else none
  else none

/-- The value of a SET-TIME (R35). -/
def timeField? (body : List Byte) : Option Nat := if body.length = 4 then some (field body 0 4) else none

/-- The slot capacity of a FORMAT (R171). -/
def formatFields? (body : List Byte) : Option Nat :=
  if body.length = 3 && inRange 1 Config.maxSlots (field body 0 3) then some (field body 0 3) else none

/-- The window number (as an index from 0) and fields of a SET-PROGRAMME (R3, R5, R177). -/
def programmeFields? (body : List Byte) : Option ConfigItem :=
  let n := field body
  if body.length = 30 && inRange 1 8 (n 0 1) && inRange 0 1 (n 1 1) && inRange 1 Config.maxWord (n 2 4)
      && inRange 1 Config.maxWord (n 6 4) && inRange 1 Config.maxSlots (n 10 3) && inRange 1 Config.maxAmount (n 13 3)
      && inRange 0 5000 (n 16 2) && inRange 0 Config.maxAmount (n 18 3) && inRange 0 Config.maxAmount (n 21 3)
      && inRange 0 1 (n 24 1) && inRange 0 1 (n 25 1) && inRange 0 1 (n 26 1) && inRange 10 3600 (n 27 2) then
    some (.window (n 0 1 - 1)
      { enabled := decide (n 1 1 = 1), low := n 2 4, high := n 6 4, base := n 10 3, maxBalance := n 13 3, bonusRate := n 16 2,
        bonusThreshold := n 18 3, bonusCap := n 21 3, order := if n 24 1 = 0 then .paidFirst else .bonusFirst,
        reloadable := decide (n 25 1 = 1), cashable := decide (n 26 1 = 1), lifetime := n 27 2, groupMask := n 29 1 })
  else none

/-- The class and fields of a SET-TARIFF (R71, R72). -/
def tariffFields? (body : List Byte) : Option ConfigItem :=
  if body.length = 8 && inRange 0 7 (field body 0 1) && inRange 0 2500 (field body 1 2) && inRange 0 999 (field body 3 2)
      && inRange 0 Config.maxAmount (field body 5 3) then
    some (.tariff (field body 0 1) { rate := field body 1 2, fee := field body 3 2, cap := field body 5 3 })
  else none

/-- The merchant, class and group of a SET-MERCHANT (R73). -/
def setMerchantFields? (body : List Byte) : Option (Nat × Nat × Nat) :=
  if body.length = 3 && inRange 1 Config.merchants (field body 0 1) && inRange 0 7 (field body 1 1) && inRange 0 7 (field body 2 1)
  then some (field body 0 1, field body 1 1, field body 2 1) else none

/-- The fields of a SET-STATION (R173). -/
def setStationFields? (body : List Byte) : Option ConfigItem :=
  if body.length = 5 && inRange 0 3 (field body 0 1) && inRange 0 47 (field body 1 1) && inRange 0 240 (field body 2 1)
      && inRange 0 15 (field body 3 1) && inRange 0 1 (field body 4 1) then
    some (.station (field body 0 1) (field body 1 1) (field body 2 1) (field body 3 1) (decide (field body 4 1 = 1)))
  else none

/-- The fields of a SET-LINE (R173). -/
def setLineFields? (body : List Byte) : Option ConfigItem :=
  if body.length = 4 && inRange 0 3 (field body 0 1) && inRange 0 3 (field body 1 1) && inRange 1 20 (field body 2 1)
      && inRange 0 1 (field body 3 1) then
    some (.line (field body 0 1) { rate := field body 1 1, window := field body 2 1, enabled := decide (field body 3 1 = 1) })
  else none

end Sys2Proof.Machine
end

