-- ==== Sys2Proof/Machine/Memory.lean ====
section
/-! DEFINITION. Settlement memory (R110): address and byte pairs in one canonical form, addresses strictly rising and no
listed byte equal to what an unlisted address reads as. -/

namespace Sys2Proof.Machine
open Sys2Proof

/-- What an address of settlement memory that nothing has written reads as. DESIGN CHOICE (log 1), unsafe: the spec says
nothing of a fresh memory's bytes. -/
def freshByte : Byte := 0

/-- The byte at an address. -/
def Memory.read : List Host.Cell → Nat → Byte
  | [], _ => freshByte
  | (x, c) :: rest, a => if a = x then c else Memory.read rest a

/-- One byte written, the canonical form kept. -/
def Memory.write : List Host.Cell → Nat → Byte → List Host.Cell
  | [], a, b => if b = freshByte then [] else [(a, b)]
  | (x, c) :: rest, a, b =>
    if a < x then (if b = freshByte then (x, c) :: rest else (a, b) :: (x, c) :: rest)
    else if a = x then (if b = freshByte then rest else (a, b) :: rest)
    else (x, c) :: Memory.write rest a b

/-- `n` bytes from an address upward. -/
def Memory.readMany (mem : List Host.Cell) : Nat → Nat → List Byte
  | _, 0 => []
  | a, n + 1 => Memory.read mem a :: Memory.readMany mem (a + 1) n

/-- A list of bytes written from an address upward. -/
def Memory.writeMany : List Host.Cell → Nat → List Byte → List Host.Cell
  | mem, _, [] => mem
  | mem, a, b :: bs => Memory.writeMany (Memory.write mem a b) (a + 1) bs

/-- The canonical form: every address above `from`, strictly rising, no listed byte that reads as an unlisted one. -/
def Memory.wfFrom : Nat → List Host.Cell → Bool
  | _, [] => true
  | lo, (x, c) :: rest => decide (lo ≤ x) && decide (c ≠ freshByte) && Memory.wfFrom (x + 1) rest

/-- The canonical form of settlement memory. -/
def Memory.wf (mem : List Host.Cell) : Bool := Memory.wfFrom 0 mem

/-- What a record's address holds after a write that was cut off or failed (R113, R118, R48): the new bytes, the old ones,
or torn ones. Torn bytes have the record's length and fail its check; others are no torn record and leave the old one. -/
def Memory.leave (mem : List Host.Cell) (a : Nat) (bytes : List Byte) (passes : List Byte → Bool) : Residue → List Host.Cell
  | .written => Memory.writeMany mem a bytes
  | .unwritten => mem
  | .torn bad => if bad.length = bytes.length ∧ passes bad = false then Memory.writeMany mem a bad else mem

/-- Whether a slot number lies in the CARDS region at its greatest (R110). -/
def slotExists (slot : Nat) : Bool := decide (1 ≤ slot ∧ slot ≤ Config.maxSlots)

/-- First byte of card slot `s` (R110). -/
def cardAddress (s : Nat) : Nat := Config.cardsBase + (s - 1) * 32

/-- First byte of merchant m's record (R110). -/
def merchantAddress (m : Nat) : Nat := Config.merchantsBase + (m - 1) * 256

/-- The slot of journal record j (R115). -/
def journalSlot (j : Nat) : Nat := (j - 1) % Config.journalSlots

/-- First byte of the slot of journal record j (R110, R115). -/
def journalAddress (j : Nat) : Nat := Config.journalBase + journalSlot j * 64

/-- First byte of configuration record k: windows, tariff classes, lines, stations in this order (R110). -/
def configAddress (k : Nat) : Nat := k * 32

end Sys2Proof.Machine
end

