-- ==== Sys2Proof/Machine/Records.lean ====
section
/-! DEFINITION. The numeric codes of R176 to R178 and the layouts of the records of settlement memory: card (R10),
merchant (R69, R70), totals (R131), journal (R114, R180), configuration (R110) and the payout records (R181). -/

namespace Sys2Proof.Machine
open Sys2Proof

/-! ### Codes (R178) -/

def CardState.code : CardState → Nat
  | .blank => 0 | .active => 1 | .blocked => 2 | .cashed => 3

def MerchantState.code : MerchantState → Nat
  | .unconfigured => 0 | .active => 1 | .suspended => 2 | .closing => 3 | .closed => 4

def StationState.code : StationState → Nat
  | .absent => 0 | .present => 1 | .silent => 2 | .faulty => 3 | .disabled => 4

def LineState.code : LineState → Nat
  | .closed => 0 | .idleGap => 1 | .offering => 2 | .delivering => 3 | .broadcasting => 4

def StoreState.code : StoreState → Nat
  | .normal => 0 | .fault => 1

def ListState.code : ListState → Nat
  | .empty => 0 | .building => 1 | .complete => 2

def SweepState.code : SweepState → Nat
  | .idle => 0 | .running => 1

def PurseOrder.code : PurseOrder → Nat
  | .paidFirst => 0 | .bonusFirst => 1

def MoveKind.code : MoveKind → Nat
  | .activate => 1 | .load => 2 | .capture => 3 | .redeem => 4 | .lateCapture => 5 | .void => 6 | .refund => 7
  | .cashOut => 8 | .cardState => 9 | .merchantState => 10 | .periodEnd => 11

def PayStatus.code : PayStatus → Nat
  | .paid => 0 | .nil => 1 | .debt => 2 | .withheld => 3 | .final => 4 | .finalDebt => 5

def Region.code : Region → Nat
  | .config => 1 | .totals => 2 | .merchants => 3 | .journal => 4 | .cards => 5

def ResetCause.code : ResetCause → Nat
  | .powerOn => 1 | .resetPin => 2 | .restart => 3

def SweepOutcome.code : SweepOutcome → Nat
  | .isMatch => 1 | .mismatch => 2 | .aborted => 3

def Status.code : Status → Nat
  | .ok => 0x00 | .partialOk => 0x01 | .busy => 0x02 | .badRequest => 0x03 | .notInPhase => 0x04 | .unknownCard => 0x05
  | .wrongSlot => 0x06 | .cardState => 0x07 | .programmeRule => 0x08 | .insufficient => 0x09 | .overLimit => 0x0A
  | .holdLimit => 0x0B | .holdTableFull => 0x0C | .holdGone => 0x0D | .exceedsHold => 0x0E | .holdsPresent => 0x0F
  | .merchantState => 0x10 | .voidTooLate => 0x11 | .journalFull => 0x12 | .storeFault => 0x13 | .closeRefused => 0x14
  | .notYet => 0x15 | .listEnd => 0x16 | .configRefused => 0x17 | .formatRefused => 0x18

/-- The card state a code names; R11 calls a record with another code malformed. -/
def cardStateOf? : Nat → Option CardState
  | 0 => some .blank | 1 => some .active | 2 => some .blocked | 3 => some .cashed | _ => none

/-- The merchant state a stored code stands for (an unnamed code is a free value, log 12). -/
def merchantStateOf (code : Nat) : MerchantState :=
  match namedCode 1 5 code with
  | 0 => .unconfigured | 1 => .active | 2 => .suspended | 3 => .closing | _ => .closed

/-- The purse order a stored code stands for (log 12). -/
def purseOrderOf (code : Nat) : PurseOrder :=
  match namedCode 2 2 code with
  | 0 => .paidFirst | _ => .bonusFirst

/-- The kind of journal record a stored code stands for; codes run from 1 to 11 (log 12). -/
def moveKindOf (code : Nat) : MoveKind :=
  match (if 1 ≤ code then namedCode 3 11 (code - 1) else Config.unnamedCode 3 0 % 11) with
  | 0 => .activate | 1 => .load | 2 => .capture | 3 => .redeem | 4 => .lateCapture | 5 => .void | 6 => .refund
  | 7 => .cashOut | 8 => .cardState | 9 => .merchantState | _ => .periodEnd

/-- The payout status a stored code stands for (log 12). -/
def payStatusOf (code : Nat) : PayStatus :=
  match namedCode 4 6 code with
  | 0 => .paid | 1 => .nil | 2 => .debt | 3 => .withheld | 4 => .final | _ => .finalDebt

/-- An origin in two bytes (R176). -/
def originBytes : Origin → List Byte
  | .station line entry => fig 1 line ++ fig 1 entry
  | .link tag => fig 1 0xFF ++ fig 1 tag

/-- The origin of two stored bytes (R176); any first byte other than 0xFF is read as a line. -/
def originOf (first second : Nat) : Origin :=
  if first = 0xFF then .link second else .station first second

/-! ### Card records (R10) -/

/-- The 32 bytes of a card record. A BLANK slot is all zero. -/
def CardRec.bytes (r : CardRec) : List Byte :=
  withCheck (padTo 30 (fig 1 r.state.code ++ fig 4 r.number ++ fig 3 r.paid ++ fig 3 r.bonus ++ fig 6 r.lastJournal
    ++ fig 4 r.activation ++ fig 4 r.lastPeriod ++ fig 2 r.count))

/-- The fields of 32 stored bytes under a given state. -/
def cardFields (state : CardState) (bs : List Byte) : CardRec :=
  { state := state, number := field bs 1 4, paid := field bs 5 3, bonus := field bs 8 3, lastJournal := field bs 11 6,
    activation := field bs 17 4, lastPeriod := field bs 21 4, count := field bs 25 2 }

/-- The BLANK card. -/
def blankCard : CardRec :=
  { state := .blank, number := 0, paid := 0, bonus := 0, lastJournal := 0, activation := 0, lastPeriod := 0, count := 0 }

/-- A stored card record sorted by outcomes 1, 2, 3 and 5 of R11: none when unreadable (its check fails, or it is
malformed). -/
def readCard (bs : List Byte) : Option CardRec :=
  if !recordOk bs then none
  else match cardStateOf? (field bs 0 1) with
    | none => none
    | some .blank => if bs.all (fun b => b == 0) then some blankCard else none
    | some st =>
      let r := cardFields st bs
      if r.paid > Config.maxAmount ∨ r.bonus > Config.maxAmount ∨ r.number = 0 then none else some r

/-! ### Payout records (R97, R181) -/

/-- The 90 bytes of a payout merchant record. -/
def Payout.bytes (r : Payout) : List Byte :=
  fig 1 r.merchant ++ fig 1 r.group ++ fig 4 r.period ++ fig 1 r.state.code ++ sfig 6 r.g ++ fig 4 r.captures ++ sfig 6 r.bf
    ++ sfig 6 r.v ++ fig 4 r.voids ++ sfig 6 r.f ++ fig 4 r.refunds ++ sfig 6 r.s ++ fig 4 r.sales ++ sfig 6 r.c
    ++ sfig 6 r.x ++ sfig 6 r.carryBefore ++ sfig 6 r.n ++ sfig 6 r.payout ++ sfig 6 r.carryAfter ++ fig 1 r.status.code

/-- The payout record of 90 stored bytes. -/
def readPayout (bs : List Byte) : Payout :=
  { merchant := field bs 0 1, group := namedCode 8 8 (field bs 1 1), period := field bs 2 4, state := merchantStateOf (field bs 6 1),
    g := sfield bs 7 6, captures := field bs 13 4, bf := sfield bs 17 6, v := sfield bs 23 6, voids := field bs 29 4,
    f := sfield bs 33 6, refunds := field bs 39 4, s := sfield bs 43 6, sales := field bs 49 4, c := sfield bs 53 6,
    x := sfield bs 59 6, carryBefore := sfield bs 65 6, n := sfield bs 71 6, payout := sfield bs 77 6,
    carryAfter := sfield bs 83 6, status := payStatusOf (field bs 89 1) }

/-- The seven sums of a group-end or list-end record (R181). -/
def PaySums.bytes (t : PaySums) : List Byte :=
  sfig 6 t.g ++ sfig 6 t.v ++ sfig 6 t.f ++ sfig 6 t.s ++ sfig 6 t.c ++ sfig 6 t.x ++ sfig 6 t.payout

/-- Entry kind codes (R181). -/
def PayEntry.kindCode : PayEntry → Nat
  | .merchant _ => 1 | .groupEnd _ _ _ => 2 | .listEnd _ _ _ _ => 3

/-- The bytes of an entry of the payout list (R181). -/
def PayEntry.bytes : PayEntry → List Byte
  | .merchant r => r.bytes
  | .groupEnd g n t => fig 1 g ++ fig 1 n ++ t.bytes
  | .listEnd p n gs t => fig 4 p ++ fig 1 n ++ fig 1 gs ++ t.bytes

/-! ### Merchant records (R69) -/

/-- The 60 bytes of the open bank. -/
def Bank.bytes (b : Bank) : List Byte :=
  sfig 6 b.g ++ fig 4 b.captures ++ sfig 6 b.bf ++ sfig 6 b.v ++ fig 4 b.voids ++ sfig 6 b.f ++ fig 4 b.refunds ++ sfig 6 b.s
    ++ fig 4 b.sales ++ sfig 6 b.c ++ fig 2 b.rho ++ sfig 6 b.x

/-- The open bank at byte 24 of a stored merchant record. -/
def readBank (bs : List Byte) : Bank :=
  { g := sfield bs 24 6, captures := field bs 30 4, bf := sfield bs 34 6, v := sfield bs 40 6, voids := field bs 46 4,
    f := sfield bs 50 6, refunds := field bs 56 4, s := sfield bs 60 6, sales := field bs 66 4, c := sfield bs 70 6,
    rho := field bs 76 2, x := sfield bs 78 6 }

/-- The 256 bytes of a merchant record. -/
def MerchantRec.bytes (r : MerchantRec) : List Byte :=
  withCheck (padTo 254 (padTo 24 (fig 1 r.merchant ++ fig 1 r.cls ++ fig 1 r.group ++ fig 1 r.state.code ++ sfig 6 r.carry
    ++ fig 6 r.lastApplied ++ fig 4 r.lastClosed ++ flagByte r.lastResult.isSome) ++ r.bank.bytes
    ++ (match r.lastResult with | some p => p.bytes | none => [])))

/-- A stored merchant record, none when its check fails (R88). -/
def readMerchant (bs : List Byte) : Option MerchantRec :=
  if recordOk bs then
    some { merchant := field bs 0 1, cls := namedCode 7 8 (field bs 1 1), group := namedCode 8 8 (field bs 2 1),
           state := merchantStateOf (field bs 3 1),
           carry := sfield bs 4 6, lastApplied := field bs 10 6, lastClosed := field bs 16 4, bank := readBank bs,
           lastResult := if readFlag (field bs 20 1) then some (readPayout (bs.drop 84)) else none }
  else none

/-- The merchant record FORMAT writes (R69). -/
def freshMerchant (m : Nat) : MerchantRec :=
  { merchant := m, cls := 0, group := 0, state := .unconfigured, carry := 0, lastApplied := 0, lastClosed := 0,
    bank := bankReset, lastResult := none }

/-! ### The totals record (R131) -/

/-- The 64 bytes of the totals record. -/
def Totals.bytes (t : Totals) : List Byte :=
  withCheck (padTo 62 (fig 4 t.mark ++ fig 3 t.capacity ++ fig 1 t.epoch ++ fig 4 t.accrued ++ fig 4 t.released ++ fig 6 t.oldest
    ++ fig 6 t.lastApplied ++ sfig 6 t.outPaid ++ sfig 6 t.outBonus ++ sfig 6 t.bonusIssued ++ sfig 6 t.bonusForfeited
    ++ sfig 6 t.paidOut))

/-- The fields of 64 stored bytes of the totals record. -/
def totalsFields (bs : List Byte) : Totals :=
  { mark := field bs 0 4, capacity := field bs 4 3, epoch := field bs 7 1, accrued := field bs 8 4, released := field bs 12 4,
    oldest := field bs 16 6, lastApplied := field bs 22 6, outPaid := sfield bs 28 6, outBonus := sfield bs 34 6,
    bonusIssued := sfield bs 40 6, bonusForfeited := sfield bs 46 6, paidOut := sfield bs 52 6 }

/-- The totals record FORMAT writes at stage 6 (R131, R171). -/
def freshTotals (capacity epoch : Nat) : Totals :=
  { totalsReset with mark := Config.formatMark, capacity := capacity, epoch := epoch, accrued := 1, oldest := 1 }

/-! ### Journal slots (R114, R180) -/

/-- Bytes 0 to 53 of a journal slot: the body and its check. -/
def JBody.bytes (b : JBody) : List Byte :=
  withCheck (fig 6 b.number ++ fig 1 b.kind.code ++ fig 1 b.newState ++ fig 4 b.period ++ originBytes b.origin ++ fig 1 b.merchant
    ++ fig 1 b.reqKind ++ fig 4 b.card ++ fig 3 b.slot ++ fig 3 b.amount ++ sfig 4 b.paidDelta ++ sfig 4 b.bonusDelta
    ++ fig 6 b.ref ++ fig 3 b.imagePaid ++ fig 3 b.imageBonus ++ fig 4 b.imageActivation ++ fig 2 b.imageCount)

/-- The 64 bytes of the slot at append: the body, and a commit part all zero (R114). -/
def JBody.slotBytes (b : JBody) : List Byte := b.bytes ++ List.replicate 10 0

/-- The body of a stored slot, none when its check fails. -/
def readBody (bs : List Byte) : Option JBody :=
  if recordOk (bs.take 54) then
    some { number := field bs 0 6, kind := moveKindOf (field bs 6 1), newState := field bs 7 1, period := field bs 8 4,
           origin := originOf (field bs 12 1) (field bs 13 1), merchant := field bs 14 1, reqKind := field bs 15 1,
           card := field bs 16 4, slot := field bs 20 3, amount := field bs 23 3, paidDelta := sfield bs 26 4,
           bonusDelta := sfield bs 30 4, ref := field bs 34 6, imagePaid := field bs 40 3, imageBonus := field bs 43 3,
           imageActivation := field bs 46 4, imageCount := field bs 50 2 }
  else none

/-- The commit part of a COMMITTED record (R122, R180): mark, commission delta, remainder and commit check. -/
def commitBytes (delta : Int) (rem : Nat) : List Byte :=
  withCheck (fig 2 Config.commitMark ++ sfig 4 delta ++ fig 2 rem)

/-- Whether the commit part of a stored slot passes its check. -/
def commitOk (bs : List Byte) : Bool := recordOk (bs.drop 54)

/-- Whether a stored slot is COMMITTED (R114): its commit part carries the commit mark and passes the commit check. -/
def isCommitted (bs : List Byte) : Bool := decide (field bs 54 2 = Config.commitMark) && commitOk bs

/-! ### Configuration records (R110) -/

/-- The 32 bytes of a window record. -/
def Window.bytes (w : Window) : List Byte :=
  withCheck (padTo 30 (flagByte w.enabled ++ fig 4 w.low ++ fig 4 w.high ++ fig 3 w.base ++ fig 3 w.maxBalance ++ fig 2 w.bonusRate
    ++ fig 3 w.bonusThreshold ++ fig 3 w.bonusCap ++ fig 1 w.order.code ++ flagByte w.reloadable ++ flagByte w.cashable
    ++ fig 2 w.lifetime ++ fig 1 w.groupMask))

/-- The window of 32 stored bytes, none when the check fails (R4). -/
def readWindow (bs : List Byte) : Option Window :=
  if recordOk bs then
    some { enabled := readFlag (field bs 0 1), low := field bs 1 4, high := field bs 5 4, base := field bs 9 3,
           maxBalance := field bs 12 3, bonusRate := field bs 15 2, bonusThreshold := field bs 17 3, bonusCap := field bs 20 3,
           order := purseOrderOf (field bs 23 1), reloadable := readFlag (field bs 24 1), cashable := readFlag (field bs 25 1),
           lifetime := field bs 26 2, groupMask := field bs 28 1 }
  else none

/-- The 32 bytes of a tariff record. -/
def Tariff.bytes (t : Tariff) : List Byte :=
  withCheck (padTo 30 (fig 2 t.rate ++ fig 2 t.fee ++ fig 3 t.cap))

/-- The tariff class of 32 stored bytes, none when the check fails (R71). -/
def readTariff (bs : List Byte) : Option Tariff :=
  if recordOk bs then some { rate := field bs 0 2, fee := field bs 2 2, cap := field bs 4 3 } else none

/-- The 32 bytes of a line record. -/
def LineCopy.bytes (c : LineCopy) : List Byte :=
  withCheck (padTo 30 (fig 1 c.rate ++ fig 1 c.window ++ flagByte c.enabled))

/-- The line copy of 32 stored bytes, none when the check fails (R144). -/
def readLineCopy (bs : List Byte) : Option LineCopy :=
  if recordOk bs then some { rate := namedCode 5 4 (field bs 0 1), window := field bs 1 1, enabled := readFlag (field bs 2 1) }
  else none

/-- The 32 bytes of a station record. -/
def stationBytes (merchant lane : Nat) (enabled : Bool) : List Byte :=
  withCheck (padTo 30 (fig 1 merchant ++ fig 1 lane ++ flagByte enabled))

/-- Merchant, lane and enabled flag of 32 stored bytes, none when the check fails (R144). -/
def readStationRecord (bs : List Byte) : Option (Nat × Nat × Bool) :=
  if recordOk bs then some (field bs 0 1, field bs 1 1, readFlag (field bs 2 1)) else none

/-- The number of an item's configuration record (R110). -/
def ConfigItem.index : ConfigItem → Nat
  | .window i _ => i
  | .tariff c _ => 8 + c
  | .line n _ => 16 + n
  | .station n e _ _ _ => 20 + n * 48 + e

/-- The 32 bytes of an item's configuration record (R110). -/
def ConfigItem.bytes : ConfigItem → List Byte
  | .window _ w => w.bytes
  | .tariff _ t => t.bytes
  | .line _ c => c.bytes
  | .station _ _ m l en => stationBytes m l en

/-! ### The writes of the memory port -/

/-- The card record that the card write of a movement stores, completed at append with journal number `j` and period tag
`p` (R15). -/
def cardWriteRec (m : Movement) (j p : Nat) : CardRec :=
  { state := m.newState, number := m.req.card, paid := m.paid, bonus := m.bonus, lastJournal := j,
    activation := if m.kind = .activate then p else m.readActivation, lastPeriod := p,
    count := min (m.readCount + 1) 65535 }

/-- The card record that recovery writes from a journal body (R129). -/
def recoveryCardRec (b : JBody) : CardRec :=
  { state := (cardStateOf? (namedCode 6 4 b.newState)).getD .blank, number := b.card, paid := b.imagePaid, bonus := b.imageBonus,
    lastJournal := b.number, activation := b.imageActivation, lastPeriod := b.period, count := b.imageCount }

/-- Address, bytes and check of the record a port access writes (R110, R111); none for a read, and for an append whose
tests are not made yet. The check of an append's slot is that of its body, of a commit mark that of its commit part. -/
def PortOp.write? : PortOp → Option (Nat × List Byte × (List Byte → Bool))
  | .appendWrite b => some (journalAddress b.number, b.slotBytes, fun bs => recordOk (bs.take 54))
  | .commitMark j d r => some (journalAddress j + 54, commitBytes d r, recordOk)
  | .cardWrite _ m j p => some (cardAddress m.req.slot, (cardWriteRec m j p).bytes, recordOk)
  | .recoveryCardWrite b => some (cardAddress b.slot, (recoveryCardRec b).bytes, recordOk)
  | .accrualWrite m r => some (merchantAddress m, r.bytes, recordOk)
  | .walkWrite m r => some (merchantAddress m, r.bytes, recordOk)
  | .setMerchantWrite _ m _ r => some (merchantAddress m, r.bytes, recordOk)
  | .totalsWrite _ copy _ => some (Config.totalsBase, copy.bytes, recordOk)
  | .configWrite i => some (configAddress i.index, i.bytes, recordOk)
  | .formatWrite stage _ a bs => some (a, bs, fun r => if stage = 4 then recordOk (r.take 54) else recordOk r)
  | _ => none

end Sys2Proof.Machine
end

