-- ==== Sys2Proof/Machine/Flags.lean ====
section
/-! DEFINITION. The flags byte and reason codes of a reply (R179), the reply body, and the notices as TAKE-NOTICES gives
them (R182). -/

namespace Sys2Proof.Machine
open Sys2Proof

/-- The flags byte: LATE, CLAMPED, NOTICES-PENDING in bits 0, 1, 2 (R161, R179). -/
def flagsByte (late clamped notices : Bool) : Nat :=
  (if late then 1 else 0) + (if clamped then 2 else 0) + (if notices then 4 else 0)

/-- Reason codes (R179). -/
def reasonField : Nat := 1
def reasonTagZero : Nat := 2
def reasonDuplicateTag : Nat := 3
def reasonLength : Nat := 4
def reasonCheck : Nat := 5
def reasonGap : Nat := 6
def reasonOtherMerchant : Nat := 7
def reasonStoreState : Nat := 16
def reasonTimeUnset : Nat := 17
def reasonWindowOrder : Nat := 18
def reasonWindowCapacity : Nat := 19
def reasonWindowOverlap : Nat := 20
def reasonStationMerchant : Nat := 21
def reasonStationDuplicate : Nat := 22
def reasonAlreadyOpen : Nat := 23
def reasonMerchantClosed : Nat := 24
def reasonInService : Nat := 25
def reasonListUnreleased : Nat := 32
def reasonCloseRunning : Nat := 33
def reasonPeriodLimit : Nat := 34
def reasonListState : Nat := 35
def reasonUntaken : Nat := 48

/-- A reply body: status, flags, reason, figures (R179). -/
def Reply.body (r : Reply) (noticesPending : Bool) : List Byte :=
  fig 1 r.status.code ++ fig 1 (flagsByte r.late r.clamped noticesPending) ++ fig 1 r.reason ++ r.figures

/-- The kind byte of a reply to a request of this kind code (R161, R177). -/
def replyKind (kind : Nat) : Nat := if (bodyLength? kind).isSome then kind + 0x80 else 0xFE

/-- No notice is pending. -/
def Notices.none? (n : Notices) : Bool := n == {}

/-- Optional details as a list of the kinds present, each its code followed by its details. -/
def noticeBytes (code : Nat) (details : Option (List Byte)) : List (List Byte) :=
  match details with
  | some d => [fig 1 code ++ d]
  | none => []

/-- The pending kinds with their details, in the order of R164 (R182). -/
def Notices.list (n : Notices) : List (List Byte) :=
  noticeBytes 1 (n.started.map fun d => fig 1 d.cause.code ++ fig 1 d.epoch ++ fig 1 d.recovered)
  ++ noticeBytes 2 (n.storeFault.map fun d => fig 1 d.region.code ++ fig 6 d.journal)
  ++ noticeBytes 3 (n.journalHigh.map fun d => fig 2 d)
  ++ noticeBytes 4 (n.closeDone.map fun d => fig 4 d.period ++ fig 1 d.records ++ sfig 6 d.payout)
  ++ noticeBytes 5 (n.sweepDone.map fun d => fig 1 d.outcome.code ++ sfig 6 d.paid ++ sfig 6 d.bonus ++ sfig 6 d.expectedPaid
      ++ sfig 6 d.expectedBonus ++ fig 3 d.slots ++ fig 3 d.unreadable)
  ++ noticeBytes 6 (n.stationChange.map fun d => fig 1 d.line ++ fig 1 d.entry ++ fig 1 d.state.code ++ fig 1 d.further)
  ++ noticeBytes 7 (n.holdsExpired.map fun d => fig 2 d)
  ++ noticeBytes 8 (n.replyDiscarded.map fun d => fig 1 d.line ++ fig 1 d.entry ++ fig 6 d.journal ++ fig 1 d.count)

/-- The figures of TAKE-NOTICES: the number of kinds, then each pending kind (R164, R182). -/
def Notices.figures (n : Notices) : List Byte := fig 1 n.list.length ++ n.list.flatten

end Sys2Proof.Machine
end

