-- ==== Sys2Proof/Machine/Frames.lean ====
section
/-! DEFINITION. Frames: the host link's (R157, R158) and the till lines' (R147, R183), as bytes, and what a receiver makes
of bytes that arrive. -/

namespace Sys2Proof.Machine
open Sys2Proof

/-! ### Host link -/

/-- The bytes of a host frame (R157): start byte, length, kind, tag, body, check. -/
def hostFrame (kind tag : Nat) (body : List Byte) : List Byte :=
  let inner := leBytes 2 (body.length + 2) ++ fig 1 kind ++ fig 1 tag ++ body
  0xC5 :: inner ++ leBytes 2 (checkOf (byteSum inner))

/-- The bytes of a reply frame as TXD carries it (R157, R161, R179). -/
def OutFrame.bytes (f : OutFrame) : List Byte := hostFrame f.kind f.tag (f.reply.body f.noticesPending)

/-- What the receiver makes of the bytes of one frame, its start byte first (R157, R158): accepted, rejected with a reason,
not whole yet, or bytes that go on past the byte that ends the frame, with which the hunt resumes. Bytes that begin with no
start byte are discarded while hunting. -/
inductive Received where
  | accepted (kind tag : Byte) (body : List Byte)
  | rejected (reason : Nat)
  | partialFrame
  | overrun
  | discarded
  deriving DecidableEq, Repr

/-- The receiver's sorting of the bytes collected (R157, R158). A frame of a bad length ends with its second length byte, any
other with its second check byte; the bytes after it belong to the frames that follow (log 23). -/
def receive (bytes : List Byte) : Received :=
  match bytes with
  | start :: l0 :: l1 :: rest =>
    let len := l0.toNat + 256 * l1.toNat
    if start ≠ 0xC5 then .discarded
    else if len < 2 ∨ 242 < len then (if rest = [] then .rejected reasonLength else .overrun)
    else if rest.length < len + 2 then .partialFrame
    else if len + 2 < rest.length then .overrun
    else if (l0.toNat + l1.toNat + byteSum (rest.take len) + leNat ((rest.drop len).take 2)) % 65536 ≠ 0 then .rejected reasonCheck
    else match rest with
      | kind :: tag :: _ => .accepted kind tag ((rest.take len).drop 2)
      | _ => .partialFrame
  | start :: _ => if start ≠ 0xC5 then .discarded else .partialFrame
  | [] => .discarded

/-! ### Till lines -/

/-- The bytes of a till line frame (R183): merchant, lane, kind, length, body, check. -/
def tillFrame (merchant lane kind : Nat) (body : List Byte) : List Byte :=
  let inner := fig 1 merchant ++ fig 1 lane ++ fig 1 kind ++ fig 1 body.length ++ body
  inner ++ leBytes 2 (checkOf (byteSum inner))

/-- Frame kinds of the lines (R183). -/
def kindTurn : Nat := 0x01
def kindReply : Nat := 0x02
def kindServiceOpen : Nat := 0x03
def kindPeriodChange : Nat := 0x04
def kindPass : Nat := 0x11
def kindRequest : Nat := 0x12

/-- A TURN frame for a station (R147, R183). -/
def turnFrame (s : Station) : List Byte := tillFrame s.merchant s.lane kindTurn []

/-- A REPLY frame for a station: the reply kind, then the reply body with NOTICES-PENDING 0 (R183). -/
def replyFrame (s : Station) (r : Reply) : List Byte :=
  tillFrame s.merchant s.lane kindReply (fig 1 (replyKind r.kind) ++ r.body false)

/-- A good answer's content (R147). -/
inductive Answer where
  | pass
  | request (kind : Byte) (body : List Byte)
  deriving DecidableEq, Repr

/-- What the controller makes of an answer's bytes (R147, R183). -/
inductive Heard where
  | good (a : Answer)
  | bad
  | incomplete
  deriving DecidableEq, Repr

/-- The framing rules of R183 applied to an answer of the station with this identity. -/
def hear (s : Station) (bytes : List Byte) : Heard :=
  match bytes with
  | m :: l :: k :: n :: rest =>
    if 240 < n.toNat then .bad
    else if rest.length < n.toNat + 2 then .incomplete
    else if n.toNat + 2 < rest.length then .bad
    else if (m.toNat + l.toNat + k.toNat + n.toNat + byteSum (rest.take n.toNat) + leNat (rest.drop n.toNat)) % 65536 ≠ 0 then .bad
    else if m.toNat ≠ s.merchant ∨ l.toNat ≠ s.lane then .bad
    else if k.toNat = kindPass then (if n.toNat = 0 then .good .pass else .bad)
    else if k.toNat = kindRequest then
      match rest.take n.toNat with
      | [] => .bad
      | kind :: body => .good (.request kind body)
    else .bad
  | _ => .incomplete

end Sys2Proof.Machine
end

