-- ==== Sys2Proof/Decode.lean ====
section
/-! DEFINITION. The command a word spells by the bits of spec/opcode_table.json, and the command that the bytes of a host
frame spell (R157, R158, R177). -/

namespace Sys2Proof

/-- The command that a word of the opcode table spells: the table gives no row bits, so no word spells one. -/
def decodeTableWord (_nbits _w : Nat) : Option Instr := none

/-- The request that a kind byte names, with its tag and body (R177). -/
def requestOf (kind : Nat) (tag : Byte) (body : List Byte) : Option Instr :=
  match kind with
  | 0x01 => some (.activate tag body)
  | 0x02 => some (.load tag body)
  | 0x03 => some (.hold tag body)
  | 0x04 => some (.release tag body)
  | 0x05 => some (.balance tag body)
  | 0x06 => some (.capture tag body)
  | 0x07 => some (.redeem tag body)
  | 0x08 => some (.void tag body)
  | 0x09 => some (.refund tag body)
  | 0x0A => some (.cashOut tag body)
  | 0x0B => some (.block tag body)
  | 0x0C => some (.unblock tag body)
  | 0x10 => some (.suspendMerchant tag body)
  | 0x11 => some (.resumeMerchant tag body)
  | 0x12 => some (.closeMerchant tag body)
  | 0x13 => some (.cutoff tag body)
  | 0x18 => some (.takeAdvice tag body)
  | 0x19 => some (.readPayout tag body)
  | 0x1A => some (.rewindPayout tag body)
  | 0x1B => some (.releasePayout tag body)
  | 0x1C => some (.readTotals tag body)
  | 0x1D => some (.merchantStatus tag body)
  | 0x20 => some (.startSweep tag body)
  | 0x21 => some (.stopSweep tag body)
  | 0x28 => some (.enableStation tag body)
  | 0x29 => some (.disableStation tag body)
  | 0x2A => some (.clearStationCounts tag body)
  | 0x2B => some (.lineStatus tag body)
  | 0x30 => some (.partStatus tag body)
  | 0x31 => some (.takeNotices tag body)
  | 0x32 => some (.setTime tag body)
  | 0x33 => some (.restart tag body)
  | 0x38 => some (.format tag body)
  | 0x39 => some (.setProgramme tag body)
  | 0x3A => some (.setTariff tag body)
  | 0x3B => some (.setMerchant tag body)
  | 0x3C => some (.setStation tag body)
  | 0x3D => some (.setLine tag body)
  | 0x3E => some (.openService tag body)
  | _ => none

/-- The command that the bytes of one host frame are (R157, R158, R160): a request, a frame of no request kind, or a
rejected frame; none while the frame is not whole, for bytes past a frame's end, and for bytes with no start byte. -/
def frameCommand (bytes : List Byte) : Option Instr :=
  match Machine.receive bytes with
  | .accepted kind tag body => match requestOf kind.toNat tag body with
    | some c => some c
    | none => some (.noRequestKindFrame kind tag body)
  | .rejected _ => some (.frameRejected bytes)
  | .partialFrame | .overrun | .discarded => none

end Sys2Proof
end

