-- ==== Sys2Proof/Machine/Ops.lean ====
section
/-! DEFINITION. The named operations over the part's tables, notices, replies, holds, locks and the memory port. Every
meaning is written over these. -/

namespace Sys2Proof.Machine
open Sys2Proof

/-! ### Tables -/

/-- Entry `i` of a table, `d` outside it. -/
def vget {α : Type} {n : Nat} (v : Vector α n) (i : Nat) (d : α) : α := v[i]?.getD d

/-- A table with entry `i` replaced; unchanged where there is no entry `i`. -/
def vset {α : Type} {n : Nat} (v : Vector α n) (i : Nat) (x : α) : Vector α n := v.setIfInBounds i x

/-- Line controller n. -/
def State.line (s : State) (n : Nat) : Line := vget s.lines n lineReset

def State.setLine (s : State) (n : Nat) (l : Line) : State := { s with lines := vset s.lines n l }

/-- Station entry e of line n. -/
def State.station (s : State) (n e : Nat) : Station := vget (s.line n).stations e stationReset

def State.setStation (s : State) (n e : Nat) (x : Station) : State :=
  s.setLine n { s.line n with stations := vset (s.line n).stations e x }

/-- Programme window with index 0 to 7 (numbers 1 to 8, R3). -/
def State.window (s : State) (i : Nat) : Window := vget s.windows i windowReset

/-- Card lock slot k (R20). -/
def State.lock (s : State) (k : Nat) : Option LockSlot := vget s.ce.locks k none

def State.setLock (s : State) (k : Nat) (l : Option LockSlot) : State :=
  { s with ce := { s.ce with locks := vset s.ce.locks k l } }

/-- Admission entry of merchant m, 1 to 240 (R78). -/
def State.admission (s : State) (m : Nat) : Admission := if m = 0 then admissionReset else vget s.jc.admission (m - 1) admissionReset

def State.setAdmission (s : State) (m : Nat) (a : Admission) : State :=
  { s with jc := { s.jc with admission := vset s.jc.admission (m - 1) a } }

/-- Tariff class c, 0 to 7 (R71). -/
def State.tariff (s : State) (c : Nat) : Tariff := vget s.jc.tariffs c tariffReset

/-- `n + 1`, saturating at `limit`. -/
def satInc (limit n : Nat) : Nat := if n < limit then n + 1 else n

/-! ### Notices (R162, R163) -/

/-- A raising: the notice set changes, and ATTN_N goes low once start-up has ended (R163). -/
def raise (f : Notices → Notices) (s : State) : State :=
  { s with hlp := { s.hlp with notices := f s.hlp.notices, attnLow := s.hlp.attnLow || decide (s.jc.phase ≠ .startup) } }

/-- STORE-FAULT (R125, R162). -/
def raiseStoreFault (region : Region) (j : Nat) : State → State :=
  raise fun n => { n with storeFault := some { region := region, journal := j } }

/-- STATION-CHANGE (R162): a merge counts further changes, saturating at 255. -/
def raiseStationChange (line entry : Nat) (st : StationState) : State → State :=
  raise fun n => { n with stationChange := some {
      line := line, entry := entry, state := st,
      further := match n.stationChange with | some d => satInc 255 d.further | none => 0 } }

/-- HOLDS-EXPIRED (R36, R162): the count rises by 1, saturating at 65,535. -/
def raiseHoldsExpired : State → State :=
  raise fun n => { n with holdsExpired := some (match n.holdsExpired with | some c => satInc 65535 c | none => 1) }

/-- REPLY-DISCARDED (R152, R162): the count rises by 1, saturating at 255. -/
def raiseReplyDiscarded (line entry journal : Nat) : State → State :=
  raise fun n => { n with replyDiscarded := some {
      line := line, entry := entry, journal := journal,
      count := match n.replyDiscarded with | some d => satInc 255 d.count | none => 1 } }

/-! ### Replies (R152, R161) -/

/-- A frame as its first byte is sent: NOTICES-PENDING is sampled (R161). -/
def beginFrame (n : Notices) (f : OutFrame) : OutFrame := { f with begun := true, noticesPending := !n.none? }

/-- A reply frame joins the outbound queue; on an idle transmitter it begins at once (R161). -/
def pushFrame (f : OutFrame) (s : State) : State :=
  { s with hlp := { s.hlp with outbound :=
      s.hlp.outbound ++ [if s.hlp.outbound.isEmpty then beginFrame s.hlp.notices f else f] } }

/-- The reply to a request in flight on the link. -/
def sendLink (tag : Nat) (r : Reply) (s : State) : State :=
  pushFrame { kind := replyKind r.kind, tag := tag, reply := r, tagged := true } s

/-- The reply to a frame that took no tag: discarded when 8 such replies are in the outbound queue (R158, R161). -/
def sendUntagged (kind tag : Nat) (r : Reply) (s : State) : State :=
  if (s.hlp.outbound.filter fun f => !f.tagged).length < Config.linkSlots then
    pushFrame { kind := kind, tag := tag, reply := r, tagged := false } s
  else s

/-- A reply to a station is discarded, its request flag cleared, and REPLY-DISCARDED raised (R152). -/
def discardReply (line entry : Nat) (r : Reply) (s : State) : State :=
  raiseReplyDiscarded line entry r.journal
    (s.setStation line entry { s.station line entry with held := none, outstanding := false })

/-- The controller's action on a reply handed to it (R152). -/
def sendStation (line entry : Nat) (r : Reply) (s : State) : State :=
  match (s.station line entry).state with
  | .faulty | .disabled => discardReply line entry r s
  | _ => s.setStation line entry { s.station line entry with held := some r }

/-- A reply handed to its origin. -/
def sendReply (o : Origin) (r : Reply) (s : State) : State :=
  match o with
  | .station line entry => sendStation line entry r s
  | .link tag => sendLink tag r s

/-- The reply to a card request that refuses it: the card number, then what the rule names (R179). -/
def refusal (req : CardReq) (st : Status) (extra : List Byte := []) (reason journal : Nat := 0) : Reply :=
  { kind := req.kind.code, status := st, reason := reason, figures := fig 4 req.card ++ extra, journal := journal }

/-! ### Holds (R17, R26 to R29) -/

/-- Whether a hold is on this card (R26: the card number, with the slot, selects the chain). -/
def Hold.on (h : Hold) (card slot : Nat) : Bool := h.card == card && h.slot == slot

/-- Whether a hold carries this reference (R29). -/
def Hold.named (h : Hold) (epoch serial : Nat) : Bool := h.epoch == epoch && h.serial == serial

/-- The chain of a card, oldest first (R27). -/
def State.chain (s : State) (card slot : Nat) : List Hold := s.ht.holds.filter fun h => h.on card slot

/-- The entry of the card's chain that a reference names (R29). -/
def State.findHold (s : State) (card slot epoch serial : Nat) : Option Hold :=
  (s.chain card slot).find? fun h => h.named epoch serial

def State.setHolds (s : State) (hs : List Hold) : State := { s with ht := { s.ht with holds := hs } }

/-- A hold leaves its chain and the table (R27). -/
def removeHold (card slot epoch serial : Nat) (s : State) : State :=
  s.setHolds (s.ht.holds.filter fun h => !(h.on card slot && h.named epoch serial))

/-- A hold moves between ACTIVE and CLAIMED (R26). -/
def markHold (card slot epoch serial : Nat) (st : HoldState) (s : State) : State :=
  s.setHolds (s.ht.holds.map fun h => if h.on card slot && h.named epoch serial then { h with state := st } else h)

/-- Every hold of a card leaves the table (R40). -/
def clearChain (card slot : Nat) (s : State) : State :=
  s.setHolds (s.ht.holds.filter fun h => !h.on card slot)

/-- The paid parts of a chain (R17). -/
def heldPaid (hs : List Hold) : Nat := (hs.map Hold.paid).sum

/-- The bonus parts of a chain (R17). -/
def heldBonus (hs : List Hold) : Nat := (hs.map Hold.bonus).sum

/-- Available paid value: the paid purse less the paid parts of the card's holds (R17). -/
def State.availPaid (s : State) (card slot paid : Nat) : Nat := paid - heldPaid (s.chain card slot)

/-- Available bonus value (R17). -/
def State.availBonus (s : State) (card slot bonus : Nat) : Nat := bonus - heldBonus (s.chain card slot)

/-- The available value (R17). -/
def State.available (s : State) (card slot paid bonus : Nat) : Nat :=
  s.availPaid card slot paid + s.availBonus card slot bonus

/-- The split of `a` between two sources by purse order, as paid share and bonus share (R18, R55): the first purse gives
the lesser of `a` and what it has, the other the rest. -/
def splitPurses (order : PurseOrder) (a paid bonus : Nat) : Nat × Nat :=
  match order with
  | .paidFirst => (min a paid, a - min a paid)
  | .bonusFirst => (a - min a bonus, min a bonus)

/-- The first free serial at or after `n`, stepping from 65,535 to 1 (R28); `fuel` tries at most. -/
def freeSerial (used : List Nat) : Nat → Nat → Nat
  | 0, n => n
  | fuel + 1, n => if used.contains n then freeSerial used fuel (if n = 65535 then 1 else n + 1) else n

/-! ### The memory port (R112) -/

/-- The class of an access (R112). The scan, start-up, configuration and FORMAT accesses are of class 4, and recovery's
card accesses of the classes of card accesses (log 22). -/
def PortOp.cls : PortOp → Nat
  | .append | .appendWrite _ | .commitMark _ _ _ => 1
  | .cardWrite _ _ _ _ | .recoveryCardWrite _ => 2
  | .cardRead _ _ | .recoveryCardRead _ => 3
  | .rebuildRead _ => 5
  | .sweepRead _ => 6
  | _ => 4

/-- The first access of a class in a list, and the list without it. -/
def takeClass (c : Nat) : List PortOp → Option (PortOp × List PortOp)
  | [] => none
  | o :: os =>
    if o.cls = c then some (o, os)
    else match takeClass c os with
      | some (x, rest) => some (x, o :: rest)
      | none => none

/-- The waiting access to serve next: the lowest class, and within it the first to arrive (R112). -/
def pickNext (w : List PortOp) : Option (PortOp × List PortOp) := [1, 2, 3, 4, 5, 6].findSome? fun c => takeClass c w

/-- An access is issued: served at once when the port is idle, else it waits in the order of arrival (R112). -/
def issue (op : PortOp) (s : State) : State :=
  match s.jc.serving with
  | none => { s with jc := { s.jc with serving := some op } }
  | some _ => { s with jc := { s.jc with waiting := s.jc.waiting ++ [op] } }

/-- A write access stores its record. -/
def storeOp (op : PortOp) (s : State) : State :=
  match op.write? with
  | some (a, bs, _) => { s with mem := Memory.writeMany s.mem a bs }
  | none => s

/-- A write access that failed or was cut off leaves its record as the device holds it (R113). -/
def leaveOp (op : PortOp) (left : Residue) (s : State) : State :=
  match op.write? with
  | some (a, bs, ok) => { s with mem := Memory.leave s.mem a bs ok left }
  | none => s

/-! ### Card locks (R20 to R24) -/

/-- The lowest-numbered lock slot with a property. -/
def findSlot (s : State) (p : Option LockSlot → Bool) : Option Nat := (List.range 16).find? fun k => p (s.lock k)

/-- The slot that locks this card (R21). -/
def lockOf (s : State) (card : Nat) : Option Nat :=
  findSlot s fun l => match l with | some l => l.card == card | none => false

/-- The lowest-numbered free slot (R21). -/
def freeLock (s : State) : Option Nat := findSlot s fun l => l.isNone

/-- A request becomes owner of slot k: its decision starts with a card read (R23). -/
def grantLock (k : Nat) (req : CardReq) (waiters : List CardReq) (s : State) : State :=
  issue (.cardRead k req.slot)
    (s.setLock k (some { card := req.card, owner := req, waiters := waiters, doing := .reading }))

/-- A request comes to the lock table (R21). -/
def seekLock (req : CardReq) (s : State) : State :=
  match lockOf s req.card with
  | some k =>
    match s.lock k with
    | some l =>
      if l.waiters.length < Config.lockWaiters then s.setLock k (some { l with waiters := l.waiters ++ [req] })
      else sendReply req.origin (refusal req .busy) s
    | none => s
  | none =>
    match freeLock s with
    | some k => grantLock k req [] s
    | none => sendReply req.origin (refusal req .busy) s

/-- The owner's lock is released: the oldest waiter becomes owner with a fresh card read, or the slot is freed (R24). -/
def releaseLock (k : Nat) (s : State) : State :=
  match s.lock k with
  | some l =>
    match l.waiters with
    | [] => s.setLock k none
    | w :: ws => grantLock k w ws s
  | none => s

/-- The owner of lock k is answered and its lock released (R23: the reply first). -/
def answerOwner (k : Nat) (req : CardReq) (r : Reply) (s : State) : State := releaseLock k (sendReply req.origin r s)

/-- The owner's place in its decision changes. -/
def setDoing (k : Nat) (d : Deciding) (s : State) : State :=
  match s.lock k with
  | some l => s.setLock k (some { l with doing := d })
  | none => s

/-- The number of the lowest-numbered enabled window whose range holds a card number (R6), as an index from 0. -/
def matchWindow (s : State) (card : Nat) : Option Nat :=
  (List.range 8).find? fun i =>
    (s.window i).enabled && decide ((s.window i).low ≤ card) && decide (card ≤ (s.window i).high)

/-- A card request that passed its field and phase checks: window matching, then the lock (R6, R7, R21). -/
def takeCardRequest (req : CardReq) (s : State) : State :=
  match matchWindow s req.card with
  | none => sendReply req.origin (refusal req .unknownCard) s
  | some w => seekLock { req with window := w, slot := (s.window w).base + (req.card - (s.window w).low) } s

/-! ### The audit sweep's end (R139 to R141) -/

/-- The sweep is aborted: IDLE, an outstanding read marked stale, SWEEP-DONE ABORTED raised (R140, R141). -/
def abortSweep (s : State) : State :=
  match s.asu.state with
  | .idle => s
  | .running =>
    raise (fun n => { n with sweepDone := some {
          outcome := .aborted, paid := s.asu.paid, bonus := s.asu.bonus, expectedPaid := 0, expectedBonus := 0,
          slots := s.asu.cursor, unreadable := s.asu.unreadable } })
      { s with asu := { s.asu with state := .idle, stale := s.asu.stale || s.asu.outstanding } }

end Sys2Proof.Machine
end

