-- ==== Sys2Proof/Machine/Store.lean ====
section
/-! DEFINITION. The Journal Controller's shared operations: the tests of an append and its refusal (R75, R79, R92, R116 to
R119), the totals writes (R131), TAKE-ADVICE's order (R123), store FAULT (R125, R126), and the port's next access (R112). -/

namespace Sys2Proof.Machine
open Sys2Proof

/-! ### Bodies of journal records -/

/-- Kind code of a merchant state request (R177). -/
def AdminKind.code : AdminKind → Nat
  | .suspend => 0x10 | .resume => 0x11 | .close => 0x12

/-- The state a merchant state request leads to (R74). -/
def AdminKind.to : AdminKind → MerchantState
  | .suspend => .suspended | .resume => .active | .close => .closing

/-- Whether a merchant state is a From state of the request (R74, R75). -/
def AdminKind.allows : AdminKind → MerchantState → Bool
  | .suspend, .active => true
  | .resume, .suspended => true
  | .close, .active => true
  | .close, .suspended => true
  | _, _ => false

/-- The reference of a movement's record: the hold's for a CAPTURE or LATE-CAPTURE, the voided number for a VOID (R43,
R114), as the number in bytes 34 to 39 (R180). -/
def Movement.ref (m : Movement) : Nat :=
  match m.kind with
  | .capture | .lateCapture => m.req.epoch + 256 * m.req.serial
  | .void => m.req.voided
  | _ => 0

/-- The body of a movement's record with its journal number and period tag (R15, R43, R114). -/
def movementBody (m : Movement) (j p : Nat) : JBody :=
  { number := j, kind := m.kind, newState := m.newState.code, period := p, origin := m.req.origin, merchant := m.req.merchant,
    reqKind := 0, card := m.req.card, slot := m.req.slot, amount := m.amount, paidDelta := m.paidDelta,
    bonusDelta := m.bonusDelta, ref := m.ref, imagePaid := m.paid, imageBonus := m.bonus,
    imageActivation := (cardWriteRec m j p).activation, imageCount := (cardWriteRec m j p).count }

/-- The body of a record with no card (R75, R92). -/
def plainBody (kind : MoveKind) (tag merchant reqKind newState j p : Nat) : JBody :=
  { number := j, kind := kind, newState := newState, period := p, origin := .link tag, merchant := merchant, reqKind := reqKind,
    card := 0, slot := 0, amount := 0, paidDelta := 0, bonusDelta := 0, ref := 0, imagePaid := 0, imageBonus := 0,
    imageActivation := 0, imageCount := 0 }

/-- The body the JC completes at append (R117). -/
def itemBody (item : AppendItem) (j p : Nat) : JBody :=
  match item with
  | .movement _ m => movementBody m j p
  | .admin tag k m => plainBody .merchantState tag m k.code k.to.code j p
  | .cutoff tag => plainBody .periodEnd tag 0 0 0 j p

/-! ### Refusal at append -/

/-- A capture's claimed hold returns to ACTIVE (R39). -/
def returnClaim (m : Movement) (s : State) : State :=
  if m.kind = .capture then markHold m.req.card m.req.slot m.req.epoch m.req.serial .active s else s

/-- A record refused at append: its origin is answered, and a movement's hold and lock are given back (R46, R75, R92, R118).
A refused sale carries no CLAMPED flag (DESIGN CHOICE, log 31). -/
def refuseItem (item : AppendItem) (st : Status) (reason : Nat) (extra : List Byte) (journal : Nat) (s : State) : State :=
  match item with
  | .movement k m => answerOwner k m.req (refusal m.req st extra reason journal) (returnClaim m s)
  | .admin tag k _ => sendLink tag { kind := k.code, status := st, reason := reason, figures := extra } s
  | .cutoff tag => sendLink tag { kind := 0x13, status := st, reason := reason, figures := extra } s

/-- The kinds a merchant state admits at append (R79). -/
def admits : MerchantState → MoveKind → Bool
  | .active, _ => true
  | .suspended, .capture => true
  | .suspended, .void => true
  | .suspended, .refund => true
  | _, _ => false

/-- Whether there is no journal room for a record (R119). -/
def journalFull (s : State) (isCutoff : Bool) : Bool :=
  decide (Config.journalSlots ≤ s.jc.untaken) || decide (Config.maxJournal < s.jc.next)
    || (decide (Config.maxJournal = s.jc.next) && !isCutoff)

/-- The tests of an append, made when the port serves its access (R75, R92, R117); none when they pass, else the status,
reason and figures of the refusal. -/
def appendTest (s : State) (item : AppendItem) : Option (Status × Nat × List Byte) :=
  if s.jc.store = .fault then some (.storeFault, 0, [])
  else match item with
    | .movement _ m =>
      if journalFull s false then some (.journalFull, 0, [])
      else if m.req.merchant ≠ 0 ∧ admits (s.admission m.req.merchant).state m.kind = false then some (.merchantState, 0, [])
      else if m.kind = .void ∧ m.capturePeriod ≠ s.jc.appendPeriod then some (.voidTooLate, 0, [])
      else none
    | .admin _ k m =>
      if journalFull s false then some (.journalFull, 0, [])
      else if k.allows (s.admission m).state = false then some (.merchantState, 0, [])
      else none
    | .cutoff _ =>
      let figures := fig 4 s.jc.appendPeriod ++ fig 4 s.mau.copy.accrued ++ fig 1 s.pcu.state.code
      if journalFull s true then some (.journalFull, 0, [])
      else if s.pcu.state ≠ .empty then some (.closeRefused, reasonListUnreleased, figures)
      else if s.mau.copy.accrued < s.jc.appendPeriod then some (.closeRefused, reasonCloseRunning, figures)
      else if s.jc.appendPeriod = Config.maxWord then some (.closeRefused, reasonPeriodLimit, figures)
      else none

/-! ### The port's next access (R112, R116, R117) -/

/-- Whether an append access is due (R116): a record waits, no append access is waiting or in service, fewer than 32 records
are PENDING, and the store is NORMAL. -/
def mayAppend (s : State) : Bool :=
  !s.jc.appendQueue.isEmpty && !s.jc.appendIssued && decide (s.jc.pendingCount < Config.pendingLimit)
    && decide (s.jc.store = .normal)

/-- The append access of the queue's head joins the waiting accesses when it is due (R116). -/
def queueAppend (s : State) : State :=
  if mayAppend s then { s with jc := { s.jc with appendIssued := true, waiting := s.jc.waiting ++ [PortOp.append] } } else s

/-- The JC serves the waiting access of the lowest class, an append access that has come due among them (R112, R116). An
append's tests are made as its access is served; one that fails ends without a write, its record leaves the queue, and the
next access is chosen (R117). `fuel` bounds the appends that fail. -/
def portLoop : Nat → State → State
  | 0, s => { s with jc := { s.jc with serving := none } }
  | fuel + 1, s =>
    let s := queueAppend s
    match pickNext s.jc.waiting with
    | none => { s with jc := { s.jc with serving := none } }
    | some (op, rest) =>
      let s := { s with jc := { s.jc with serving := some op, waiting := rest } }
      match op with
      | .append =>
        match s.jc.appendQueue with
        | [] => portLoop fuel s
        | item :: items =>
          match appendTest s item with
          | none => { s with jc := { s.jc with serving := some (.appendWrite (itemBody item s.jc.next s.jc.appendPeriod)) } }
          | some (st, reason, figures) =>
            portLoop fuel (refuseItem item st reason figures 0
              { s with jc := { s.jc with appendQueue := items, appendIssued := false } })
      | _ => s

/-- The port's next access is served. Each record that is refused leaves the append queue, so its length and `spare` rounds
reach an access that stays in service, or an idle port. -/
def portNext (spare : Nat) (s : State) : State := portLoop (s.jc.appendQueue.length + spare) s

/-- The append access of the queue's head is issued when it is due: an idle port serves it at once (R112, R116). -/
def issueDue (s : State) : State :=
  if mayAppend s then
    match s.jc.serving with
    | none => portNext 2 s
    | some _ => queueAppend s
  else s

/-- A record joins the append queue, and its access is issued at this event when it is due; in store FAULT it is refused at
once (R116, R126). -/
def joinAppend (item : AppendItem) (s : State) : State :=
  match s.jc.store with
  | .fault => refuseItem item .storeFault 0 [] 0 s
  | .normal => issueDue { s with jc := { s.jc with appendQueue := s.jc.appendQueue ++ [item] } }

/-- An access completes: its event's work is done, and then the next access is served (R112). The accesses issued by that
work, and an append access that it made due (R116, R122), wait with the others (log 7). -/
def complete (work : State → State) (s : State) : State := portNext 2 (work s)

/-! ### Totals writes (R131) -/

/-- The working copy as a totals write carries it: a release and an advance change it at the issue of their own write
(R106, R123); and the earlier value of the field changed. -/
def jobCopy (job : TotalsJob) (t : Totals) : Totals × Nat :=
  match job with
  | .release _ p => ({ t with released := p }, t.released)
  | .advice _ u recs => ({ t with oldest := u + recs.length }, t.oldest)
  | _ => (t, 0)

/-- A totals write is issued with the whole working copy (R131). -/
def issueTotals (job : TotalsJob) (s : State) : State :=
  let c := jobCopy job s.mau.copy
  issue (.totalsWrite job c.1 c.2) { s with mau := { s.mau with copy := c.1, totalsBusy := some job } }

/-- A totals write becomes due: issued at once when none is in progress, else in its turn (R131). -/
def requestTotals (job : TotalsJob) (s : State) : State :=
  match s.mau.totalsBusy with
  | none => issueTotals job s
  | some _ => { s with mau := { s.mau with totalsDue := s.mau.totalsDue ++ [job] } }

/-- At a totals write's completion the next one due is issued (R131). -/
def nextTotals (s : State) : State :=
  match s.mau.totalsDue with
  | [] => { s with mau := { s.mau with totalsBusy := none } }
  | job :: rest => issueTotals job { s with mau := { s.mau with totalsBusy := none, totalsDue := rest } }

/-! ### TAKE-ADVICE (R123) -/

/-- Kind code of TAKE-ADVICE (R177). -/
def kindAdvice : Nat := 0x18

/-- The figures of a TAKE-ADVICE reply: record count, new oldest untaken number, untaken count, records (R180). -/
def adviceFigures (oldest untaken : Nat) (records : List (List Byte)) : List Byte :=
  fig 1 records.length ++ fig 6 oldest ++ fig 2 untaken ++ records.flatten

/-- The JC takes the TAKE-ADVICE requests of a list one at a time: the first that has a record to read is served, those
before it are answered at once (R123). -/
def runAdvice : List (Nat × Nat) → State → State
  | [], s => { s with jc := { s.jc with advice := none, adviceWaiting := [] } }
  | (tag, count) :: rest, s =>
    if s.jc.store = .fault then runAdvice rest (sendLink tag { kind := kindAdvice, status := .storeFault } s)
    else if s.jc.oldest < s.jc.next then
      issue (.adviceRead s.jc.oldest)
        { s with jc := { s.jc with advice := some { tag := tag, count := count, u := s.jc.oldest, records := [] },
                                   adviceWaiting := rest } }
    else runAdvice rest
      (sendLink tag { kind := kindAdvice, status := .ok, figures := adviceFigures s.jc.oldest s.jc.untaken [] } s)

/-- The TAKE-ADVICE being served is answered and the next one taken (R123). -/
def answerAdvice (tag : Nat) (r : Reply) (s : State) : State := runAdvice s.jc.adviceWaiting (sendLink tag r s)

/-! ### Store FAULT (R125, R126) -/

/-- A totals write that was due and not issued is not made: its accrual or walk stops, its request is answered STORE-FAULT
(R89, R102, R126, R131). -/
def dropJob (s : State) (job : TotalsJob) : State :=
  match job with
  | .epoch => s
  | .accrual => { s with mau := { s.mau with accrual := none } }
  | .walkEnd => { s with mau := { s.mau with walk := none } }
  | .release tag _ =>
    sendLink tag { kind := 0x1B, status := .storeFault } { s with pcu := { s.pcu with releasing := false } }
  | .advice tag _ _ => answerAdvice tag { kind := kindAdvice, status := .storeFault } s

/-- Every totals write due is dropped. -/
def dropDue (s : State) : State :=
  s.mau.totalsDue.foldl dropJob { s with mau := { s.mau with totalsDue := [] } }

/-- The records of the append queue whose append access has not been issued (R126). -/
def unissued (s : State) : List AppendItem := if s.jc.appendIssued then s.jc.appendQueue.drop 1 else s.jc.appendQueue

/-- Those records are refused STORE-FAULT in queue order (R126). -/
def refuseUnissued (s : State) : State :=
  (unissued s).foldl (fun s i => refuseItem i .storeFault 0 [] 0 s)
    { s with jc := { s.jc with appendQueue := if s.jc.appendIssued then s.jc.appendQueue.take 1 else [] } }

/-- The store goes to FAULT, or raises its notice again when it is there (R125, R126, R141). Replies are formed here in this
order: the refused appends, then the totals writes dropped; the caller answers the request that failed after them (DESIGN
CHOICE of an order that R161 leaves open, log 34). -/
def enterFault (region : Region) (j : Nat) (s : State) : State :=
  let s := raiseStoreFault region j s
  match s.jc.store with
  | .fault => s
  | .normal => dropDue (refuseUnissued (abortSweep { s with jc := { s.jc with store := .fault } }))

end Sys2Proof.Machine
end

