-- ==== Sys2Proof/Machine/Recovery.lean ====
section
/-! DEFINITION. The course of start-up after a reset (R127 to R130): recovery's steps, the rebuild of the payout list, the
load of the admission table, and the end of start-up. -/

namespace Sys2Proof.Machine
open Sys2Proof

/-- Start-up ends: the part enters its phase and STARTED is raised (R130, R163, R169). -/
def endStart (phase : Phase) (epoch recovered : Nat) (s : State) : State :=
  raise (fun n => { n with started := some { cause := s.jc.cause, epoch := epoch, recovered := recovered } })
    { s with jc := { s.jc with phase := phase, stage := .none } }

/-- The admission table is loaded from the merchant records, merchant 1 first (R78, R130). -/
def startAdmission (s : State) : State :=
  issue (.admissionRead 1) { s with jc := { s.jc with stage := .admission 1 } }

/-- The rebuild of the list of the period before the accrued one begins (R109). -/
def startRebuild (s : State) : State :=
  issue (.rebuildRead 1)
    { s with
      jc := { s.jc with stage := .rebuild }
      pcu := { s.pcu with state := .building, entries := [], cursor := 0, period := s.mau.copy.accrued - 1,
                          rebuild := some (0, 1) } }

/-- Recovery has finished or ended in FAULT: the list is rebuilt when R109 calls for it, then the admission table is loaded
(R130). -/
def finishRecovery (s : State) : State :=
  if s.pcu.state = .empty ∧ s.mau.copy.released + 1 < s.mau.copy.accrued then startRebuild s else startAdmission s

/-- Whether a record has a card write (R129). -/
def MoveKind.hasCard : MoveKind → Bool
  | .merchantState | .periodEnd => false
  | _ => true

/-- Recovery takes the next PENDING record: its card step begins with a read, and a record with no card write goes on to
accrual (R129). -/
def recoverNext (todo : List JBody) (s : State) : State :=
  match todo with
  | [] => finishRecovery s
  | b :: _ =>
    if b.kind.hasCard then
      issue (.recoveryCardRead b) { s with jc := { s.jc with stage := .recover todo false } }
    else { s with jc := { s.jc with stage := .recover todo true } }

/-- In start-up, a step that set FAULT ends the recovery (R129); outside start-up nothing more follows. -/
def endRecoveryIfStarting (s : State) : State :=
  match s.jc.stage with
  | .recover _ _ => finishRecovery s
  | _ => s

/-- The record that recovery is accruing, its card step done (R129). -/
def recovering (s : State) : Option JBody :=
  match s.jc.stage with
  | .recover (b :: _) true => some b
  | _ => none

/-- After the commit mark of a record in recovery the next PENDING record is taken (R129). -/
def recoverOn (s : State) : State :=
  match s.jc.stage with
  | .recover (_ :: rest) true => recoverNext rest { s with jc := { s.jc with recovered := s.jc.recovered + 1 } }
  | _ => s

end Sys2Proof.Machine
end

