-- ==== Sys2Proof/Machine/Accrual.lean ====
section
/-! DEFINITION. The Merchant Accrual Unit: the commission step (R85), the effect of a record on a merchant's bank (R84, R86)
and on the totals (R132), the stages of an accrual (R83), and its failures (R88, R89). -/

namespace Sys2Proof.Machine
open Sys2Proof

/-! ### The effect of a record -/

/-- The commission step (R85): the commission delta, rounded toward minus infinity, and the new remainder. -/
def commissionStep (rho : Nat) (sign : Int) (amount rate : Nat) : Int × Nat :=
  let x : Int := rho + sign * (amount * rate : Nat)
  (x / 10000, (x % 10000).toNat)

/-- The sign of the commission step a kind makes (R84, R85); none for the kinds that make no step. -/
def stepSign : MoveKind → Option Int
  | .capture | .redeem | .lateCapture => some 1
  | .void | .refund => some (-1)
  | _ => none

/-- The delta of a step already applied, found from the remainder it left (R87): the one that puts the earlier remainder in
0 to 9,999. -/
def recoveredDelta (rho : Nat) (sign : Int) (amount rate : Nat) : Int :=
  -(((rho : Int) - sign * (amount * rate : Nat)) / 10000)

/-- Whether a record names a merchant whose account it changes (R83): merchant 1 to 240, no CASH-OUT or CARD-STATE. -/
def namesMerchant (b : JBody) : Bool :=
  inRange 1 Config.merchants b.merchant && b.kind != .cashOut && b.kind != .cardState && b.kind != .periodEnd

/-- A count of a bank, saturating (R70). -/
def countUp (n : Nat) : Nat := satInc Config.maxWord n

/-- The bank with the commission step of a kind made (R85), and the delta; with no step the delta is 0 (R87). -/
def stepBank (b : JBody) (t : Tariff) (k : Bank) : Bank × Int :=
  match stepSign b.kind with
  | some sg =>
    let p := commissionStep k.rho sg b.amount t.rate
    ({ k with c := k.c + p.1, rho := p.2 }, p.1)
  | none => (k, 0)

/-- The sums, counts and fees that a kind changes beside commission (R84, R86). -/
def sumBank (b : JBody) (t : Tariff) (k : Bank) : Bank :=
  match b.kind with
  | .capture | .redeem | .lateCapture =>
    { k with g := k.g + b.amount, captures := countUp k.captures, bf := k.bf - b.bonusDelta, x := k.x + t.fee }
  | .void => { k with v := k.v + b.amount, voids := countUp k.voids, bf := k.bf - b.bonusDelta, x := k.x - t.fee }
  | .refund => { k with f := k.f + b.amount, refunds := countUp k.refunds }
  | .activate | .load => { k with s := k.s + b.paidDelta, sales := countUp k.sales }
  | _ => k

/-- The effect of record b on its merchant's record (R84), and the commission delta. -/
def applyMerchant (b : JBody) (t : Tariff) (r : MerchantRec) : MerchantRec × Int :=
  let p := stepBank b t (sumBank b t r.bank)
  ({ r with bank := p.1, lastApplied := b.number,
            state := if b.kind = .merchantState then merchantStateOf b.newState else r.state }, p.2)

/-- Whether every sum of a bank lies in the signed 48-bit range (R70). -/
def bankFits (k : Bank) : Bool :=
  fitsSigned 6 k.g && fitsSigned 6 k.bf && fitsSigned 6 k.v && fitsSigned 6 k.f && fitsSigned 6 k.s && fitsSigned 6 k.c
    && fitsSigned 6 k.x

/-- The effect of record b on the totals record (R132). -/
def applyTotals (b : JBody) (t : Totals) : Totals :=
  let t := { t with outPaid := t.outPaid + b.paidDelta, outBonus := t.outBonus + b.bonusDelta, lastApplied := b.number }
  match b.kind with
  | .activate | .load => { t with bonusIssued := t.bonusIssued + b.bonusDelta }
  | .cashOut => { t with paidOut := t.paidOut - b.paidDelta, bonusForfeited := t.bonusForfeited - b.bonusDelta }
  | _ => t

/-- Whether every amount of the totals record lies in the signed 48-bit range (R131, R132). -/
def totalsFit (t : Totals) : Bool :=
  fitsSigned 6 t.outPaid && fitsSigned 6 t.outBonus && fitsSigned 6 t.bonusIssued && fitsSigned 6 t.bonusForfeited
    && fitsSigned 6 t.paidOut

/-! ### The stages -/

/-- The accrual ends without a commit: it leaves the record PENDING (R88, R89), and in start-up it ends the recovery. -/
def stopAccrual (s : State) : State := endRecoveryIfStarting { s with mau := { s.mau with accrual := none } }

/-- A failure of an accrual: FAULT with the region and the record's number (R88). -/
def failAccrual (region : Region) (j : Nat) (s : State) : State := stopAccrual (enterFault region j s)

/-- Stage 3: the record is handed to the JC for its commit mark (R83, R87, R122). -/
def commitAccrual (a : Accrual) (s : State) : State := issue (.commitMark a.body.number a.delta a.rem) s

/-- Stage 2: the effect on the working copy, and the totals write; nothing where the copy already carries the record
(R83, R132). -/
def accrualTotals (a : Accrual) (s : State) : State :=
  if a.body.number ≤ s.mau.copy.lastApplied then commitAccrual a { s with mau := { s.mau with accrual := some a } }
  else
    let t := applyTotals a.body s.mau.copy
    if totalsFit t then
      requestTotals .accrual { s with mau := { s.mau with copy := t, accrual := some { a with stage2 := true } } }
    else failAccrual .totals a.body.number s

/-- The end of stage 1: stage 2 follows, unless FAULT stops the accrual at the end of its stage (R89). -/
def endStage1 (a : Accrual) (s : State) : State :=
  match s.jc.store with
  | .normal => accrualTotals a s
  | .fault => stopAccrual s

/-- The accrual of a record begins (R83): stage 1 reads its merchant, or is skipped. -/
def beginAccrual (b : JBody) (s : State) : State :=
  let a : Accrual := { body := b, stage2 := false, delta := 0, rem := 0 }
  if namesMerchant b then issue (.accrualRead b.merchant) { s with mau := { s.mau with accrual := some a } }
  else accrualTotals a s

/-- Stage 1's merchant record has been read (R83, R84, R87, R88). -/
def accrualRead (a : Accrual) (m : Nat) (s : State) : State :=
  let b := a.body
  match readMerchant (Memory.readMany s.mem (merchantAddress m) 256) with
  | none => failAccrual .merchants b.number s
  | some r =>
    let t := s.tariff r.cls
    if b.number ≤ r.lastApplied then
      let d := match stepSign b.kind with
        | some sg => recoveredDelta r.bank.rho sg b.amount t.rate
        | none => 0
      endStage1 { a with delta := d, rem := r.bank.rho } s
    else
      let p := applyMerchant b t r
      if bankFits p.1.bank then
        issue (.accrualWrite m p.1)
          { s with mau := { s.mau with accrual := some { a with delta := p.2, rem := p.1.bank.rho } } }
      else failAccrual .merchants b.number s

/-- The record the MAU takes next from the accrual queue: the one whose number is one above the last applied number of the
totals record (R82). -/
def nextQueued (s : State) : Option JBody := s.mau.queue.find? fun b => b.number == s.mau.copy.lastApplied + 1

/-- The record taken leaves the accrual queue (R82). -/
def dequeue (b : JBody) (s : State) : State := { s with mau := { s.mau with queue := s.mau.queue.filter fun x => x.number != b.number } }

/-- Whether the MAU may take a record: the store is NORMAL and neither an accrual nor a walk is in progress (R82, R95). -/
def mauFree (s : State) : Bool := decide (s.jc.store = .normal) && s.mau.accrual.isNone && s.mau.walk.isNone

end Sys2Proof.Machine
end

