-- ==== Sys2Proof/Machine/Close.lean ====
section
/-! DEFINITION. The Period Close Unit and the close walk: the payout record (R97), the list with its group-ends and list-end
(R99), the walk's passes (R95 to R100), and the rebuild of a list (R109). -/

namespace Sys2Proof.Machine
open Sys2Proof

/-! ### The payout record and the list -/

/-- The net of a merchant's period (R97). -/
def netOf (k : Bank) (carry : Int) : Int := k.g - k.v - k.f - k.s - k.c - k.x + carry

/-- An ACTIVE merchant's row of R97's table. -/
def settleActive (n : Int) : Int × Int × PayStatus :=
  if 0 < n then (n, 0, .paid) else if n = 0 then (0, 0, .nil) else (0, n, .debt)

/-- A CLOSING merchant's rows of R97's table. -/
def settleClosing (n : Int) : Int × Int × PayStatus := if 0 ≤ n then (n, 0, .final) else (0, n, .finalDebt)

/-- Payout, carry after and status, from the state at the walk and the net (R97). The table has no row for UNCONFIGURED and
CLOSED, which no run of the part brings here (R96): a free value says which of its rows is followed (log 27). -/
def settle (st : MerchantState) (n : Int) : Int × Int × PayStatus :=
  match st with
  | .active => settleActive n
  | .suspended => (0, n, .withheld)
  | .closing => settleClosing n
  | .unconfigured | .closed =>
    match Config.unlistedRow n % 3 with
    | 0 => settleActive n
    | 1 => (0, n, .withheld)
    | _ => settleClosing n

/-- The payout record of merchant m for period p (R97). -/
def payoutOf (m p : Nat) (r : MerchantRec) : Payout :=
  let k := r.bank
  let n := netOf k r.carry
  let t := settle r.state n
  { merchant := m, group := r.group, period := p, state := r.state, g := k.g, captures := k.captures, bf := k.bf, v := k.v,
    voids := k.voids, f := k.f, refunds := k.refunds, s := k.s, sales := k.sales, c := k.c, x := k.x, carryBefore := r.carry,
    n := n, payout := t.1, carryAfter := t.2.1, status := t.2.2 }

/-- The merchant record the walk writes (R98). -/
def closedRecord (p : Nat) (r : MerchantRec) (pay : Payout) : MerchantRec :=
  { r with carry := pay.carryAfter, lastClosed := p, bank := bankReset, lastResult := some pay,
           state := if r.state = .closing then .closed else r.state }

/-- Whether the walk skips a merchant not yet closed in its period (R96 steps 2 and 3). -/
def skipped (r : MerchantRec) : Bool :=
  decide (r.state = .closed) || (decide (r.bank = bankReset) && decide (r.carry = 0) && decide (r.state ≠ .closing))

/-- The merchant records of a list (R99). -/
def payoutsIn (entries : List PayEntry) : List Payout :=
  entries.filterMap fun e => match e with | .merchant r => some r | _ => none

/-- The group-end records of a list (R99). -/
def groupEndsIn (entries : List PayEntry) : Nat :=
  (entries.filter fun e => match e with | .groupEnd _ _ _ => true | _ => false).length

/-- The sums over payout records (R99). -/
def sumsOf (rs : List Payout) : PaySums :=
  { g := (rs.map Payout.g).sum, v := (rs.map Payout.v).sum, f := (rs.map Payout.f).sum, s := (rs.map Payout.s).sum,
    c := (rs.map Payout.c).sum, x := (rs.map Payout.x).sum, payout := (rs.map Payout.payout).sum }

/-- Whether the sums lie in the signed 48-bit range (R99). -/
def sumsFit (t : PaySums) : Bool :=
  fitsSigned 6 t.g && fitsSigned 6 t.v && fitsSigned 6 t.f && fitsSigned 6 t.s && fitsSigned 6 t.c && fitsSigned 6 t.x
    && fitsSigned 6 t.payout

/-- The list after the pass of group g: a group-end closes the records of the group, if there are any (R99); none when a
sum leaves its range. -/
def endPass (g : Nat) (entries : List PayEntry) : Option (List PayEntry) :=
  let rs := (payoutsIn entries).filter fun r => r.group == g
  if rs = [] then some entries
  else if sumsFit (sumsOf rs) then some (entries ++ [.groupEnd g rs.length (sumsOf rs)]) else none

/-- The list closed by its list-end record (R99); none when a sum leaves its range. -/
def endList (p : Nat) (entries : List PayEntry) : Option (List PayEntry) :=
  let rs := payoutsIn entries
  if sumsFit (sumsOf rs) then some (entries ++ [.listEnd p rs.length (groupEndsIn entries) (sumsOf rs)]) else none

/-- An entry joins the list (R99). -/
def addEntry (e : PayEntry) (s : State) : State := { s with pcu := { s.pcu with entries := s.pcu.entries ++ [e] } }

def setEntries (es : List PayEntry) (s : State) : State := { s with pcu := { s.pcu with entries := es } }

/-! ### The close walk -/

/-- The walk stops without its end (R102); in start-up it ends the recovery. -/
def stopWalk (s : State) : State := endRecoveryIfStarting { s with mau := { s.mau with walk := none } }

/-- A failure of the walk (R102). -/
def failWalk (region : Region) (j : Nat) (s : State) : State := stopWalk (enterFault region j s)

/-- The walk reads a merchant in a pass (R95). -/
def walkTo (w : Walk) (g m : Nat) (s : State) : State :=
  issue (.walkRead m) { s with mau := { s.mau with walk := some { w with group := g, merchant := m } } }

/-- The close walk begins: the list is BUILDING and empty (R95). -/
def beginWalk (b : JBody) (s : State) : State :=
  walkTo { j := b.number, period := b.period, group := 0, merchant := 1 } 0 1
    { s with pcu := { s.pcu with state := .building, entries := [], cursor := 0, period := b.period } }

/-- The walk's end after the eighth pass: the list-end record, and the totals write of the new accrued period (R100). -/
def endWalk (w : Walk) (s : State) : State :=
  match endList w.period s.pcu.entries with
  | none => failWalk .merchants w.j s
  | some es =>
    requestTotals .walkEnd
      { setEntries es s with
        mau := { s.mau with copy := { s.mau.copy with accrued := w.period + 1, lastApplied := w.j } } }

/-- The walk goes on after a merchant: the next merchant, the next pass, or its end (R95, R99, R100). -/
def walkOn (w : Walk) (s : State) : State :=
  if w.merchant < Config.merchants then walkTo w w.group (w.merchant + 1) s
  else match endPass w.group s.pcu.entries with
    | none => failWalk .merchants w.j s
    | some es => if w.group < 7 then walkTo w (w.group + 1) 1 (setEntries es s) else endWalk w (setEntries es s)

/-- The stored result of a merchant this walk has already closed (R96 step 1). A good record whose last closed period is the
walk's (or the list's, in a rebuild) but which carries no last result has no outcome in the rule: the walk takes its merchant as
not yet closed, and a rebuild passes it over (DESIGN CHOICE, log 38). No run of the part writes such a record. -/
def closedIn (p : Nat) (r : MerchantRec) : Option Payout := if r.lastClosed = p then r.lastResult else none

/-- What a good merchant record read for the walk leads to (R96 to R98). -/
def walkMerchant (w : Walk) (m : Nat) (r : MerchantRec) (s : State) : State :=
  match closedIn w.period r with
  | some pay => if pay.group = w.group then walkOn w (addEntry (.merchant pay) s) else walkOn w s
  | none =>
    if r.group ≠ w.group then walkOn w s
    else if skipped r then walkOn w s
    else
      let pay := payoutOf m w.period r
      if fitsSigned 6 pay.n then issue (.walkWrite m (closedRecord w.period r pay)) s
      else failWalk .merchants w.j s

/-- A merchant record read for the walk (R95 to R98, R102). Its check is applied in store FAULT too, where a bad record raises
STORE-FAULT again (R125; DEDUCED, log 20); a good one then stops the walk. -/
def walkRead (w : Walk) (m : Nat) (s : State) : State :=
  match readMerchant (Memory.readMany s.mem (merchantAddress m) 256) with
  | none => failWalk .merchants w.j s
  | some r =>
    match s.jc.store with
    | .fault => stopWalk s
    | .normal => walkMerchant w m r s

/-- The walk's write of a merchant is verified (R96 step 4, R98): CLOSED reaches the admission table, the payout record the
list. A FAULT set meanwhile stops the walk here (R102). -/
def walkWritten (w : Walk) (m : Nat) (r : MerchantRec) (s : State) : State :=
  let s := if r.state = .closed then s.setAdmission m { s.admission m with state := .closed } else s
  let s := match r.lastResult with
    | some pay => addEntry (.merchant pay) s
    | none => s
  match s.jc.store with
  | .normal => walkOn w s
  | .fault => stopWalk s

/-- The new period handed to one line controller: pending, or dropped when the line is CLOSED (R153). -/
def handPeriod (p : Nat) (l : Line) : Line := if l.state = .closed then l else { l with periodChange := some p }

/-- The number of merchant records and the payout total of a list's list-end record (R100). -/
def listTotals (entries : List PayEntry) : Nat × Int := ((payoutsIn entries).length, (sumsOf (payoutsIn entries)).payout)

/-- The third stage of the walk's end (R100): COMPLETE, CLOSE-DONE, and the new period to the lines. -/
def finishWalk (w : Walk) (s : State) : State :=
  let t := listTotals s.pcu.entries
  raise (fun n => { n with closeDone := some { period := w.period, records := t.1, payout := t.2 } })
    { s with
      pcu := { s.pcu with state := .complete }
      lines := s.lines.map (handPeriod (w.period + 1))
      mau := { s.mau with walk := none } }

/-! ### The rebuild of a list (R109) -/

/-- The rebuild ends: COMPLETE, or BUILDING when it was stopped; then the admission table is loaded (R109, R130). -/
def endRebuild (st : ListState) (s : State) : State :=
  startAdmission { s with pcu := { s.pcu with state := st, rebuild := none } }

/-- A rebuild that meets a bad record stops in FAULT with the list BUILDING (R109). -/
def failRebuild (s : State) : State := endRebuild .building (enterFault .merchants 0 s)

/-- The rebuild goes on after merchant m of pass g. -/
def rebuildOn (g m : Nat) (s : State) : State :=
  let go (g m : Nat) (s : State) := issue (.rebuildRead m) { s with pcu := { s.pcu with rebuild := some (g, m) } }
  if m < Config.merchants then go g (m + 1) s
  else match endPass g s.pcu.entries with
    | none => failRebuild s
    | some es =>
      if g < 7 then go (g + 1) 1 (setEntries es s)
      else match endList s.pcu.period es with
        | none => failRebuild (setEntries es s)
        | some all => endRebuild .complete (setEntries all s)

/-- A merchant record read for the rebuild (R109). -/
def rebuildRead (g m : Nat) (s : State) : State :=
  match readMerchant (Memory.readMany s.mem (merchantAddress m) 256) with
  | none => failRebuild s
  | some r =>
    match closedIn s.pcu.period r with
    | some pay => rebuildOn g m (if pay.group = g then addEntry (.merchant pay) s else s)
    | none => rebuildOn g m s

end Sys2Proof.Machine
end

