-- ==== Sys2Proof/Machine/Cards.lean ====
section
/-! DEFINITION. The Card Engine: the decision on each kind of card request once its card is read (R11 to R19, R30 to R33,
R49 to R67), the Hold Table's two events (R31, R37), and the completion of a movement (R47, R48). -/

namespace Sys2Proof.Machine
open Sys2Proof

/-! ### Tests and figures of a decision -/

/-- What a decision comes to (R23, R44): an answer that ends it, a hold for the Hold Table, a claim, or a movement. -/
inductive Verdict where
  | answer (r : Reply)
  | enter (h : HoldPlan)
  | claim
  | move (m : Movement)
  deriving DecidableEq, Repr

/-- The group mask test (R9): merchant 0, or the bit of the merchant's payout group is set in the window's mask. -/
def maskAllows (s : State) (w : Window) (merchant : Nat) : Bool :=
  decide (merchant = 0) || w.groupMask.testBit (s.admission merchant).group

/-- The movement a request leads to, over the record read: the deltas are the differences of the purses (R43). -/
def movementOf (req : CardReq) (r : CardRec) (kind : MoveKind) (amount : Nat) (st : CardState) (paid bonus : Nat) : Movement :=
  { kind := kind, req := req, amount := amount, paidDelta := (paid : Int) - r.paid, bonusDelta := (bonus : Int) - r.bonus,
    newState := st, paid := paid, bonus := bonus, readCount := r.count, readActivation := r.activation }

/-- The uncapped bonus of R19 step 1. -/
def bonusUncapped (w : Window) (a : Nat) : Nat :=
  if w.bonusThreshold ≤ a then min (a * w.bonusRate / 10000) w.bonusCap else 0

/-- The bonus given and whether it was clamped (R19): the lesser of the uncapped bonus and the room left after the paid
value. -/
def bonusGiven (w : Window) (a paidAfter bonusBefore : Nat) : Nat × Bool :=
  let b0 := bonusUncapped w a
  let b := min b0 (w.maxBalance - (paidAfter + bonusBefore))
  (b, decide (b < b0))

/-- The available values of the card just read, as the chain stands (R17). -/
def availOf (s : State) (req : CardReq) (r : CardRec) : Nat × Nat :=
  (s.availPaid req.card req.slot r.paid, s.availBonus req.card req.slot r.bonus)

/-! ### The decisions -/

/-- ACTIVATE (R49, R50). -/
def decideActivate (s : State) (w : Window) (req : CardReq) (r : CardRec) : Verdict :=
  if r.state ≠ .blank then .answer (refusal req .cardState)
  else if maskAllows s w req.merchant = false then .answer (refusal req .programmeRule)
  else if w.maxBalance < req.amount then .answer (refusal req .overLimit)
  else
    let b := bonusGiven w req.amount req.amount 0
    .move { movementOf req r .activate req.amount .active req.amount b.1 with clamped := b.2 }

/-- LOAD (R51). -/
def decideLoad (s : State) (w : Window) (req : CardReq) (r : CardRec) : Verdict :=
  if r.state ≠ .active then .answer (refusal req .cardState)
  else if w.reloadable = false ∨ maskAllows s w req.merchant = false then .answer (refusal req .programmeRule)
  else if w.maxBalance < r.paid + r.bonus + req.amount then .answer (refusal req .overLimit)
  else
    let b := bonusGiven w req.amount (r.paid + req.amount) r.bonus
    .move { movementOf req r .load req.amount .active (r.paid + req.amount) (r.bonus + b.1) with clamped := b.2 }

/-- HOLD: the checks of R30 and the amount of R31. -/
def decideHold (s : State) (w : Window) (req : CardReq) (r : CardRec) : Verdict :=
  let a := availOf s req r
  let v := a.1 + a.2
  if r.state ≠ .active then .answer (refusal req .cardState)
  else if maskAllows s w req.merchant = false then .answer (refusal req .programmeRule)
  else if req.merchant ≠ 0 ∧ (s.admission req.merchant).state ≠ .active then .answer (refusal req .merchantState)
  else if Config.holdsPerCard ≤ (s.chain req.card req.slot).length then .answer (refusal req .holdLimit)
  else if Config.holdEntries ≤ s.ht.holds.length then .answer (refusal req .holdTableFull)
  else if req.amount ≤ v then
    let p := splitPurses w.order req.amount a.1 a.2
    .enter { held := req.amount, paid := p.1, bonus := p.2, available := v }
  else if req.partialFlag = true ∧ 0 < v then .enter { held := v, paid := a.1, bonus := a.2, available := v }
  else .answer (refusal req .insufficient (fig 3 v))

/-- REDEEM (R52, R53). -/
def decideRedeem (s : State) (w : Window) (req : CardReq) (r : CardRec) : Verdict :=
  let a := availOf s req r
  let v := a.1 + a.2
  if r.state ≠ .active then .answer (refusal req .cardState)
  else if maskAllows s w req.merchant = false then .answer (refusal req .programmeRule)
  else if req.amount ≤ v then
    let p := splitPurses w.order req.amount a.1 a.2
    .move (movementOf req r .redeem req.amount .active (r.paid - p.1) (r.bonus - p.2))
  else if req.partialFlag = true ∧ 0 < v then
    .move (movementOf req r .redeem v .active (r.paid - a.1) (r.bonus - a.2))
  else .answer (refusal req .insufficient (fig 3 v))

/-- CAPTURE up to its claim (R54 step 1). -/
def decideCapture (req : CardReq) (r : CardRec) : Verdict :=
  if r.state ≠ .active then .answer (refusal req .cardState) else .claim

/-- LATE-CAPTURE (R57, R58). -/
def decideLate (s : State) (w : Window) (req : CardReq) (r : CardRec) : Verdict :=
  let a := availOf s req r
  let v := a.1 + a.2
  if maskAllows s w req.merchant = false then .answer (refusal req .programmeRule)
  else if v < req.amount then .answer (refusal req .holdGone (fig 3 v))
  else
    let p := splitPurses w.order req.amount a.1 a.2
    .move (movementOf req r .lateCapture req.amount .active (r.paid - p.1) (r.bonus - p.2))

/-- A capture's movement against the parts of its claimed hold (R55). -/
def captureMovement (w : Window) (req : CardReq) (r : CardRec) (h : Hold) : Movement :=
  let p := splitPurses w.order req.amount h.paid h.bonus
  { movementOf req r .capture req.amount .active (r.paid - p.1) (r.bonus - p.2) with held := h.held }

/-- The ring entry a VOID may reverse (R61 step 2). -/
def voidTarget (s : State) (req : CardReq) : Option RingEntry :=
  match s.ce.ring.find? fun e => e.journal == req.voided with
  | some e => if e.card = req.card ∧ e.merchant = req.merchant ∧ e.voided = false then some e else none
  | none => none

/-- VOID (R61, R62). -/
def decideVoid (s : State) (w : Window) (req : CardReq) (r : CardRec) : Verdict :=
  if r.state ≠ .active ∧ r.state ≠ .blocked then .answer (refusal req .cardState)
  else match voidTarget s req with
    | none => .answer (refusal req .voidTooLate)
    | some e =>
      if w.maxBalance < r.paid + r.bonus + (e.paid + e.bonus) then .answer (refusal req .overLimit)
      else .move { movementOf req r .void (e.paid + e.bonus) r.state (r.paid + e.paid) (r.bonus + e.bonus)
                   with capturePeriod := e.period }

/-- REFUND (R64, R65). -/
def decideRefund (s : State) (w : Window) (req : CardReq) (r : CardRec) : Verdict :=
  if r.state ≠ .active then .answer (refusal req .cardState)
  else if maskAllows s w req.merchant = false then .answer (refusal req .programmeRule)
  else if req.merchant ≠ 0 ∧ (s.tariff (s.admission req.merchant).cls).cap < req.amount then .answer (refusal req .programmeRule)
  else if w.maxBalance < r.paid + r.bonus + req.amount then .answer (refusal req .overLimit)
  else .move (movementOf req r .refund req.amount .active (r.paid + req.amount) r.bonus)

/-- CASH-OUT (R66). -/
def decideCashOut (s : State) (w : Window) (req : CardReq) (r : CardRec) : Verdict :=
  if r.state ≠ .active ∧ r.state ≠ .blocked then .answer (refusal req .cardState)
  else if w.cashable = false then .answer (refusal req .programmeRule)
  else if s.chain req.card req.slot ≠ [] then
    .answer (refusal req .holdsPresent (fig 1 (s.chain req.card req.slot).length))
  else .move (movementOf req r .cashOut r.paid .cashed 0 0)

/-- BLOCK (R67). -/
def decideBlock (req : CardReq) (r : CardRec) : Verdict :=
  if r.state ≠ .active then .answer (refusal req .cardState)
  else .move (movementOf req r .cardState 0 .blocked r.paid r.bonus)

/-- UNBLOCK (R67). -/
def decideUnblock (req : CardReq) (r : CardRec) : Verdict :=
  if r.state ≠ .blocked then .answer (refusal req .cardState)
  else .move (movementOf req r .cardState 0 .active r.paid r.bonus)

/-- The reply to a BALANCE (R33). -/
def balanceReply (s : State) (req : CardReq) (r : CardRec) : Reply :=
  let a := availOf s req r
  let c := s.chain req.card req.slot
  { kind := req.kind.code, status := .ok,
    figures := fig 4 req.card ++ fig 1 r.state.code ++ fig 3 r.paid ++ fig 3 r.bonus ++ fig 3 (c.map Hold.held).sum ++ fig 3 a.1
      ++ fig 3 a.2 ++ fig 3 (a.1 + a.2) ++ fig 1 c.length ++ fig 4 r.lastPeriod }

/-- The reply to a RELEASE that found its hold; `s` is the state after the removal (R32). -/
def releaseReply (s : State) (req : CardReq) (r : CardRec) (h : Hold) : Reply :=
  { kind := req.kind.code, status := .ok,
    figures := fig 4 req.card ++ fig 3 h.requested ++ fig 3 h.held ++ fig 3 h.paid ++ fig 3 h.bonus ++ originBytes h.origin
      ++ fig 3 (s.available req.card req.slot r.paid r.bonus) }

/-- RELEASE: the ACTIVE hold of the requesting merchant that the reference names leaves the table, or HOLD-GONE (R32). -/
def releaseHold (k : Nat) (req : CardReq) (r : CardRec) (s : State) : State :=
  match s.findHold req.card req.slot req.epoch req.serial with
  | some h =>
    if h.merchant = req.merchant ∧ h.state = .active then
      let s := removeHold req.card req.slot req.epoch req.serial s
      answerOwner k req (releaseReply s req r h) s
    else answerOwner k req (refusal req .holdGone) s
  | none => answerOwner k req (refusal req .holdGone) s

/-- What a decision comes to is carried out under lock k. -/
def carryOut (k : Nat) (req : CardReq) (r : CardRec) (v : Verdict) (s : State) : State :=
  match v with
  | .answer reply => answerOwner k req reply s
  | .enter h => setDoing k (.entering h) s
  | .claim => setDoing k (.claiming r) s
  | .move m => joinAppend (.movement k m) (setDoing k .moving s)

/-- The decision of a request on the card it read (R44 steps 6 to 9). -/
def decideCard (k : Nat) (req : CardReq) (r : CardRec) (s : State) : State :=
  let w := s.window req.window
  match req.kind with
  | .activate => carryOut k req r (decideActivate s w req r) s
  | .load => carryOut k req r (decideLoad s w req r) s
  | .hold => carryOut k req r (decideHold s w req r) s
  | .release => releaseHold k req r s
  | .balance => answerOwner k req (balanceReply s req r) s
  | .capture => carryOut k req r (decideCapture req r) s
  | .redeem => carryOut k req r (decideRedeem s w req r) s
  | .void => carryOut k req r (decideVoid s w req r) s
  | .refund => carryOut k req r (decideRefund s w req r) s
  | .cashOut => carryOut k req r (decideCashOut s w req r) s
  | .block => carryOut k req r (decideBlock req r) s
  | .unblock => carryOut k req r (decideUnblock req r) s

/-- A card read completes under lock k (R11): unreadable, another card's slot, or the card. -/
def cardRead (k slot : Nat) (s : State) : State :=
  match s.lock k with
  | none => s
  | some l =>
    match readCard (Memory.readMany s.mem (cardAddress slot) 32) with
    | none => answerOwner k l.owner (refusal l.owner .storeFault) (raiseStoreFault .cards 0 s)
    | some r =>
      if r.state ≠ .blank ∧ r.number ≠ l.owner.card then answerOwner k l.owner (refusal l.owner .wrongSlot) s
      else decideCard k l.owner r s

/-! ### The Hold Table's events -/

/-- The reply to a HOLD that was entered (R31). -/
def holdReply (req : CardReq) (p : HoldPlan) (h : Hold) : Reply :=
  { kind := req.kind.code, status := if p.held < req.amount then .partialOk else .ok,
    figures := fig 4 req.card ++ fig 1 h.epoch ++ fig 2 h.serial ++ fig 3 req.amount ++ fig 3 p.held ++ fig 3 p.paid
      ++ fig 3 p.bonus ++ fig 4 h.expiry ++ fig 3 (p.available - p.held) }

/-- The serial given to a new hold (R28). -/
def nextSerial (s : State) : Nat := freeSerial (s.ht.holds.map Hold.serial) 513 s.ht.serial

/-- The entry the Hold Table makes of a decided hold (R26, R28, R31). -/
def newHold (s : State) (req : CardReq) (p : HoldPlan) : Hold :=
  { epoch := s.ht.epoch, serial := nextSerial s, card := req.card, slot := req.slot, merchant := req.merchant,
    origin := req.origin, requested := req.amount, held := p.held, paid := p.paid, bonus := p.bonus,
    expiry := min (s.ht.seconds + (s.window req.window).lifetime) Config.maxWord, state := .active }

/-- The Hold Table enters a decided hold, or refuses it HOLD-TABLE-FULL; then the lock is released (R23, R31). -/
def enterHold (k : Nat) (req : CardReq) (p : HoldPlan) (s : State) : State :=
  if Config.holdEntries ≤ s.ht.holds.length then answerOwner k req (refusal req .holdTableFull) s
  else
    let h := newHold s req p
    answerOwner k req (holdReply req p h)
      { s with ht := { s.ht with holds := s.ht.holds ++ [h], serial := if h.serial = 65535 then 1 else h.serial + 1 } }

/-- The Hold Table decides a claim (R37), and the capture goes on by R54 to R58. -/
def claimHold (k : Nat) (req : CardReq) (r : CardRec) (s : State) : State :=
  let w := s.window req.window
  let late := carryOut k req r (decideLate s w req r) s
  match s.findHold req.card req.slot req.epoch req.serial with
  | some h =>
    if h.state ≠ .active then late
    else if h.merchant ≠ req.merchant then
      answerOwner k req (refusal req .badRequest [] reasonOtherMerchant) s
    else if h.held < req.amount then answerOwner k req (refusal req .exceedsHold (fig 3 h.held)) s
    else carryOut k req r (.move (captureMovement w req r h)) (markHold req.card req.slot req.epoch req.serial .claimed s)
  | none => late

/-! ### Completion of a movement -/

/-- Part 1 of R47: a CAPTURE's claimed hold is removed (R39), a BLOCK's holds are cleared (R40). -/
def completeHolds (m : Movement) (s : State) : State :=
  match m.kind, m.req.kind with
  | .capture, _ => removeHold m.req.card m.req.slot m.req.epoch m.req.serial s
  | .cardState, .block => clearChain m.req.card m.req.slot s
  | _, _ => s

/-- An entry joins the capture ring, the oldest dropped when it is full (R59). -/
def ringAdd (e : RingEntry) (ring : List RingEntry) : List RingEntry :=
  (if Config.ringEntries ≤ ring.length then ring.drop 1 else ring) ++ [e]

/-- The ring entry of a completed capture kind (R59). -/
def ringEntryOf (m : Movement) (j p : Nat) : RingEntry :=
  { journal := j, card := m.req.card, merchant := m.req.merchant, paid := m.paidDelta.natAbs, bonus := m.bonusDelta.natAbs,
    period := p, voided := false }

/-- Part 2 of R47: the ring takes an entry (R59), or a VOID marks its capture's entry (R63). -/
def completeRing (m : Movement) (j p : Nat) (s : State) : State :=
  match m.kind with
  | .capture | .redeem | .lateCapture => { s with ce := { s.ce with ring := ringAdd (ringEntryOf m j p) s.ce.ring } }
  | .void =>
    { s with ce := { s.ce with ring := s.ce.ring.map fun e => if e.journal = m.req.voided then { e with voided := true } else e } }
  | _ => s

/-- The figures a movement's reply carries beside those of R47 (R50, R51, R53, R56, R63, R66, R67). -/
def movementExtras (m : Movement) (removed : Nat) : List Byte :=
  match m.kind with
  | .activate | .load => fig 3 m.bonusDelta.toNat
  | .redeem => fig 3 m.req.amount
  | .capture => fig 3 m.held ++ fig 3 (m.held - m.amount)
  | .void => fig 6 m.req.voided
  | .cashOut => fig 3 m.amount ++ fig 3 (-m.bonusDelta).toNat
  | .cardState => if m.req.kind = .block then fig 1 removed else []
  | _ => []

/-- The reply to a completed movement (R47); `removed` is the number of holds a BLOCK removed. -/
def movementReply (s : State) (m : Movement) (j p removed : Nat) : Reply :=
  { kind := m.req.kind.code, status := if m.kind = .redeem ∧ m.amount < m.req.amount then .partialOk else .ok,
    late := decide (m.kind = .lateCapture), clamped := m.clamped, journal := j,
    figures := fig 4 m.req.card ++ fig 6 j ++ fig 4 p ++ fig 3 m.amount ++ sfig 4 m.paidDelta ++ sfig 4 m.bonusDelta ++ fig 3 m.paid
      ++ fig 3 m.bonus ++ fig 3 (s.available m.req.card m.req.slot m.paid m.bonus) ++ movementExtras m removed }

/-- A card write at or below the sweep's cursor adds its deltas (R138). -/
def sweepAdjust (slot : Nat) (paid bonus : Int) (s : State) : State :=
  if s.asu.state = .running ∧ slot ≤ s.asu.cursor then
    { s with asu := { s.asu with paid := s.asu.paid + paid, bonus := s.asu.bonus + bonus } }
  else s

/-- A movement joins the accrual queue (R47 part 5, R81). -/
def joinAccrual (b : JBody) (s : State) : State := { s with mau := { s.mau with queue := s.mau.queue ++ [b] } }

/-- The completion of a movement whose card write was verified (R47, R120, R138). -/
def finishMovement (k : Nat) (m : Movement) (j p : Nat) (s : State) : State :=
  let removed := (s.chain m.req.card m.req.slot).length
  let s := completeRing m j p (completeHolds m (sweepAdjust m.req.slot m.paidDelta m.bonusDelta s))
  joinAccrual (movementBody m j p) (answerOwner k m.req (movementReply s m j p removed) s)

/-- The reduced completion of a movement whose card write failed (R48). Its reply carries no CLAMPED flag (DESIGN CHOICE,
log 31). -/
def finishReduced (k : Nat) (m : Movement) (j : Nat) (s : State) : State :=
  answerOwner k m.req (refusal m.req .storeFault (fig 6 j) 0 j) (completeHolds m s)

end Sys2Proof.Machine
end

