-- ==== Sys2Proof/Machine/Link.lean ====
section
/-! DEFINITION. The Host Link Port: what every request frame meets before its block (R157 to R160), the frames that are no
request, the sending of replies (R161), and reset (R167, R168). -/

namespace Sys2Proof.Machine
open Sys2Proof

/-- The rows of the phase table of R160, by what they hold. -/
inductive ReqClass where
  /-- PART-STATUS, TAKE-NOTICES -/
  | status
  /-- SET-TIME -/
  | time
  /-- RESTART -/
  | restart
  /-- FORMAT -/
  | format
  /-- the SET requests -/
  | config
  /-- OPEN-SERVICE -/
  | opening
  /-- the requests taken in SETUP and SERVICE -/
  | books
  /-- the requests taken in SERVICE alone -/
  | trade
  deriving DecidableEq, Repr

/-- The phase check (R160): none when the request is taken, else the status and reason of its refusal. -/
def phaseRefusal (c : ReqClass) (phase : Phase) (formatting : Bool) : Option (Status × Nat) :=
  match phase with
  | .startup => if c = .time then none else some (.busy, 0)
  | .unformatted =>
    if formatting then (if c = .time ∨ c = .status then none else some (.busy, 0))
    else match c with
      | .status | .time | .restart | .format => none
      | .config | .opening | .books | .trade => some (.notInPhase, 0)
  | .setup =>
    if formatting then (if c = .time ∨ c = .status then none else some (.busy, 0))
    else match c with
      | .trade => some (.notInPhase, 0)
      | _ => none
  | .service =>
    match c with
    | .format | .config => some (.configRefused, reasonInService)
    | .opening => some (.configRefused, reasonAlreadyOpen)
    | _ => none

/-- A reply that refuses a frame before its block sees it (R159, R160, R179). Of a failed field check it carries the reason
FIELD; which field failed first shows nowhere in a reply (R176, log 36). -/
def earlyRefusal (kind : Nat) (body : List Byte) (st : Status) (reason : Nat) : Reply :=
  { kind := kind, status := st, reason := reason, figures := carriedCard kind body }

/-- An accepted request frame (R157, R159, R160): the tag test, the field check, the phase check, and then the block that
owns the request, with the tag as its origin. -/
def hostRequest {α : Type} (kind : Nat) (c : ReqClass) (tag : Byte) (body : List Byte) (fields : List Byte → Option α)
    (act : Nat → α → State → State) (s : State) : State :=
  let t := tag.toNat
  if s.hlp.deaf then s
  else
    let s := { s with hlp := { s.hlp with inbound := [] } }
    if t = 0 then sendUntagged (replyKind kind) t (earlyRefusal kind body .badRequest reasonTagZero) s
    else if s.hlp.inFlight.contains t then
      sendUntagged (replyKind kind) t (earlyRefusal kind body .badRequest reasonDuplicateTag) s
    else if Config.linkSlots ≤ s.hlp.inFlight.length then sendUntagged (replyKind kind) t (earlyRefusal kind body .busy 0) s
    else
      let s := { s with hlp := { s.hlp with inFlight := s.hlp.inFlight ++ [t] } }
      match fields body with
      | none => sendLink t (earlyRefusal kind body .badRequest reasonField) s
      | some f =>
        match phaseRefusal c s.jc.phase s.jc.format.isSome with
        | some (st, reason) => sendLink t (earlyRefusal kind body st reason) s
        | none => act t f s

/-- A card request from the link (R21, R44, R45). -/
def hostCard (k : CardKind) (tag : Byte) (body : List Byte) (s : State) : State :=
  hostRequest k.code .trade tag body (cardRequest? k (.link tag.toNat)) (fun _ req s => takeCardRequest req s) s

/-- The FRAME-REJECTED reply (R158). -/
def rejectFrame (reason : Nat) (s : State) : State :=
  sendUntagged 0xFF 0 { kind := 0x7F, status := .badRequest, reason := reason } { s with hlp := { s.hlp with inbound := [] } }

/-- Bytes of a host frame that the receiver collected and rejects for its length or its check (R158); bytes that are no
such frame are not this event. -/
def takeRejected (bytes : List Byte) (s : State) : State :=
  if s.hlp.deaf then s
  else match receive (s.hlp.inbound ++ bytes) with
    | .rejected reason => rejectFrame reason s
    | _ => s

/-- A gap after some bytes of a frame (R158). -/
def takeGap (bytes : List Byte) (s : State) : State :=
  if s.hlp.deaf then s
  else match receive (s.hlp.inbound ++ bytes) with
    | .partialFrame => rejectFrame reasonGap s
    | _ => s

/-- A reset of the part (R168): the access in service is cut off where it stands (R112, R113), every block takes its reset
value, and start-up begins. The commands still queued are events yet to come. -/
def resetPart (cause : ResetCause) (straps : BitVec 2) (left : Residue) (s : State) : State :=
  let mem := match s.jc.serving with
    | some op => (leaveOp op left s).mem
    | none => s.mem
  resetWith cause straps mem s.pending

/-- The next frame of the outbound queue begins (R161). -/
def beginNext (n : Notices) : List OutFrame → List OutFrame
  | [] => []
  | f :: fs => beginFrame n f :: fs

/-- The last byte of the reply frame on TXD is sent (R161, R167, R172). -/
def frameSent (left : Residue) (s : State) : State :=
  match s.hlp.outbound with
  | [] => s
  | f :: rest =>
    if f.resets then resetPart .restart s.hlp.straps left s
    else { s with hlp := { s.hlp with
      outbound := beginNext s.hlp.notices rest
      inFlight := if f.tagged then s.hlp.inFlight.filter (fun t => t != f.tag) else s.hlp.inFlight } }

/-- The cause of an outside reset (R130). -/
def causeOf : PowerCause → ResetCause
  | .powerOn => .powerOn
  | .resetPin => .resetPin

/-- RESET (R168). -/
def execReset (cause : PowerCause) (straps : BitVec 2) (left : Residue) (s : State) : Host.Outcome State Fault Refusal :=
  .next (resetPart (causeOf cause) straps left s)

/-- FRAME_REJECTED (R158). -/
def execFrameRejected (bytes : List Byte) (s : State) : Host.Outcome State Fault Refusal := .next (takeRejected bytes s)

/-- RECEIVE_GAP_EXPIRY (R158). -/
def execReceiveGapExpiry (bytes : List Byte) (s : State) : Host.Outcome State Fault Refusal := .next (takeGap bytes s)

/-- REPLY_FRAME_SENT (R161). -/
def execReplyFrameSent (left : Residue) (s : State) : Host.Outcome State Fault Refusal := .next (frameSent left s)

/-- NO_REQUEST_KIND_FRAME (R158, R160): the tag test, then BAD-REQUEST at the field check with a reply of kind 0xFE. A kind
byte that names a request kind is not this event. -/
def execNoRequestKindFrame (kind tag : Byte) (body : List Byte) (s : State) : Host.Outcome State Fault Refusal :=
  .next (if (bodyLength? kind.toNat).isSome then s
    else hostRequest kind.toNat .status tag body (fun _ => (none : Option Unit)) (fun _ _ s => s) s)

/-- ACTIVATE from the link (R49). -/
def execActivate (tag : Byte) (body : List Byte) (s : State) : Host.Outcome State Fault Refusal := .next (hostCard .activate tag body s)

/-- LOAD from the link (R51). -/
def execLoad (tag : Byte) (body : List Byte) (s : State) : Host.Outcome State Fault Refusal := .next (hostCard .load tag body s)

/-- HOLD from the link (R30). -/
def execHold (tag : Byte) (body : List Byte) (s : State) : Host.Outcome State Fault Refusal := .next (hostCard .hold tag body s)

/-- RELEASE from the link (R32). -/
def execRelease (tag : Byte) (body : List Byte) (s : State) : Host.Outcome State Fault Refusal := .next (hostCard .release tag body s)

/-- BALANCE from the link (R33). -/
def execBalance (tag : Byte) (body : List Byte) (s : State) : Host.Outcome State Fault Refusal := .next (hostCard .balance tag body s)

/-- CAPTURE from the link (R54). -/
def execCapture (tag : Byte) (body : List Byte) (s : State) : Host.Outcome State Fault Refusal := .next (hostCard .capture tag body s)

/-- REDEEM from the link (R52). -/
def execRedeem (tag : Byte) (body : List Byte) (s : State) : Host.Outcome State Fault Refusal := .next (hostCard .redeem tag body s)

/-- VOID from the link (R61). -/
def execVoid (tag : Byte) (body : List Byte) (s : State) : Host.Outcome State Fault Refusal := .next (hostCard .void tag body s)

/-- REFUND from the link (R64). -/
def execRefund (tag : Byte) (body : List Byte) (s : State) : Host.Outcome State Fault Refusal := .next (hostCard .refund tag body s)

/-- CASH-OUT (R66). -/
def execCashOut (tag : Byte) (body : List Byte) (s : State) : Host.Outcome State Fault Refusal := .next (hostCard .cashOut tag body s)

/-- BLOCK (R67). -/
def execBlock (tag : Byte) (body : List Byte) (s : State) : Host.Outcome State Fault Refusal := .next (hostCard .block tag body s)

/-- UNBLOCK (R67). -/
def execUnblock (tag : Byte) (body : List Byte) (s : State) : Host.Outcome State Fault Refusal := .next (hostCard .unblock tag body s)

/-- RESTART (R167): the reply is queued, and from now on the receiver discards every byte; the part resets when the reply's
last byte is sent. -/
def takeRestart (tag : Nat) (s : State) : State :=
  let s := pushFrame { kind := replyKind 0x33, tag := tag, reply := { kind := 0x33, status := .ok }, tagged := true, resets := true } s
  { s with hlp := { s.hlp with deaf := true } }

/-- RESTART (R167). -/
def execRestart (tag : Byte) (body : List Byte) (s : State) : Host.Outcome State Fault Refusal :=
  .next (hostRequest 0x33 .restart tag body noFields? (fun t _ s => takeRestart t s) s)

/-- TAKE-NOTICES: every pending kind with its details; the set is emptied and ATTN_N goes high (R164). -/
def takeNotices (tag : Nat) (s : State) : State :=
  sendLink tag { kind := 0x31, status := .ok, figures := s.hlp.notices.figures }
    { s with hlp := { s.hlp with notices := {}, attnLow := false } }

/-- TAKE_NOTICES (R164). -/
def execTakeNotices (tag : Byte) (body : List Byte) (s : State) : Host.Outcome State Fault Refusal :=
  .next (hostRequest 0x31 .status tag body noFields? (fun t _ s => takeNotices t s) s)

/-- The phase as PART-STATUS codes it (R165, R178): 3 while FORMAT runs. -/
def phaseCode (s : State) : Nat :=
  if s.jc.format.isSome then 3
  else match s.jc.phase with
    | .startup | .unformatted => 0
    | .setup => 1
    | .service => 2

/-- The occupied lock slots (R25). -/
def lockSlots (s : State) : List LockSlot := s.ce.locks.toList.filterMap id

/-- The figures of PART-STATUS, in the order of R165's table; the next number is given modulo 2^48 (R119). They are of one state
of the part: the reply is formed by one command (DESIGN CHOICE, log 35). -/
def partStatusFigures (s : State) : List Byte :=
  let fmt := s.jc.format.getD { tag := 0, capacity := 0, stage := 0, written := 0 }
  fig 1 (phaseCode s) ++ fig 1 fmt.stage ++ fig 3 fmt.written ++ fig 1 s.jc.store.code ++ fig 4 s.jc.appendPeriod
    ++ fig 4 s.mau.copy.accrued ++ fig 4 s.mau.copy.released ++ fig 1 s.jc.pendingCount ++ fig 2 s.jc.untaken
    ++ fig 6 (s.jc.next % (Config.maxJournal + 1)) ++ fig 6 s.jc.oldest ++ fig 1 (lockSlots s).length
    ++ fig 1 ((lockSlots s).map fun l => l.waiters.length).sum ++ fig 2 s.ce.ring.length ++ fig 2 s.ht.holds.length
    ++ fig 2 (s.ht.holds.filter fun h => h.state == .claimed).length ++ fig 4 s.ht.seconds ++ flagByte s.ht.timeSet
    ++ fig 1 s.pcu.state.code ++ fig 1 s.pcu.entries.length ++ fig 1 s.pcu.cursor ++ fig 1 s.asu.state.code
    ++ fig 3 s.asu.cursor ++ ((List.range 4).map fun n => fig 1 (s.line n).state.code).flatten

/-- PART_STATUS (R25, R42, R165). -/
def execPartStatus (tag : Byte) (body : List Byte) (s : State) : Host.Outcome State Fault Refusal :=
  .next (hostRequest 0x30 .status tag body noFields?
    (fun t _ s => sendLink t { kind := 0x30, status := .ok, figures := partStatusFigures s } s) s)

/-- SET-TIME (R34, R35, R166). -/
def setTime (tag value : Nat) (s : State) : State :=
  sendLink tag { kind := 0x32, status := .ok, figures := fig 4 s.ht.seconds ++ fig 4 value }
    { s with ht := { s.ht with seconds := value, timeSet := true } }

/-- SET_TIME (R35, R166). -/
def execSetTime (tag : Byte) (body : List Byte) (s : State) : Host.Outcome State Fault Refusal :=
  .next (hostRequest 0x32 .time tag body timeField? setTime s)

/-- SECONDS_TICK (R34): the counter rises by 1 and stops at its greatest value. -/
def execSecondsTick (s : State) : Host.Outcome State Fault Refusal :=
  .next { s with ht := { s.ht with seconds := satInc Config.maxWord s.ht.seconds } }

end Sys2Proof.Machine
end

