-- ==== Sys2Proof/Machine/AccrualEvents.lean ====
section
/-! DEFINITION. The events of the Merchant Accrual Unit (R82, R83, R88, R89), the completions of totals writes (R106, R123,
R127, R131), and the requests READ-TOTALS and MERCHANT-STATUS (R90, R134). -/

namespace Sys2Proof.Machine
open Sys2Proof

/-! ### Accruals -/

/-- The record whose accrual may begin: recovery's (a marker only when the totals record already carries it, R108), or the
one that R82 takes from the accrual queue (a marker begins a close walk instead, R95). -/
def accrualDue (s : State) : Option JBody :=
  if mauFree s = false then none
  else match recovering s with
    | some b => if b.kind ≠ .periodEnd ∨ b.number ≤ s.mau.copy.lastApplied then some b else none
    | none =>
      if s.jc.phase = .startup then none
      else match nextQueued s with
        | some b => if b.kind ≠ .periodEnd then some b else none
        | none => none

/-- ACCRUAL_START (R82, R83, R108, R129). -/
def execAccrualStart (s : State) : Host.Outcome State Fault Refusal :=
  match accrualDue s with
  | some b => .next (beginAccrual b (dequeue b s))
  | none => .next s

/-- The accrual in progress goes on with the merchant record read. -/
def accrualReadArrives (m : Nat) (s : State) : State :=
  match s.mau.accrual with
  | some a => accrualRead a m s
  | none => s

/-- ACCRUAL_MERCHANT_READ_DONE (R83, R84, R87, R88). A FAULT set since the read was issued lets the stage go on to its end
(R89, log 20). -/
def execAccrualMerchantReadDone (s : State) : Host.Outcome State Fault Refusal :=
  match s.jc.serving with
  | some (.accrualRead m) => .next (complete (accrualReadArrives m) s)
  | _ => .next s

/-- Stage 1's write is verified: the accrual goes on with stage 2 (R83). -/
def accrualWritten (s : State) : State :=
  match s.mau.accrual with
  | some a => endStage1 a s
  | none => s

/-- Stage 1's write failed: FAULT, and the accrual stops (R88). -/
def accrualWriteFailed (s : State) : State :=
  match s.mau.accrual with
  | some a => failAccrual .merchants a.body.number s
  | none => s

/-- ACCRUAL_MERCHANT_WRITE_DONE (R83, R88): the write is verified, or fails and leaves what the operand says. -/
def execAccrualMerchantWriteDone (failed : Option Residue) (s : State) : Host.Outcome State Fault Refusal :=
  match s.jc.serving with
  | some (.accrualWrite m r) =>
    match failed with
    | none => .next (complete (fun s => accrualWritten (storeOp (.accrualWrite m r) s)) s)
    | some left => .next (complete (fun s => accrualWriteFailed (leaveOp (.accrualWrite m r) left s)) s)
  | _ => .next s

/-! ### Totals writes -/

/-- The Hold Table loads the raised epoch, and start-up goes on to the configuration records (R41, R127). -/
def loadEpoch (epoch : Nat) (s : State) : State :=
  issue (.configRead 0)
    { s with ht := { s.ht with epoch := epoch }, jc := { s.jc with stage := .config 0 } }

/-- The list is emptied by a completed release (R106). -/
def emptyList (s : State) : State :=
  { s with pcu := { s.pcu with entries := [], cursor := 0, state := .empty, releasing := false } }

/-- What a verified totals write finishes (R83, R100, R106, R123, R127). In FAULT an accrual and a walk end here
(R89, R102). -/
def totalsWritten (job : TotalsJob) (copy : Totals) (s : State) : State :=
  match job with
  | .epoch => loadEpoch copy.epoch s
  | .accrual =>
    match s.mau.accrual, s.jc.store with
    | some a, .normal => commitAccrual a s
    | _, _ => stopAccrual s
  | .walkEnd =>
    match s.mau.walk, s.jc.store with
    | some w, .normal => issue (.commitMark w.j 0 0) s
    | _, _ => stopWalk s
  | .release tag p => sendLink tag { kind := 0x1B, status := .ok, figures := fig 4 p } (emptyList s)
  | .advice tag u recs =>
    let s := { s with jc := { s.jc with oldest := u + recs.length, untaken := s.jc.untaken - recs.length } }
    answerAdvice tag { kind := kindAdvice, status := .ok, figures := adviceFigures s.jc.oldest s.jc.untaken recs } s

/-- TOTALS_WRITE_DONE (R131). The event may issue two accesses of one class at the busy port: the next TAKE-ADVICE's read and the
next totals write due. R112 leaves open which arrives first: the read does here (DESIGN CHOICE, log 39). -/
def execTotalsWriteDone (s : State) : Host.Outcome State Fault Refusal :=
  match s.jc.serving with
  | some (.totalsWrite job copy earlier) =>
    .next (complete (fun s => nextTotals (totalsWritten job copy (storeOp (.totalsWrite job copy earlier) s))) s)
  | _ => .next s

/-- The number of the record whose accrual or walk a totals write belongs to (R88, R102). -/
def accrualNumber (s : State) : Nat :=
  match s.mau.accrual with
  | some a => a.body.number
  | none => match s.mau.walk with
    | some w => w.j
    | none => 0

/-- What a failed totals write leads to (R88, R102, R106, R123, R127): FAULT with region TOTALS, and the field the write's
own request had changed returns to its earlier value. -/
def totalsFailed (job : TotalsJob) (copy : Totals) (earlier : Nat) (s : State) : State :=
  match job with
  | .epoch => loadEpoch copy.epoch (enterFault .totals 0 s)
  | .accrual => failAccrual .totals (accrualNumber s) s
  | .walkEnd => failWalk .totals (accrualNumber s) s
  | .release tag _ =>
    let s := enterFault .totals 0 s
    sendLink tag { kind := 0x1B, status := .storeFault }
      { s with mau := { s.mau with copy := { s.mau.copy with released := earlier } }, pcu := { s.pcu with releasing := false } }
  | .advice tag _ _ =>
    let s := enterFault .totals 0 s
    answerAdvice tag { kind := kindAdvice, status := .storeFault }
      { s with mau := { s.mau with copy := { s.mau.copy with oldest := earlier } } }

/-- TOTALS_WRITE_FAILS (R131). -/
def execTotalsWriteFails (left : Residue) (s : State) : Host.Outcome State Fault Refusal :=
  match s.jc.serving with
  | some (.totalsWrite job copy earlier) =>
    .next (complete
      (fun s => nextTotals (totalsFailed job copy earlier (leaveOp (.totalsWrite job copy earlier) left s))) s)
  | _ => .next s

/-! ### READ-TOTALS and MERCHANT-STATUS -/

/-- READ_TOTALS (R134). -/
def execReadTotals (tag : Byte) (body : List Byte) (s : State) : Host.Outcome State Fault Refusal :=
  .next (hostRequest 0x1C .books tag body noFields? (fun t _ s => issue (.totalsRead t) s) s)

/-- The figures of READ-TOTALS, in the order of R131 (R134, R179). -/
def totalsFigures (t : Totals) : List Byte :=
  fig 3 t.capacity ++ fig 1 t.epoch ++ fig 4 t.accrued ++ fig 4 t.released ++ fig 6 t.oldest ++ fig 6 t.lastApplied
    ++ sfig 6 t.outPaid ++ sfig 6 t.outBonus ++ sfig 6 t.bonusIssued ++ sfig 6 t.bonusForfeited ++ sfig 6 t.paidOut

/-- The totals record read for READ-TOTALS (R134). -/
def totalsRead (tag : Nat) (s : State) : State :=
  let bs := Memory.readMany s.mem Config.totalsBase 64
  if recordOk bs then sendLink tag { kind := 0x1C, status := .ok, figures := totalsFigures (totalsFields bs) } s
  else sendLink tag { kind := 0x1C, status := .storeFault } (enterFault .totals 0 s)

/-- READ_TOTALS_READ_DONE (R134). -/
def execReadTotalsReadDone (s : State) : Host.Outcome State Fault Refusal :=
  match s.jc.serving with
  | some (.totalsRead tag) => .next (complete (totalsRead tag) s)
  | _ => .next s

/-- MERCHANT_STATUS (R90). -/
def execMerchantStatus (tag : Byte) (body : List Byte) (s : State) : Host.Outcome State Fault Refusal :=
  .next (hostRequest 0x1D .books tag body merchantField? (fun t m s => issue (.statusRead t m) s) s)

/-- The last result as MERCHANT-STATUS gives it: the presence flag, then a merchant record in the layout of R181, or as many
zeros where there is none (R90, R179, R181; DEDUCED, log 37). -/
def lastResultFigures (p : Option Payout) : List Byte :=
  match p with
  | some p => flagByte true ++ p.bytes
  | none => List.replicate 91 0

/-- The figures of MERCHANT-STATUS, in the order of R90's table. -/
def merchantFigures (r : MerchantRec) (admission : MerchantState) : List Byte :=
  fig 1 r.merchant ++ fig 1 r.cls ++ fig 1 r.group ++ fig 1 r.state.code ++ fig 1 admission.code ++ sfig 6 r.carry
    ++ fig 6 r.lastApplied ++ fig 4 r.lastClosed ++ r.bank.bytes ++ lastResultFigures r.lastResult

/-- The merchant record read for MERCHANT-STATUS (R88, R90). -/
def statusRead (tag m : Nat) (s : State) : State :=
  match readMerchant (Memory.readMany s.mem (merchantAddress m) 256) with
  | some r => sendLink tag { kind := 0x1D, status := .ok, figures := merchantFigures r (s.admission m).state } s
  | none => sendLink tag { kind := 0x1D, status := .storeFault } (enterFault .merchants 0 s)

/-- MERCHANT_STATUS_READ_DONE (R90). -/
def execMerchantStatusReadDone (s : State) : Host.Outcome State Fault Refusal :=
  match s.jc.serving with
  | some (.statusRead tag m) => .next (complete (statusRead tag m) s)
  | _ => .next s

end Sys2Proof.Machine
end

