-- ==== Sys2Proof/Machine/Journal.lean ====
section
/-! DEFINITION. The Hold Table's events, card reads and card writes, the append queue, the merchant state and cut-off
requests, advice, and commit marks (R11, R31, R36, R37, R47, R48, R75, R92, R116 to R124, R126). An event whose condition
does not hold changes nothing (log 6). -/

namespace Sys2Proof.Machine
open Sys2Proof

/-! ### The Hold Table's events -/

/-- A due ACTIVE hold leaves the table and is counted in HOLDS-EXPIRED (R36). -/
def expireHold (epoch serial : Nat) (s : State) : State :=
  match s.ht.holds.find? fun h => h.named epoch serial with
  | some h =>
    if h.state = .active ∧ h.expiry ≤ s.ht.seconds then raiseHoldsExpired (removeHold h.card h.slot epoch serial s) else s
  | none => s

/-- HOLD_EXPIRY (R36). -/
def execHoldExpiry (epoch : Byte) (serial : BitVec 16) (s : State) : Host.Outcome State Fault Refusal :=
  .next (expireHold epoch.toNat serial.toNat s)

/-- The decided hold of lock k reaches the Hold Table (R31). -/
def holdArrives (k : Nat) (s : State) : State :=
  match s.lock k with
  | some l => match l.doing with
    | .entering p => enterHold k l.owner p s
    | _ => s
  | none => s

/-- HOLD_ENTRY (R31). -/
def execHoldEntry (lock : Fin 16) (s : State) : Host.Outcome State Fault Refusal := .next (holdArrives lock.val s)

/-- The claim of lock k's capture reaches the Hold Table (R37). -/
def claimArrives (k : Nat) (s : State) : State :=
  match s.lock k with
  | some l => match l.doing with
    | .claiming r => claimHold k l.owner r s
    | _ => s
  | none => s

/-- HOLD_CLAIM (R37). -/
def execHoldClaim (lock : Fin 16) (s : State) : Host.Outcome State Fault Refusal := .next (claimArrives lock.val s)

/-! ### Card accesses -/

/-- CARD_READ_DONE (R11). -/
def execCardReadDone (s : State) : Host.Outcome State Fault Refusal :=
  match s.jc.serving with
  | some (.cardRead k slot) => if slotExists slot then .next (complete (cardRead k slot) s) else .fault (.noSuchAddress slot)
  | _ => .next s

/-- The card write of a movement is verified: the record stands, and the movement is completed (R47, R120). -/
def cardWritten (k : Nat) (m : Movement) (j p : Nat) (s : State) : State :=
  finishMovement k m j p (storeOp (.cardWrite k m j p) s)

/-- CARD_WRITE_DONE (R47). -/
def execCardWriteDone (s : State) : Host.Outcome State Fault Refusal :=
  match s.jc.serving with
  | some (.cardWrite k m j p) => .next (complete (cardWritten k m j p) s)
  | _ => .next s

/-- The card write of a movement fails: FAULT, and the reduced completion (R48, R120). -/
def cardWriteFailed (k : Nat) (m : Movement) (j p : Nat) (left : Residue) (s : State) : State :=
  finishReduced k m j (enterFault .cards j (leaveOp (.cardWrite k m j p) left s))

/-- CARD_WRITE_FAILS (R48). -/
def execCardWriteFails (left : Residue) (s : State) : Host.Outcome State Fault Refusal :=
  match s.jc.serving with
  | some (.cardWrite k m j p) => .next (complete (cardWriteFailed k m j p left) s)
  | _ => .next s

/-! ### Appends -/

/-- APPEND_ISSUE (R116): every event that makes an append access due issues it (`joinAppend`, `portNext`), so in a run this
event finds none left to issue (log 6). -/
def execAppendIssue (s : State) : Host.Outcome State Fault Refusal := .next (issueDue s)

/-- JOURNAL-HIGH at an append's completion: raised when the untaken count has just risen to 3,072; a pending one takes the
new count (R124). -/
def noteUntaken (s : State) : State :=
  if s.jc.untaken = Config.journalHigh then raise (fun n => { n with journalHigh := some s.jc.untaken }) s
  else if s.hlp.notices.journalHigh.isSome then
    { s with hlp := { s.hlp with notices := { s.hlp.notices with journalHigh := some s.jc.untaken } } }
  else s

/-- The figures of the journal after an append (R117). -/
def countAppend (rest : List AppendItem) (s : State) : State :=
  noteUntaken { s with jc := { s.jc with
    next := s.jc.next + 1, untaken := s.jc.untaken + 1, pendingCount := s.jc.pendingCount + 1, appendQueue := rest,
    appendIssued := false } }

/-- The reply to an appended merchant state request (R75). -/
def adminReply (k : AdminKind) (m : Nat) (before : MerchantState) (b : JBody) : Reply :=
  { kind := k.code, status := .ok,
    figures := fig 1 m ++ fig 1 before.code ++ fig 1 k.to.code ++ fig 6 b.number ++ fig 4 b.period }

/-- What follows the append of a record (R75, R92, R117, R120). -/
def afterAppend (item : AppendItem) (b : JBody) (s : State) : State :=
  match item with
  | .movement k m => issue (.cardWrite k m b.number b.period) s
  | .admin tag k m =>
    joinAccrual b (sendLink tag (adminReply k m (s.admission m).state b) (s.setAdmission m { s.admission m with state := k.to }))
  | .cutoff tag =>
    joinAccrual b
      (sendLink tag { kind := 0x13, status := .ok, figures := fig 6 b.number ++ fig 4 b.period }
        { s with jc := { s.jc with appendPeriod := b.period + 1 } })

/-- The head of the append queue ends with STORE-FAULT and the number its record may stand under (R118, R126). -/
def refuseAppended (item : AppendItem) (rest : List AppendItem) (j : Nat) (s : State) : State :=
  refuseItem item .storeFault 0 (fig 6 j) j { s with jc := { s.jc with appendQueue := rest, appendIssued := false } }

/-- The verified write of an append completes (R117); in FAULT with the outcome of a failed one (R126). -/
def appendWritten (b : JBody) (s : State) : State :=
  let s := storeOp (.appendWrite b) s
  match s.jc.appendQueue with
  | [] => s
  | item :: rest =>
    match s.jc.store with
    | .normal => afterAppend item b (countAppend rest s)
    | .fault => refuseAppended item rest b.number s

/-- APPEND_WRITE_DONE (R117). -/
def execAppendWriteDone (s : State) : Host.Outcome State Fault Refusal :=
  match s.jc.serving with
  | some (.appendWrite b) => .next (complete (appendWritten b) s)
  | _ => .next s

/-- The verified write of an append fails (R118): FAULT, whose refusals of the records behind it are formed first, and then the
record's own STORE-FAULT with its number (an order that R161 leaves open: DESIGN CHOICE, log 34). -/
def appendFailed (b : JBody) (left : Residue) (s : State) : State :=
  let s := enterFault .journal b.number (leaveOp (.appendWrite b) left s)
  match s.jc.appendQueue with
  | [] => s
  | item :: rest => refuseAppended item rest b.number s

/-- APPEND_WRITE_FAILS (R118). -/
def execAppendWriteFails (left : Residue) (s : State) : Host.Outcome State Fault Refusal :=
  match s.jc.serving with
  | some (.appendWrite b) => .next (complete (appendFailed b left) s)
  | _ => .next s

/-! ### Merchant state requests and CUTOFF -/

/-- A merchant state request from the link (R75, R116). -/
def hostAdmin (k : AdminKind) (tag : Byte) (body : List Byte) (s : State) : State :=
  hostRequest k.code .trade tag body merchantField? (fun t m s => joinAppend (.admin t k m) s) s

/-- SUSPEND_MERCHANT (R75). -/
def execSuspendMerchant (tag : Byte) (body : List Byte) (s : State) : Host.Outcome State Fault Refusal :=
  .next (hostAdmin .suspend tag body s)

/-- RESUME_MERCHANT (R75). -/
def execResumeMerchant (tag : Byte) (body : List Byte) (s : State) : Host.Outcome State Fault Refusal :=
  .next (hostAdmin .resume tag body s)

/-- CLOSE_MERCHANT (R75). -/
def execCloseMerchant (tag : Byte) (body : List Byte) (s : State) : Host.Outcome State Fault Refusal :=
  .next (hostAdmin .close tag body s)

/-- CUTOFF (R91, R92). -/
def execCutoff (tag : Byte) (body : List Byte) (s : State) : Host.Outcome State Fault Refusal :=
  .next (hostRequest 0x13 .trade tag body noFields? (fun t _ s => joinAppend (.cutoff t) s) s)

/-! ### Advice -/

/-- A TAKE-ADVICE is served, or waits for the one before it (R123). -/
def takeAdvice (tag count : Nat) (s : State) : State :=
  match s.jc.advice with
  | none => runAdvice [(tag, count)] s
  | some _ => { s with jc := { s.jc with adviceWaiting := s.jc.adviceWaiting ++ [(tag, count)] } }

/-- TAKE_ADVICE (R123). -/
def execTakeAdvice (tag : Byte) (body : List Byte) (s : State) : Host.Outcome State Fault Refusal :=
  .next (hostRequest kindAdvice .books tag body adviceCount? takeAdvice s)

/-- The reading for a TAKE-ADVICE has stopped: the reply, or the totals write that moves the oldest untaken number (R123). -/
def endAdviceReads (job : AdviceJob) (s : State) : State :=
  if job.records = [] then
    answerAdvice job.tag { kind := kindAdvice, status := .ok, figures := adviceFigures s.jc.oldest s.jc.untaken [] } s
  else requestTotals (.advice job.tag job.u job.records) { s with jc := { s.jc with advice := some job } }

/-- A good journal slot read for advice (R123): the reading stops at a PENDING record, and else goes on to the count. -/
def adviceSlot (job : AdviceJob) (bs : List Byte) (s : State) : State :=
  if !isCommitted bs then endAdviceReads job s
  else
    let job := { job with records := job.records ++ [bs] }
    let n := job.u + job.records.length
    if job.records.length < job.count ∧ n < s.jc.next then
      issue (.adviceRead n) { s with jc := { s.jc with advice := some job } }
    else endAdviceReads job s

/-- A journal slot read for advice (R123): a bad check sets FAULT, or raises it again (R125). A FAULT set meanwhile ends the
request (R126, log 14). -/
def adviceRead (job : AdviceJob) (j : Nat) (s : State) : State :=
  let bs := Memory.readMany s.mem (journalAddress j) 64
  let fault : Reply := { kind := kindAdvice, status := .storeFault }
  if (readBody bs).isNone || !commitOk bs then answerAdvice job.tag fault (enterFault .journal j s)
  else match s.jc.store with
    | .fault => answerAdvice job.tag fault s
    | .normal => adviceSlot job bs s

/-- The TAKE-ADVICE being served goes on with the slot read. -/
def adviceArrives (j : Nat) (s : State) : State :=
  match s.jc.advice with
  | some job => adviceRead job j s
  | none => s

/-- ADVICE_READ_DONE (R123). -/
def execAdviceReadDone (s : State) : Host.Outcome State Fault Refusal :=
  match s.jc.serving with
  | some (.adviceRead j) => .next (complete (adviceArrives j) s)
  | _ => .next s

/-! ### Commit marks -/

/-- Record j is COMMITTED: its accrual or its walk has ended (R83, R100, R122), and recovery goes on (R129). A walk's end whose
mark completes in store FAULT, set by another block meanwhile, is an end all the same: COMPLETE, CLOSE-DONE and the new period
(DEDUCED, log 32). An append access that the fall of the pending count makes due is issued by `complete`. -/
def committed (j : Nat) (s : State) : State :=
  let s := { s with jc := { s.jc with pendingCount := s.jc.pendingCount - 1 } }
  recoverOn (match s.mau.walk with
    | some w => if w.j = j then finishWalk w s else s
    | none => { s with mau := { s.mau with accrual := none } })

/-- COMMIT_MARK_DONE (R122). -/
def execCommitMarkDone (s : State) : Host.Outcome State Fault Refusal :=
  match s.jc.serving with
  | some (.commitMark j d r) => .next (complete (fun s => committed j (storeOp (.commitMark j d r) s)) s)
  | _ => .next s

/-- The commit write fails: FAULT, the record stays PENDING, and the MAU stops (R122). -/
def commitFailed (j : Nat) (s : State) : State :=
  let s := enterFault .journal j s
  endRecoveryIfStarting { s with mau := { s.mau with accrual := none, walk := none } }

/-- COMMIT_MARK_FAILS (R122). -/
def execCommitMarkFails (left : Residue) (s : State) : Host.Outcome State Fault Refusal :=
  match s.jc.serving with
  | some (.commitMark j d r) => .next (complete (fun s => commitFailed j (leaveOp (.commitMark j d r) left s)) s)
  | _ => .next s

end Sys2Proof.Machine
end

