-- ==== Sys2Proof/Machine/Period.lean ====
section
/-! DEFINITION. The events of the close walk (R95 to R102, R108) and of a list's rebuild (R109), and the payout list's three
requests (R104 to R107). -/

namespace Sys2Proof.Machine
open Sys2Proof

/-! ### The close walk -/

/-- The marker whose close walk may begin: the one recovery reruns (R108), or the next record to accrue (R95). -/
def walkDue (s : State) : Option JBody :=
  if mauFree s = false then none
  else match recovering s with
    | some b => if b.kind = .periodEnd ∧ s.mau.copy.lastApplied < b.number then some b else none
    | none =>
      if s.jc.phase = .startup then none
      else match nextQueued s with
        | some b => if b.kind = .periodEnd then some b else none
        | none => none

/-- CLOSE_WALK_START (R95, R108). -/
def execCloseWalkStart (s : State) : Host.Outcome State Fault Refusal :=
  match walkDue s with
  | some b => .next (beginWalk b (dequeue b s))
  | none => .next s

/-- The walk goes on with the merchant record read. -/
def walkReadArrives (m : Nat) (s : State) : State :=
  match s.mau.walk with
  | some w => walkRead w m s
  | none => s

/-- WALK_MERCHANT_READ_DONE (R95 to R99, R102). -/
def execWalkMerchantReadDone (s : State) : Host.Outcome State Fault Refusal :=
  match s.jc.serving with
  | some (.walkRead m) => .next (complete (walkReadArrives m) s)
  | _ => .next s

/-- The walk goes on with the merchant record written. -/
def walkWriteArrives (m : Nat) (r : MerchantRec) (s : State) : State :=
  match s.mau.walk with
  | some w => walkWritten w m r s
  | none => s

/-- WALK_MERCHANT_WRITE_DONE (R96, R98). -/
def execWalkMerchantWriteDone (s : State) : Host.Outcome State Fault Refusal :=
  match s.jc.serving with
  | some (.walkWrite m r) => .next (complete (fun s => walkWriteArrives m r (storeOp (.walkWrite m r) s)) s)
  | _ => .next s

/-- The walk's write failed: FAULT, no entry, and the walk stops (R102). -/
def walkWriteFailed (s : State) : State :=
  match s.mau.walk with
  | some w => failWalk .merchants w.j s
  | none => s

/-- WALK_MERCHANT_WRITE_FAILS (R98, R102). -/
def execWalkMerchantWriteFails (left : Residue) (s : State) : Host.Outcome State Fault Refusal :=
  match s.jc.serving with
  | some (.walkWrite m r) => .next (complete (fun s => walkWriteFailed (leaveOp (.walkWrite m r) left s)) s)
  | _ => .next s

/-! ### The rebuild -/

/-- The rebuild goes on with the merchant record read. -/
def rebuildArrives (m : Nat) (s : State) : State :=
  match s.pcu.rebuild with
  | some (g, _) => rebuildRead g m s
  | none => s

/-- REBUILD_READ_DONE (R109). -/
def execRebuildReadDone (s : State) : Host.Outcome State Fault Refusal :=
  match s.jc.serving with
  | some (.rebuildRead m) => .next (complete (rebuildArrives m) s)
  | _ => .next s

/-! ### The payout list's requests -/

/-- READ-PAYOUT (R104): the entry at the cursor, NOT-YET, or LIST-END. -/
def readPayoutEntry (tag : Nat) (s : State) : State :=
  let n := s.pcu.entries.length
  let answer (st : Status) (figures : List Byte) : State → State := sendLink tag { kind := 0x19, status := st, figures := figures }
  match s.pcu.state with
  | .empty => answer .listEnd (fig 1 0 ++ fig 4 s.mau.copy.released) s
  | .building =>
    match s.pcu.entries[s.pcu.cursor]? with
    | some e =>
      answer .ok (fig 1 s.pcu.cursor ++ fig 1 e.kindCode ++ e.bytes) { s with pcu := { s.pcu with cursor := s.pcu.cursor + 1 } }
    | none => answer .notYet (fig 1 n) s
  | .complete =>
    match s.pcu.entries[s.pcu.cursor]? with
    | some e =>
      answer .ok (fig 1 s.pcu.cursor ++ fig 1 e.kindCode ++ e.bytes) { s with pcu := { s.pcu with cursor := s.pcu.cursor + 1 } }
    | none => answer .listEnd (fig 1 n ++ fig 4 s.pcu.period) s

/-- READ_PAYOUT (R104). -/
def execReadPayout (tag : Byte) (body : List Byte) (s : State) : Host.Outcome State Fault Refusal :=
  .next (hostRequest 0x19 .books tag body noFields? (fun t _ s => readPayoutEntry t s) s)

/-- REWIND-PAYOUT (R105). -/
def rewindList (tag : Nat) (s : State) : State :=
  sendLink tag { kind := 0x1A, status := .ok, figures := fig 1 s.pcu.state.code ++ fig 1 s.pcu.entries.length }
    { s with pcu := { s.pcu with cursor := 0 } }

/-- REWIND_PAYOUT (R105). -/
def execRewindPayout (tag : Byte) (body : List Byte) (s : State) : Host.Outcome State Fault Refusal :=
  .next (hostRequest 0x1A .books tag body noFields? (fun t _ s => rewindList t s) s)

/-- RELEASE-PAYOUT (R106): the totals write of the released period follows when the request is taken. Where the list is not
COMPLETE and the store is in FAULT, the list state is tested first (DESIGN CHOICE of an order that R106 and R126 leave open,
log 33). -/
def releaseList (tag : Nat) (s : State) : State :=
  if s.pcu.state ≠ .complete ∨ s.pcu.releasing = true then
    sendLink tag { kind := 0x1B, status := .closeRefused, reason := reasonListState, figures := fig 1 s.pcu.state.code } s
  else if s.jc.store = .fault then sendLink tag { kind := 0x1B, status := .storeFault } s
  else requestTotals (.release tag s.pcu.period) { s with pcu := { s.pcu with releasing := true } }

/-- RELEASE_PAYOUT (R106). -/
def execReleasePayout (tag : Byte) (body : List Byte) (s : State) : Host.Outcome State Fault Refusal :=
  .next (hostRequest 0x1B .books tag body noFields? (fun t _ s => releaseList t s) s)

end Sys2Proof.Machine
end

