-- ==== Sys2Proof/Machine/Till.lean ====
section
/-! DEFINITION. The till line controllers: the round and its offers (R146, R147), answers and station health (R148 to R151),
all-station frames (R153), and station administration (R154, R155). -/

namespace Sys2Proof.Machine
open Sys2Proof

/-! ### The round -/

/-- Whether an entry is eligible for the turn in a round (R146). -/
def eligible (x : Station) (round : Nat) : Bool :=
  match x.state with
  | .absent | .present => true
  | .silent => decide (round % 8 = 0)
  | .faulty | .disabled => false

/-- The first eligible entry from the position upward (R146). -/
def nextEntry (l : Line) : Option Nat :=
  (List.range Config.lineEntries).find? fun e => decide (l.position ≤ e) && eligible (vget l.stations e stationReset) l.round

/-- The round counter rises, from 65,535 to 0, and the position returns to entry 0 (R146). -/
def newRound (l : Line) : Line := { l with round := (l.round + 1) % 65536, position := 0, offeredInRound := false }

/-- The turn is offered to entry e: a REPLY frame with its held reply, or a TURN frame (R147). -/
def offerTo (e : Nat) (l : Line) : Line :=
  let x := vget l.stations e stationReset
  let l := { l with offered := some e, answering := false, dropAnswer := false, offeredInRound := true, de := true }
  match x.held with
  | some r => { l with state := .delivering, wire := replyFrame x r }
  | none => { l with state := .offering, wire := turnFrame x }

/-- The controller goes on with its round: an offer, or the wait of a round in which no entry is eligible (R146). -/
def goRound (l : Line) : Line :=
  match nextEntry l with
  | some e => offerTo e l
  | none =>
    if l.offeredInRound then
      match nextEntry (newRound l) with
      | some e => offerTo e (newRound l)
      | none => { newRound l with emptyWait := true }
    else { l with emptyWait := true }

/-- Whether the line may offer: it is in IDLE-GAP, no all-station frame is pending, and it waits out no round (R146). -/
def mayOffer (l : Line) : Bool :=
  decide (l.state = .idleGap) && l.serviceOpen.isNone && l.periodChange.isNone && !l.emptyWait

/-- OFFER_START (R146, R147). -/
def execOfferStart (line : Fin 4) (s : State) : Host.Outcome State Fault Refusal :=
  .next (if mayOffer (s.line line) then s.setLine line (goRound (s.line line)) else s)

/-- The last byte of a TURN or REPLY frame is sent: DE low, the answer window starts (R147). -/
def offerSent (l : Line) : Line :=
  if (l.state = .offering ∨ l.state = .delivering) ∧ l.answering = false then { l with de := false, answering := true, wire := [] }
  else l

/-- OFFER_SENT (R147). -/
def execOfferSent (line : Fin 4) (s : State) : Host.Outcome State Fault Refusal :=
  .next (s.setLine line (offerSent (s.line line)))

/-- The wait of an empty round is over: the next round begins (R146). -/
def endEmptyRound (l : Line) : Line := if l.emptyWait then { newRound l with emptyWait := false } else l

/-- EMPTY_ROUND_WAIT_EXPIRY (R146). -/
def execEmptyRoundWaitExpiry (line : Fin 4) (s : State) : Host.Outcome State Fault Refusal :=
  .next (s.setLine line (endEmptyRound (s.line line)))

/-- An all-station frame goes on the wire (R153, R183). -/
def broadcast (kind period : Nat) (l : Line) : Line :=
  { l with state := .broadcasting, de := true, wire := tillFrame 0 0 kind (fig 4 period) }

/-- A pending all-station frame is sent in IDLE-GAP, SERVICE-OPEN before PERIOD-CHANGE (R153). -/
def startBroadcast (l : Line) : Line :=
  if l.state ≠ .idleGap then l
  else match l.serviceOpen, l.periodChange with
    | some p, _ => broadcast kindServiceOpen p { l with serviceOpen := none }
    | none, some p => broadcast kindPeriodChange p { l with periodChange := none }
    | none, none => l

/-- BROADCAST_START (R153). -/
def execBroadcastStart (line : Fin 4) (s : State) : Host.Outcome State Fault Refusal :=
  .next (s.setLine line (startBroadcast (s.line line)))

/-- The last byte of an all-station frame is sent (R153). -/
def broadcastSent (l : Line) : Line :=
  if l.state = .broadcasting then { l with state := .idleGap, de := false, wire := [] } else l

/-- BROADCAST_SENT (R153). -/
def execBroadcastSent (line : Fin 4) (s : State) : Host.Outcome State Fault Refusal :=
  .next (s.setLine line (broadcastSent (s.line line)))

/-! ### The end of an offer -/

/-- The controller returns to IDLE-GAP, and the position becomes the entry after the one offered (R146, R147). -/
def endOffer (e : Nat) (l : Line) : Line :=
  let l := { l with state := .idleGap, offered := none, answering := false, dropAnswer := false, de := false, wire := [] }
  if e + 1 < Config.lineEntries then { l with position := e + 1 } else newRound l

/-- The entry whose answer the line awaits. -/
def awaited (l : Line) : Option Nat := if l.answering then l.offered else none

/-- The outcome of an offer is applied to its entry, unless it was disabled meanwhile (R154), and the offer ends. -/
def closeOffer (n e : Nat) (outcome : State → State) (s : State) : State :=
  let s := if (s.line n).dropAnswer then s else outcome s
  s.setLine n (endOffer e (s.line n))

/-- A good answer's effect on its entry (R148). -/
def hearGood (delivering : Bool) (x : Station) : Station :=
  let x := { x with misses := 0, bad := 0, run := satInc 65535 x.run,
                    state := if x.state = .absent ∨ x.state = .silent then .present else x.state }
  if delivering then { x with held := none, outstanding := false } else x

/-- The health of an entry after a good answer, with its STATION-CHANGE (R148). -/
def applyGood (n e : Nat) (s : State) : State :=
  let x := s.station n e
  let s' := s.setStation n e (hearGood (decide ((s.line n).state = .delivering)) x)
  if x.state = .absent ∨ x.state = .silent then raiseStationChange n e .present s' else s'

/-- The field check of a station's request (R44 step 1, R151): its kinds, and its fields with the entry's merchant. -/
def stationRequest? (n e : Nat) (x : Station) (kind : Byte) (body : List Byte) : Option CardReq :=
  match cardKindOf? kind.toNat with
  | some k => if k.fromStation then cardRequest? k (.station n e) (byteOf x.merchant :: body) else none
  | none => none

/-- A REQUEST in a good answer is taken or discarded (R151). -/
def stationAsks (n e : Nat) (kind : Byte) (body : List Byte) (s : State) : State :=
  let x := s.station n e
  if x.outstanding then s.setStation n e { x with errors := satInc 255 x.errors, run := 0 }
  else
    let s := s.setStation n e { x with outstanding := true }
    match stationRequest? n e x kind body with
    | some req => takeCardRequest req s
    | none => sendStation n e (earlyRefusal kind.toNat (byteOf x.merchant :: body) .badRequest reasonField) s

/-- A good answer is applied (R148, R151). -/
def applyAnswer (n e : Nat) (a : Answer) (s : State) : State :=
  match a with
  | .pass => applyGood n e s
  | .request kind body => stationAsks n e kind body (applyGood n e s)

/-- A whole answer frame arrives; only one that R147 calls good is this event. -/
def goodAnswer (n : Nat) (frame : List Byte) (s : State) : State :=
  match awaited (s.line n) with
  | some e => match hear (s.station n e) frame with
    | .good a => closeOffer n e (applyAnswer n e a) s
    | _ => s
  | none => s

/-- GOOD_ANSWER (R147, R148, R151). -/
def execGoodAnswer (line : Fin 4) (frame : List Byte) (s : State) : Host.Outcome State Fault Refusal :=
  .next (goodAnswer line frame s)

/-- A miss (R149). -/
def applyMiss (n e : Nat) (s : State) : State :=
  let x := s.station n e
  let x' := { x with misses := satInc 255 x.misses }
  if 3 ≤ x'.misses ∧ (x.state = .absent ∨ x.state = .present) then
    raiseStationChange n e .silent (s.setStation n e { x' with state := .silent })
  else s.setStation n e x'

/-- ANSWER_WINDOW_EXPIRY (R149). -/
def execAnswerWindowExpiry (line : Fin 4) (s : State) : Host.Outcome State Fault Refusal :=
  .next (match awaited (s.line line) with
    | some e => closeOffer line e (applyMiss line e) s
    | none => s)

/-- A held reply is discarded as its entry enters FAULTY or DISABLED (R152). -/
def dropHeld (n e : Nat) (s : State) : State :=
  match (s.station n e).held with
  | some r => discardReply n e r s
  | none => s

/-- A bad answer (R150). -/
def applyBad (n e : Nat) (s : State) : State :=
  let x := s.station n e
  let x' := { x with errors := satInc 255 x.errors, run := 0, bad := satInc 255 x.bad, misses := 0 }
  if 3 ≤ x'.bad ∧ (x.state = .absent ∨ x.state = .present ∨ x.state = .silent) then
    dropHeld n e (raiseStationChange n e .faulty (s.setStation n e { x' with state := .faulty }))
  else s.setStation n e x'

/-- ANSWER_GAP_EXPIRY (R147, R150): an answer breaks off. -/
def execAnswerGapExpiry (line : Fin 4) (s : State) : Host.Outcome State Fault Refusal :=
  .next (match awaited (s.line line) with
    | some e => closeOffer line e (applyBad line e) s
    | none => s)

/-- Bytes of an answer arrive; only those that R183 calls a bad answer are this event. -/
def badAnswer (n : Nat) (frame : List Byte) (s : State) : State :=
  match awaited (s.line n) with
  | some e => match hear (s.station n e) frame with
    | .bad => closeOffer n e (applyBad n e) s
    | _ => s
  | none => s

/-- BAD_ANSWER (R147, R150, R183). -/
def execBadAnswer (line : Fin 4) (frame : List Byte) (s : State) : Host.Outcome State Fault Refusal :=
  .next (badAnswer line frame s)

/-! ### Station administration (R154, R155) -/

/-- Whether an entry names a merchant that may trade: 1 to 240, neither UNCONFIGURED nor CLOSED (R154, R174 check 4). -/
def stationMerchantOk (s : State) (x : Station) : Bool :=
  inRange 1 Config.merchants x.merchant && decide ((s.admission x.merchant).state ≠ .unconfigured)
    && decide ((s.admission x.merchant).state ≠ .closed)

/-- Every line and entry, in order. -/
def allEntries : List (Nat × Nat) :=
  (List.range 4).flatMap fun n => (List.range Config.lineEntries).map fun e => (n, e)

/-- Whether another entry that is not DISABLED holds this entry's identity (R154, R174 check 5). -/
def identityTaken (s : State) (n e : Nat) : Bool :=
  allEntries.any fun p =>
    decide (p ≠ (n, e)) && decide ((s.station p.1 p.2).state ≠ .disabled)
      && decide ((s.station p.1 p.2).merchant = (s.station n e).merchant)
      && decide ((s.station p.1 p.2).lane = (s.station n e).lane)

/-- ENABLE-STATION (R154). -/
def enableStation (tag : Nat) (p : Nat × Nat) (s : State) : State :=
  let x := s.station p.1 p.2
  let refuse (reason : Nat) : State := sendLink tag { kind := 0x28, status := .configRefused, reason := reason } s
  let ok (after : StationState) : State → State :=
    sendLink tag { kind := 0x28, status := .ok, figures := fig 1 x.state.code ++ fig 1 after.code }
  if x.state = .disabled ∨ x.state = .faulty then
    if stationMerchantOk s x = false then refuse reasonStationMerchant
    else if identityTaken s p.1 p.2 then refuse reasonStationDuplicate
    else ok .absent (s.setStation p.1 p.2 { x with state := .absent, misses := 0, bad := 0 })
  else ok x.state s

/-- ENABLE_STATION (R154). -/
def execEnableStation (tag : Byte) (body : List Byte) (s : State) : Host.Outcome State Fault Refusal :=
  .next (hostRequest 0x28 .trade tag body stationFields? enableStation s)

/-- The answer of an offer in progress to a disabled entry will be dropped (R154). -/
def dropOffer (n e : Nat) (s : State) : State :=
  if (s.line n).offered = some e then s.setLine n { s.line n with dropAnswer := true } else s

/-- DISABLE-STATION (R152, R154). -/
def disableStation (tag : Nat) (p : Nat × Nat) (s : State) : State :=
  let x := s.station p.1 p.2
  sendLink tag { kind := 0x29, status := .ok, figures := fig 1 x.state.code }
    (dropOffer p.1 p.2 (dropHeld p.1 p.2 (s.setStation p.1 p.2 { x with state := .disabled })))

/-- DISABLE_STATION (R154). -/
def execDisableStation (tag : Byte) (body : List Byte) (s : State) : Host.Outcome State Fault Refusal :=
  .next (hostRequest 0x29 .trade tag body stationFields? disableStation s)

/-- CLEAR-STATION-COUNTS (R154). -/
def clearCounts (tag : Nat) (p : Nat × Nat) (s : State) : State :=
  sendLink tag { kind := 0x2A, status := .ok }
    (s.setStation p.1 p.2 { s.station p.1 p.2 with misses := 0, bad := 0, run := 0, errors := 0 })

/-- CLEAR_STATION_COUNTS (R154). -/
def execClearStationCounts (tag : Byte) (body : List Byte) (s : State) : Host.Outcome State Fault Refusal :=
  .next (hostRequest 0x2A .books tag body stationFields? clearCounts s)

/-- Whether WEAKEST may select an entry (R155). -/
def weakestCounts (x : Station) : Bool := decide (x.state = .present ∨ x.state = .silent)

/-- WEAKEST: the PRESENT or SILENT entry with the lowest run counter, on a tie the lowest-numbered (R155). -/
def weakest (l : Line) : Option Nat :=
  (List.range Config.lineEntries).foldl (fun best e =>
    let x := vget l.stations e stationReset
    if weakestCounts x then
      match best with
      | some b => if x.run < (vget l.stations b stationReset).run then some e else best
      | none => some e
    else best) none

/-- The station figures of LINE-STATUS; zeros when none is selected. The run counter, whose width R176 does not list, is sent
in 2 bytes (R155, R179; DESIGN CHOICE, log 10). -/
def stationFigures (l : Line) (entry : Option Nat) : List Byte :=
  match entry with
  | some e =>
    let x := vget l.stations e stationReset
    fig 1 e ++ fig 1 x.merchant ++ fig 1 x.lane ++ flagByte x.enabled ++ fig 1 x.state.code ++ fig 1 x.misses ++ fig 1 x.bad
      ++ fig 2 x.run ++ fig 1 x.errors ++ flagByte x.outstanding ++ flagByte x.held.isSome
  | none => List.replicate 12 0

/-- LINE-STATUS (R155). The round counter, whose width R176 does not list, is sent in 2 bytes (DESIGN CHOICE, log 10). -/
def lineStatus (tag : Nat) (p : Nat × Option Nat) (s : State) : State :=
  let l := s.line p.1
  let entry := match p.2 with
    | some e => some e
    | none => weakest l
  let figures := fig 1 l.state.code ++ fig 1 l.copy.rate ++ fig 1 l.copy.window ++ flagByte l.copy.enabled ++ fig 2 l.round
    ++ stationFigures l entry
  sendLink tag { kind := 0x2B, status := .ok, figures := figures } s

/-- LINE_STATUS (R155). -/
def execLineStatus (tag : Byte) (body : List Byte) (s : State) : Host.Outcome State Fault Refusal :=
  .next (hostRequest 0x2B .books tag body lineStatusFields? lineStatus s)

end Sys2Proof.Machine
end

