-- ==== Sys2Proof/Machine/Setup.lean ====
section
/-! DEFINITION. Configuration requests, FORMAT and OPEN-SERVICE as the Journal Controller takes them, one at a time
(R170 to R175), with the completions of their writes (R5, R72, R73, R144, R172, R173). -/

namespace Sys2Proof.Machine
open Sys2Proof

/-! ### OPEN-SERVICE (R8, R145, R174, R175) -/

/-- The last slot of a window (R8). -/
def Window.lastSlot (w : Window) : Nat := w.base + (w.high - w.low)

/-- A failed check of OPEN-SERVICE: its reason and the bytes of the item named. -/
abbrev OpenFailure := Nat × List Byte

/-- Step 1 of R8 for window i: order, then capacity. -/
def windowFailure (s : State) (i : Nat) : Option OpenFailure :=
  let w := s.window i
  if w.enabled = false then none
  else if w.high < w.low then some (reasonWindowOrder, fig 1 (i + 1))
  else if s.mau.copy.capacity < w.lastSlot then some (reasonWindowCapacity, fig 1 (i + 1))
  else none

/-- Whether two enabled windows overlap in their slots (R8 step 2). -/
def windowsOverlap (a b : Window) : Bool :=
  a.enabled && b.enabled && decide (a.base ≤ b.lastSlot) && decide (b.base ≤ a.lastSlot)

/-- Step 2 of R8 for window k, against every lower-numbered one. -/
def overlapFailure (s : State) (k : Nat) : Option OpenFailure :=
  if (List.range k).any fun i => windowsOverlap (s.window i) (s.window k) then some (reasonWindowOverlap, fig 1 (k + 1)) else none

/-- Checks 4 and 5 of R174 for one entry: check 5 looks at the enabled entries already passed. -/
def entryFailure (s : State) (p : Nat × Nat) : Option OpenFailure :=
  let x := s.station p.1 p.2
  let item := fig 1 p.1 ++ fig 1 p.2
  if x.enabled = false then none
  else if stationMerchantOk s x = false then some (reasonStationMerchant, item)
  else if (allEntries.takeWhile fun q => decide (q ≠ p)).any fun q =>
      (s.station q.1 q.2).enabled && decide ((s.station q.1 q.2).merchant = x.merchant) && decide ((s.station q.1 q.2).lane = x.lane)
    then some (reasonStationDuplicate, item)
  else none

/-- The checks of OPEN-SERVICE in order: the first that fails (R174). -/
def openFailure (s : State) : Option OpenFailure :=
  if s.jc.store = .fault then some (reasonStoreState, [])
  else if s.ht.timeSet = false then some (reasonTimeUnset, [])
  else match (List.range 8).findSome? (windowFailure s) with
    | some f => some f
    | none => match (List.range 8).findSome? (overlapFailure s) with
      | some f => some f
      | none => allEntries.findSome? (entryFailure s)

/-- An entry as its line opens (R145). -/
def openEntry (x : Station) : Station := if x.enabled then { x with state := .absent, misses := 0, bad := 0 } else x

/-- A line controller at the completion of OPEN-SERVICE (R145). -/
def openLine (period : Nat) (l : Line) : Line :=
  if l.copy.enabled then
    { l with state := .idleGap, round := 0, position := 0, offeredInRound := false, emptyWait := false,
             stations := l.stations.map openEntry, serviceOpen := some period }
  else l

/-- OPEN-SERVICE completes (R175). -/
def openPart (tag : Nat) (s : State) : State :=
  sendLink tag { kind := 0x3E, status := .ok,
                 figures := fig 4 s.jc.appendPeriod ++ fig 1 (s.lines.toList.filter fun l => l.copy.enabled).length }
    { s with jc := { s.jc with phase := .service }, lines := s.lines.map (openLine s.jc.appendPeriod) }

/-- OPEN-SERVICE in SETUP (R174). -/
def openService (tag : Nat) (s : State) : State :=
  match openFailure s with
  | some (reason, item) => sendLink tag { kind := 0x3E, status := .configRefused, reason := reason, figures := item } s
  | none => openPart tag s

/-! ### FORMAT (R171, R172) -/

/-- The records of a stage (R171). -/
def stageCount (capacity : Nat) : Nat → Nat
  | 1 => 1
  | 2 => Config.configRecords
  | 3 => Config.merchants
  | 4 => Config.journalSlots
  | 5 => capacity
  | _ => 1

/-- The region of a stage (R110, R171). -/
def stageRegion : Nat → Region
  | 2 => .config
  | 3 => .merchants
  | 4 => .journal
  | 5 => .cards
  | _ => .totals

/-- The bytes FORMAT writes to configuration record k (R171). -/
def freshConfig (k : Nat) : List Byte :=
  if k < 8 then windowReset.bytes
  else if k < 16 then tariffReset.bytes
  else if k < 20 then lineCopyReset.bytes
  else stationBytes 0 0 false

/-- Address and bytes of the record FORMAT writes as number `i` of a stage (R110, R171). -/
def formatRecord (capacity epoch stage i : Nat) : Nat × List Byte :=
  match stage with
  | 1 => (Config.totalsBase, List.replicate 64 0)
  | 2 => (configAddress i, freshConfig i)
  | 3 => (merchantAddress (i + 1), (freshMerchant (i + 1)).bytes)
  | 4 => (Config.journalBase + i * 64, List.replicate 64 0)
  | 5 => (cardAddress (i + 1), List.replicate 32 0)
  | _ => (Config.totalsBase, (freshTotals capacity epoch).bytes)

/-- FORMAT's next write is issued (R171). -/
def issueFormat (job : FormatJob) (s : State) : State :=
  let r := formatRecord job.capacity s.ht.epoch job.stage job.written
  issue (.formatWrite job.stage job.written r.1 r.2) { s with jc := { s.jc with format := some job } }

/-- The guard of FORMAT, made in SETUP with the store NORMAL (R171). -/
def formatGuard (s : State) : Option (Nat × List Byte) :=
  if s.jc.phase ≠ .setup ∨ s.jc.store = .fault then none
  else if 0 < s.jc.untaken then some (reasonUntaken, fig 2 s.jc.untaken)
  else if s.pcu.state ≠ .empty then some (reasonListUnreleased, fig 1 s.pcu.state.code)
  else none

/-! ### One request at a time (R170) -/

/-- The phase test made when the JC takes a request (R170). -/
def cfgPhase (what : ConfigWhat) (phase : Phase) : Option (Status × Nat) :=
  match phase, what with
  | .service, .openService => some (.configRefused, reasonAlreadyOpen)
  | .service, _ => some (.configRefused, reasonInService)
  | .unformatted, .format _ => none
  | .unformatted, _ => some (.notInPhase, 0)
  | .setup, _ => none
  | .startup, _ => some (.busy, 0)

/-- The JC takes a request: what becomes of it at once, and whether it is still being worked on (R5, R72, R73, R170, R171,
R173, R174). -/
def startCfg (q : ConfigReq) (s : State) : State × Bool :=
  let answer (st : Status) (reason : Nat) (figures : List Byte) : State × Bool :=
    (sendLink q.tag { kind := q.kind, status := st, reason := reason, figures := figures } s, false)
  match cfgPhase q.what s.jc.phase with
  | some (st, reason) => answer st reason []
  | none => match q.what with
    | .openService => (openService q.tag s, false)
    | .format capacity => match formatGuard s with
      | some (reason, figures) => answer .formatRefused reason figures
      | none => (issueFormat { tag := q.tag, capacity := capacity, stage := 1, written := 0 } s, true)
    | .item i =>
      if s.jc.store = .fault then answer .storeFault 0 [] else (issue (.configWrite i) s, true)
    | .merchant m cls group =>
      if s.jc.store = .fault then answer .storeFault 0 []
      else if (s.admission m).state = .closed then answer .configRefused reasonMerchantClosed (fig 1 m)
      else (issue (.setMerchantRead q.tag m cls group) s, true)

/-- The JC takes the requests of a list one after another until one is to be worked on (R170). -/
def runCfg : List ConfigReq → State → State
  | [], s => { s with jc := { s.jc with cfg := none, cfgWaiting := [] } }
  | q :: rest, s =>
    let p := startCfg q s
    if p.2 then { p.1 with jc := { p.1.jc with cfg := some q, cfgWaiting := rest } } else runCfg rest p.1

/-- A request of R170 from the HLP: taken at once, or waiting for the one before it. FORMAT runs once the JC takes it: a request
that comes while a FORMAT still waits behind another is not refused BUSY and waits behind that FORMAT, where R170 says that none
waits (DESIGN CHOICE, log 40). -/
def takeCfg (kind tag : Nat) (what : ConfigWhat) (s : State) : State :=
  let q : ConfigReq := { tag := tag, kind := kind, what := what }
  match s.jc.cfg with
  | none => runCfg [q] s
  | some _ => { s with jc := { s.jc with cfgWaiting := s.jc.cfgWaiting ++ [q] } }

/-- The request being worked on is answered, and the next one is taken (R170). -/
def answerCfg (st : Status) (figures : List Byte) (s : State) : State :=
  match s.jc.cfg with
  | some q => runCfg s.jc.cfgWaiting (sendLink q.tag { kind := q.kind, status := st, figures := figures } s)
  | none => s

/-- A configuration request whose fields name a record. -/
def hostItem (kind : Nat) (fields : List Byte → Option ConfigItem) (tag : Byte) (body : List Byte) (s : State) : State :=
  hostRequest kind .config tag body fields (fun t i s => takeCfg kind t (.item i) s) s

/-- FORMAT (R171). -/
def execFormat (tag : Byte) (body : List Byte) (s : State) : Host.Outcome State Fault Refusal :=
  .next (hostRequest 0x38 .format tag body formatFields? (fun t c s => takeCfg 0x38 t (.format c) s) s)

/-- SET_PROGRAMME (R5). -/
def execSetProgramme (tag : Byte) (body : List Byte) (s : State) : Host.Outcome State Fault Refusal :=
  .next (hostItem 0x39 programmeFields? tag body s)

/-- SET_TARIFF (R72). -/
def execSetTariff (tag : Byte) (body : List Byte) (s : State) : Host.Outcome State Fault Refusal :=
  .next (hostItem 0x3A tariffFields? tag body s)

/-- SET_MERCHANT (R73). -/
def execSetMerchant (tag : Byte) (body : List Byte) (s : State) : Host.Outcome State Fault Refusal :=
  .next (hostRequest 0x3B .config tag body setMerchantFields?
    (fun t f s => takeCfg 0x3B t (.merchant f.1 f.2.1 f.2.2) s) s)

/-- SET_STATION (R173). -/
def execSetStation (tag : Byte) (body : List Byte) (s : State) : Host.Outcome State Fault Refusal :=
  .next (hostItem 0x3C setStationFields? tag body s)

/-- SET_LINE (R173). -/
def execSetLine (tag : Byte) (body : List Byte) (s : State) : Host.Outcome State Fault Refusal :=
  .next (hostItem 0x3D setLineFields? tag body s)

/-- OPEN_SERVICE (R174). -/
def execOpenService (tag : Byte) (body : List Byte) (s : State) : Host.Outcome State Fault Refusal :=
  .next (hostRequest 0x3E .opening tag body noFields? (fun t _ s => takeCfg 0x3E t .openService s) s)

/-! ### Configuration writes -/

/-- A station entry set by SET-STATION (R144). -/
def setUpStation (merchant lane : Nat) (enabled : Bool) : Station :=
  { stationReset with merchant := merchant, lane := lane, enabled := enabled, state := if enabled then .absent else .disabled }

/-- The on-chip copy of a configuration record takes the fields (R4, R71, R144). -/
def loadItem (i : ConfigItem) (s : State) : State :=
  match i with
  | .window k w => { s with windows := vset s.windows k w }
  | .tariff c t => { s with jc := { s.jc with tariffs := vset s.jc.tariffs c t } }
  | .line n c => s.setLine n { s.line n with copy := c }
  | .station n e merchant lane enabled => s.setStation n e (setUpStation merchant lane enabled)

/-- The fields now in force that SET-LINE and SET-STATION carry in their reply (R173). -/
def itemFigures : ConfigItem → List Byte
  | .line _ c => fig 1 c.rate ++ fig 1 c.window ++ flagByte c.enabled
  | .station _ _ merchant lane enabled => fig 1 merchant ++ fig 1 lane ++ flagByte enabled
  | _ => []

/-- A configuration write is verified: the copy takes the fields, and the reply OK follows (R5, R72, R173). -/
def itemWritten (i : ConfigItem) (s : State) : State :=
  answerCfg .ok (itemFigures i) (loadItem i (storeOp (.configWrite i) s))

/-- PROGRAMME_WRITE_DONE (R5). -/
def execProgrammeWriteDone (s : State) : Host.Outcome State Fault Refusal :=
  match s.jc.serving with
  | some (.configWrite (.window k w)) => .next (complete (itemWritten (.window k w)) s)
  | _ => .next s

/-- TARIFF_WRITE_DONE (R72). -/
def execTariffWriteDone (s : State) : Host.Outcome State Fault Refusal :=
  match s.jc.serving with
  | some (.configWrite (.tariff c t)) => .next (complete (itemWritten (.tariff c t)) s)
  | _ => .next s

/-- LINE_CONFIG_WRITE_DONE (R144, R173). -/
def execLineConfigWriteDone (s : State) : Host.Outcome State Fault Refusal :=
  match s.jc.serving with
  | some (.configWrite (.line n c)) => .next (complete (itemWritten (.line n c)) s)
  | some (.configWrite (.station n e m l en)) => .next (complete (itemWritten (.station n e m l en)) s)
  | _ => .next s

/-- The state SET-MERCHANT leads to (R73, R74). -/
def setUpState (st : MerchantState) : MerchantState := if st = .unconfigured then .active else st

/-- The merchant record read for SET-MERCHANT: it is written back with the new class and group, and a bad one sets FAULT, or
raises it again (R73, R88, R125). A FAULT set meanwhile ends the request (R126, log 14). -/
def setMerchantRead (tag m cls group : Nat) (s : State) : State :=
  match readMerchant (Memory.readMany s.mem (merchantAddress m) 256), s.jc.store with
  | none, _ => answerCfg .storeFault [] (enterFault .merchants 0 s)
  | some _, .fault => answerCfg .storeFault [] s
  | some r, .normal =>
    let before := (s.admission m).state
    issue (.setMerchantWrite tag m before
        { r with cls := cls, group := group, state := if before = .unconfigured then .active else r.state }) s

/-- SET_MERCHANT_READ_DONE (R73). -/
def execSetMerchantReadDone (s : State) : Host.Outcome State Fault Refusal :=
  match s.jc.serving with
  | some (.setMerchantRead tag m cls group) => .next (complete (setMerchantRead tag m cls group) s)
  | _ => .next s

/-- SET-MERCHANT's write is verified: the admission table takes state, class and group (R73, R78). -/
def setMerchantWritten (tag m : Nat) (before : MerchantState) (r : MerchantRec) (s : State) : State :=
  answerCfg .ok (fig 1 m ++ fig 1 before.code ++ fig 1 (setUpState before).code ++ fig 1 r.cls ++ fig 1 r.group)
    ((storeOp (.setMerchantWrite tag m before r) s).setAdmission m { state := setUpState before, cls := r.cls, group := r.group })

/-- SET_MERCHANT_WRITE_DONE (R73). -/
def execSetMerchantWriteDone (s : State) : Host.Outcome State Fault Refusal :=
  match s.jc.serving with
  | some (.setMerchantWrite tag m before r) => .next (complete (setMerchantWritten tag m before r) s)
  | _ => .next s

/-- CONFIG_WRITE_FAILS (R5, R72, R73, R125, R173): FAULT, and the request is answered STORE-FAULT with the copies kept. -/
def execConfigWriteFails (left : Residue) (s : State) : Host.Outcome State Fault Refusal :=
  match s.jc.serving with
  | some (.configWrite i) =>
    .next (complete (fun s => answerCfg .storeFault [] (enterFault .config 0 (leaveOp (.configWrite i) left s))) s)
  | some (.setMerchantWrite tag m before r) =>
    .next (complete (fun s =>
      answerCfg .storeFault [] (enterFault .merchants 0 (leaveOp (.setMerchantWrite tag m before r) left s))) s)
  | _ => .next s

/-! ### The writes of FORMAT -/

/-- Every on-chip copy of the books at its reset value: windows, tariffs, admission, lines and stations (R4, R71, R78,
R144, R172). -/
def clearCopies (s : State) : State :=
  { s with
    windows := Vector.replicate 8 windowReset
    lines := s.lines.map fun l => { l with copy := lineCopyReset, stations := Vector.replicate 48 stationReset }
    jc := { s.jc with tariffs := Vector.replicate 8 tariffReset, admission := Vector.replicate 240 admissionReset } }

/-- The journal figures and the append period (R115, R127, R172). -/
def setFigures (next oldest period : Nat) (s : State) : State :=
  { s with jc := { s.jc with next := next, oldest := oldest, untaken := 0, pendingCount := 0, appendPeriod := period } }

/-- The books as a completed FORMAT leaves them on chip (R4, R71, R78, R115, R144, R172): every copy at its reset value, the
journal figures and the append period at 1, a fresh totals record, and an EMPTY list. -/
def freshBooks (job : FormatJob) (s : State) : State :=
  let s := setFigures 1 1 1 (clearCopies s)
  { s with
    mau := { s.mau with copy := freshTotals job.capacity s.ht.epoch }
    pcu := { s.pcu with entries := [], cursor := 0, state := .empty }
    jc := { s.jc with format := none } }

/-- FORMAT completes with the store NORMAL (R172). -/
def formatDone (job : FormatJob) (s : State) : State :=
  let s := freshBooks job s
  answerCfg .ok (fig 3 job.capacity ++ fig 1 s.ht.epoch) { s with jc := { s.jc with phase := .setup } }

/-- FORMAT completes in store FAULT: the copies are cleared (R4, R78), the reply is queued, the receiver goes deaf, and the
part resets when the reply is sent (R172). Until then it keeps its phase, and serves no other request of R170 (DEDUCED,
log 19). -/
def formatDoneFault (job : FormatJob) (s : State) : State :=
  let s := freshBooks job s
  let s := pushFrame { kind := replyKind 0x38, tag := job.tag, tagged := true, resets := true,
                       reply := { kind := 0x38, status := .ok, figures := fig 3 job.capacity ++ fig 1 s.ht.epoch } } s
  { s with hlp := { s.hlp with deaf := true }, jc := { s.jc with cfg := none } }

/-- One write of FORMAT is verified: the next write of the stage or of the next stage, or the completion (R171, R172). -/
def formatWritten (job : FormatJob) (s : State) : State :=
  let n := job.written + 1
  if n < stageCount job.capacity job.stage then issueFormat { job with written := n } s
  else if job.stage < 6 then issueFormat { job with stage := job.stage + 1, written := 0 } s
  else match s.jc.store with
    | .normal => formatDone job s
    | .fault => formatDoneFault job s

/-- FORMAT goes on with its write verified. -/
def formatArrives (s : State) : State :=
  match s.jc.format with
  | some job => formatWritten job s
  | none => s

/-- FORMAT_WRITE_DONE (R171, R172). -/
def execFormatWriteDone (s : State) : Host.Outcome State Fault Refusal :=
  match s.jc.serving with
  | some (.formatWrite stage i a bs) => .next (complete (fun s => formatArrives (storeOp (.formatWrite stage i a bs) s)) s)
  | _ => .next s

/-- A write of FORMAT fails: FAULT, UNFORMATTED, and the copies cleared (R127, R172). -/
def formatFailed (job : FormatJob) (s : State) : State :=
  let s := setFigures 0 0 0 (clearCopies (enterFault (stageRegion job.stage) 0 s))
  answerCfg .storeFault (fig 1 job.stage)
    { s with
      mau := { s.mau with copy := totalsReset }
      ht := { s.ht with epoch := 0 }
      jc := { s.jc with phase := .unformatted, format := none } }

/-- FORMAT stops with its write failed. -/
def formatStops (s : State) : State :=
  match s.jc.format with
  | some job => formatFailed job s
  | none => s

/-- FORMAT_WRITE_FAILS (R172). -/
def execFormatWriteFails (left : Residue) (s : State) : Host.Outcome State Fault Refusal :=
  match s.jc.serving with
  | some (.formatWrite stage i a bs) =>
    .next (complete (fun s => formatStops (leaveOp (.formatWrite stage i a bs) left s)) s)
  | _ => .next s

end Sys2Proof.Machine
end

