-- ==== Sys2Proof/Machine/StartUp.lean ====
section
/-! DEFINITION. The reads and writes of start-up (R127 to R130): the totals record, the configuration records (R4, R71,
R144), the end of the journal, recovery's card step, and the load of the admission table (R78). -/

namespace Sys2Proof.Machine
open Sys2Proof

/-- The totals record read at start-up (R127): unformatted memory, a bad record, or a good one, whose epoch is raised. The mark
is tested first, as R127 orders it: a record that a reset tore (stage 1 of FORMAT among the writes) so that it fails its check and
carries no mark is unformatted memory, where R113 and R172 say SETUP in FAULT (DESIGN CHOICE, log 41). -/
def startupTotals (s : State) : State :=
  let bs := Memory.readMany s.mem Config.totalsBase 64
  let t := totalsFields bs
  if t.mark ≠ Config.formatMark then endStart .unformatted 0 0 s
  else if recordOk bs = false then endStart .setup 0 0 (enterFault .totals 0 s)
  else requestTotals .epoch
    { s with mau := { s.mau with copy := { t with epoch := (t.epoch + 1) % 256 } }, jc := { s.jc with stage := .epoch } }

/-- STARTUP_TOTALS_READ_DONE (R127). -/
def execStartupTotalsReadDone (s : State) : Host.Outcome State Fault Refusal :=
  match s.jc.serving with
  | some .startupTotalsRead => .next (complete startupTotals s)
  | _ => .next s

/-- A configuration record of 32 stored bytes, as an item; none when its check fails (R4, R71, R144). -/
def readItem (k : Nat) (bs : List Byte) : Option ConfigItem :=
  if k < 8 then (readWindow bs).map (.window k)
  else if k < 16 then (readTariff bs).map (.tariff (k - 8))
  else if k < 20 then (readLineCopy bs).map (.line (k - 16))
  else (readStationRecord bs).map fun p => .station ((k - 20) / 48) ((k - 20) % 48) p.1 p.2.1 p.2.2

/-- A record whose check fails is loaded as its reset value, and STORE-FAULT names CONFIG; the store state stays (R4, R71,
R144). The copies stand at their reset values since the reset. -/
def loadConfig (k : Nat) (s : State) : State :=
  match readItem k (Memory.readMany s.mem (configAddress k) 32) with
  | some i => loadItem i s
  | none => raiseStoreFault .config 0 s

/-- The scan of the journal begins at the last applied number, or at 1 (R128). -/
def startScan (s : State) : State :=
  let n := max s.mau.copy.lastApplied 1
  issue (.scanRead n) { s with jc := { s.jc with stage := .scan n [] } }

/-- Configuration record k has been read at start-up (R127). -/
def startupConfig (k : Nat) (s : State) : State :=
  let s := loadConfig k s
  if k + 1 < Config.configRecords then issue (.configRead (k + 1)) { s with jc := { s.jc with stage := .config (k + 1) } }
  else startScan s

/-- STARTUP_CONFIG_READ_DONE (R127). -/
def execStartupConfigReadDone (s : State) : Host.Outcome State Fault Refusal :=
  match s.jc.serving with
  | some (.configRead k) => .next (complete (startupConfig k) s)
  | _ => .next s

/-- The journal figures as the scan finds them (R128). -/
def setScanFigures (next pendingCount : Nat) (s : State) : State :=
  { s with jc := { s.jc with next := next, oldest := s.mau.copy.oldest, untaken := next - s.mau.copy.oldest,
                             pendingCount := pendingCount } }

/-- The record a slot holds as number n, if it does (R128). -/
def heldAs (n : Nat) (bs : List Byte) : Option JBody :=
  match readBody bs with
  | some b => if b.number = n then some b else none
  | none => none

/-- The scan stops before number n: recovery begins, unless the store is in FAULT already (R128, R129). -/
def endScan (n : Nat) (found : List JBody) (s : State) : State :=
  if n = s.mau.copy.lastApplied then finishRecovery (setScanFigures (n + 1) 0 (enterFault .journal n s))
  else
    let s := setScanFigures n found.length s
    match s.jc.store with
    | .normal => recoverNext found s
    | .fault => finishRecovery s

/-- The slot of number n has been read by the scan (R128): every record found above the last applied number is PENDING, and
that number's own record is when it carries no commit mark. -/
def scanSlot (n : Nat) (found : List JBody) (s : State) : State :=
  let bs := Memory.readMany s.mem (journalAddress n) 64
  match heldAs n bs with
  | some b =>
    let found := if s.mau.copy.lastApplied < n ∨ isCommitted bs = false then found ++ [b] else found
    issue (.scanRead (n + 1)) { s with jc := { s.jc with stage := .scan (n + 1) found } }
  | none => endScan n found s

/-- The scan goes on with the slot read. -/
def scanArrives (n : Nat) (s : State) : State :=
  match s.jc.stage with
  | .scan _ found => scanSlot n found s
  | _ => s

/-- JOURNAL_SCAN_READ_DONE (R128). -/
def execJournalScanReadDone (s : State) : Host.Outcome State Fault Refusal :=
  match s.jc.serving with
  | some (.scanRead n) => .next (complete (scanArrives n) s)
  | _ => .next s

/-- The card step of the record in recovery is done (R129). -/
def cardStepDone (s : State) : State :=
  match s.jc.stage with
  | .recover todo _ => { s with jc := { s.jc with stage := .recover todo true } }
  | _ => s

/-- Recovery's card read (R129): the step is done when the card carries the record's number or a later one. -/
def recoverCard (b : JBody) (s : State) : State :=
  let bs := Memory.readMany s.mem (cardAddress b.slot) 32
  if recordOk bs = true ∧ b.number ≤ field bs 11 6 then cardStepDone s else issue (.recoveryCardWrite b) s

/-- RECOVERY_CARD_READ_DONE (R121, R129). -/
def execRecoveryCardReadDone (s : State) : Host.Outcome State Fault Refusal :=
  match s.jc.serving with
  | some (.recoveryCardRead b) =>
    if slotExists b.slot then .next (complete (recoverCard b) s) else .fault (.noSuchAddress b.slot)
  | _ => .next s

/-- RECOVERY_CARD_WRITE_DONE (R121, R129): verified, or failed, which ends recovery in FAULT. -/
def execRecoveryCardWriteDone (failed : Option Residue) (s : State) : Host.Outcome State Fault Refusal :=
  match s.jc.serving with
  | some (.recoveryCardWrite b) =>
    match failed with
    | none => .next (complete (fun s => cardStepDone (storeOp (.recoveryCardWrite b) s)) s)
    | some left =>
      .next (complete (fun s => finishRecovery (enterFault .cards b.number (leaveOp (.recoveryCardWrite b) left s))) s)
  | _ => .next s

/-- A merchant's admission entry at the load (R78): a record whose check fails leaves it at its reset value and sets
FAULT (R88). -/
def loadAdmission (m : Nat) (s : State) : State :=
  match readMerchant (Memory.readMany s.mem (merchantAddress m) 256) with
  | some r => s.setAdmission m { state := r.state, cls := r.cls, group := r.group }
  | none => (enterFault .merchants 0 s).setAdmission m admissionReset

/-- Start-up ends in SETUP (R130). -/
def enterSetup (s : State) : State :=
  let s := { s with jc := { s.jc with appendPeriod := s.mau.copy.accrued } }
  endStart .setup s.mau.copy.epoch s.jc.recovered s

/-- The load goes on with the next merchant, or start-up ends (R78, R130). -/
def admissionOn (m : Nat) (s : State) : State :=
  let s := loadAdmission m s
  if m < Config.merchants then issue (.admissionRead (m + 1)) { s with jc := { s.jc with stage := .admission (m + 1) } }
  else enterSetup s

/-- ADMISSION_LOAD_READ_DONE (R78, R130). -/
def execAdmissionLoadReadDone (s : State) : Host.Outcome State Fault Refusal :=
  match s.jc.serving with
  | some (.admissionRead m) => .next (complete (admissionOn m) s)
  | _ => .next s

end Sys2Proof.Machine
end

