-- ==== Sys2Proof/Machine/Sweep.lean ====
section
/-! DEFINITION. The Audit Sweep Unit: start, stop, the reads and the end of a sweep (R135 to R141). The sweep's share in a
card write is `sweepAdjust`, its abort `abortSweep`. -/

namespace Sys2Proof.Machine
open Sys2Proof

/-- The next sweep read is issued: slot cursor + 1, and the read-outstanding flag is set (R137). -/
def issueSweepRead (s : State) : State :=
  issue (.sweepRead (s.asu.cursor + 1)) { s with asu := { s.asu with outstanding := true } }

/-- START-SWEEP in SERVICE (R136): the first read waits for a stale one still outstanding. -/
def startSweep (tag : Nat) (s : State) : State :=
  if s.jc.store = .fault then sendLink tag { kind := 0x20, status := .storeFault } s
  else if s.asu.state = .running then sendLink tag { kind := 0x20, status := .busy } s
  else
    let s := { s with asu := { s.asu with state := .running, cursor := 0, paid := 0, bonus := 0, unreadable := 0 } }
    let s := if s.asu.outstanding then s else issueSweepRead s
    sendLink tag { kind := 0x20, status := .ok, figures := fig 3 s.mau.copy.capacity } s

/-- START_SWEEP (R136). -/
def execStartSweep (tag : Byte) (body : List Byte) (s : State) : Host.Outcome State Fault Refusal :=
  .next (hostRequest 0x20 .trade tag body noFields? (fun t _ s => startSweep t s) s)

/-- STOP-SWEEP (R140). -/
def stopSweep (tag : Nat) (s : State) : State :=
  match s.asu.state with
  | .running =>
    sendLink tag { kind := 0x21, status := .ok, figures := fig 1 SweepState.running.code ++ fig 3 s.asu.cursor } (abortSweep s)
  | .idle => sendLink tag { kind := 0x21, status := .ok, figures := fig 1 SweepState.idle.code } s

/-- STOP_SWEEP (R140). -/
def execStopSweep (tag : Byte) (body : List Byte) (s : State) : Host.Outcome State Fault Refusal :=
  .next (hostRequest 0x21 .books tag body noFields? (fun t _ s => stopSweep t s) s)

/-- The records whose card write is complete and whose stage 2 is not applied: the accrual queue, and a record in accrual
before its stage 2 (R139). -/
def unaccrued (s : State) : List JBody :=
  s.mau.queue ++ (match s.mau.accrual with | some a => if a.stage2 then [] else [a.body] | none => [])

/-- The expected paid figure of a sweep's end (R139). -/
def expectedPaid (s : State) : Int := s.mau.copy.outPaid + ((unaccrued s).map JBody.paidDelta).sum

/-- The expected bonus figure of a sweep's end (R139). -/
def expectedBonus (s : State) : Int := s.mau.copy.outBonus + ((unaccrued s).map JBody.bonusDelta).sum

/-- The outcome of a sweep that has read every slot (R139). -/
def sweepOutcome (s : State) : SweepOutcome :=
  if s.asu.paid = expectedPaid s ∧ s.asu.bonus = expectedBonus s ∧ s.asu.unreadable = 0 then .isMatch else .mismatch

/-- SWEEP-DONE's details at the end of a sweep (R139). -/
def sweepNotice (s : State) : SweepDoneNotice where
  outcome := sweepOutcome s
  paid := s.asu.paid
  bonus := s.asu.bonus
  expectedPaid := expectedPaid s
  expectedBonus := expectedBonus s
  slots := s.mau.copy.capacity
  unreadable := s.asu.unreadable

/-- The sweep ends with its outcome (R139). -/
def endSweep (s : State) : State :=
  raise (fun n => { n with sweepDone := some (sweepNotice s) }) { s with asu := { s.asu with state := .idle } }

/-- The purses of the slot read are added, or the slot is counted unreadable (R137). -/
def sweepAdd (slot : Nat) (s : State) : State :=
  match readCard (Memory.readMany s.mem (cardAddress slot) 32) with
  | some r => { s with asu := { s.asu with paid := s.asu.paid + r.paid, bonus := s.asu.bonus + r.bonus } }
  | none => raiseStoreFault .cards 0 { s with asu := { s.asu with unreadable := s.asu.unreadable + 1 } }

/-- The completion of a stale read: both flags clear, nothing used, and a new sweep's first read issued (R141). -/
def dropStale (s : State) : State :=
  let t := { s with asu := { s.asu with outstanding := false, stale := false } }
  if s.asu.state = .running then issueSweepRead t else t

/-- The slot read of a RUNNING sweep counts, the cursor moves onto it, and the sweep goes on or ends (R137, R139). -/
def sweepOn (slot : Nat) (s : State) : State :=
  let t := sweepAdd slot { s with asu := { s.asu with outstanding := false, cursor := s.asu.cursor + 1 } }
  if t.asu.cursor = t.mau.copy.capacity then endSweep t else issueSweepRead t

/-- A sweep read completes (R137, R139, R141). -/
def sweepRead (slot : Nat) (s : State) : State :=
  if s.asu.stale then dropStale s
  else if s.asu.state = .running then sweepOn slot s
  else { s with asu := { s.asu with outstanding := false } }

/-- SWEEP_READ_DONE (R137). -/
def execSweepReadDone (s : State) : Host.Outcome State Fault Refusal :=
  match s.jc.serving with
  | some (.sweepRead slot) => if slotExists slot then .next (complete (sweepRead slot) s) else .fault (.noSuchAddress slot)
  | _ => .next s

end Sys2Proof.Machine
end

