-- ==== Sys2Proof/Machine/Dispatch.lean ====
section
/-! DEFINITION. One arm for each command: a direct call of its meaning. -/

namespace Sys2Proof.Machine
open Sys2Proof

/-- The meaning of a command (one arm for each row of spec/opcode_table.json, in its order). -/
def exec (i : Instr) (s : State) : Host.Outcome State Fault Refusal :=
  match i with
  | .reset cause straps left => Sys2Proof.Machine.execReset cause straps left s
  | .frameRejected bytes => Sys2Proof.Machine.execFrameRejected bytes s
  | .receiveGapExpiry bytes => Sys2Proof.Machine.execReceiveGapExpiry bytes s
  | .replyFrameSent left => Sys2Proof.Machine.execReplyFrameSent left s
  | .activate tag body => Sys2Proof.Machine.execActivate tag body s
  | .load tag body => Sys2Proof.Machine.execLoad tag body s
  | .hold tag body => Sys2Proof.Machine.execHold tag body s
  | .release tag body => Sys2Proof.Machine.execRelease tag body s
  | .balance tag body => Sys2Proof.Machine.execBalance tag body s
  | .capture tag body => Sys2Proof.Machine.execCapture tag body s
  | .redeem tag body => Sys2Proof.Machine.execRedeem tag body s
  | .void tag body => Sys2Proof.Machine.execVoid tag body s
  | .refund tag body => Sys2Proof.Machine.execRefund tag body s
  | .cashOut tag body => Sys2Proof.Machine.execCashOut tag body s
  | .block tag body => Sys2Proof.Machine.execBlock tag body s
  | .unblock tag body => Sys2Proof.Machine.execUnblock tag body s
  | .suspendMerchant tag body => Sys2Proof.Machine.execSuspendMerchant tag body s
  | .resumeMerchant tag body => Sys2Proof.Machine.execResumeMerchant tag body s
  | .closeMerchant tag body => Sys2Proof.Machine.execCloseMerchant tag body s
  | .cutoff tag body => Sys2Proof.Machine.execCutoff tag body s
  | .takeAdvice tag body => Sys2Proof.Machine.execTakeAdvice tag body s
  | .readPayout tag body => Sys2Proof.Machine.execReadPayout tag body s
  | .rewindPayout tag body => Sys2Proof.Machine.execRewindPayout tag body s
  | .releasePayout tag body => Sys2Proof.Machine.execReleasePayout tag body s
  | .readTotals tag body => Sys2Proof.Machine.execReadTotals tag body s
  | .merchantStatus tag body => Sys2Proof.Machine.execMerchantStatus tag body s
  | .startSweep tag body => Sys2Proof.Machine.execStartSweep tag body s
  | .stopSweep tag body => Sys2Proof.Machine.execStopSweep tag body s
  | .enableStation tag body => Sys2Proof.Machine.execEnableStation tag body s
  | .disableStation tag body => Sys2Proof.Machine.execDisableStation tag body s
  | .clearStationCounts tag body => Sys2Proof.Machine.execClearStationCounts tag body s
  | .lineStatus tag body => Sys2Proof.Machine.execLineStatus tag body s
  | .partStatus tag body => Sys2Proof.Machine.execPartStatus tag body s
  | .takeNotices tag body => Sys2Proof.Machine.execTakeNotices tag body s
  | .restart tag body => Sys2Proof.Machine.execRestart tag body s
  | .setTime tag body => Sys2Proof.Machine.execSetTime tag body s
  | .format tag body => Sys2Proof.Machine.execFormat tag body s
  | .setProgramme tag body => Sys2Proof.Machine.execSetProgramme tag body s
  | .setTariff tag body => Sys2Proof.Machine.execSetTariff tag body s
  | .setMerchant tag body => Sys2Proof.Machine.execSetMerchant tag body s
  | .setStation tag body => Sys2Proof.Machine.execSetStation tag body s
  | .setLine tag body => Sys2Proof.Machine.execSetLine tag body s
  | .openService tag body => Sys2Proof.Machine.execOpenService tag body s
  | .secondsTick => Sys2Proof.Machine.execSecondsTick s
  | .holdExpiry epoch serial => Sys2Proof.Machine.execHoldExpiry epoch serial s
  | .holdEntry lock => Sys2Proof.Machine.execHoldEntry lock s
  | .holdClaim lock => Sys2Proof.Machine.execHoldClaim lock s
  | .cardReadDone => Sys2Proof.Machine.execCardReadDone s
  | .appendIssue => Sys2Proof.Machine.execAppendIssue s
  | .appendWriteDone => Sys2Proof.Machine.execAppendWriteDone s
  | .appendWriteFails left => Sys2Proof.Machine.execAppendWriteFails left s
  | .cardWriteDone => Sys2Proof.Machine.execCardWriteDone s
  | .cardWriteFails left => Sys2Proof.Machine.execCardWriteFails left s
  | .accrualStart => Sys2Proof.Machine.execAccrualStart s
  | .accrualMerchantReadDone => Sys2Proof.Machine.execAccrualMerchantReadDone s
  | .accrualMerchantWriteDone failed => Sys2Proof.Machine.execAccrualMerchantWriteDone failed s
  | .totalsWriteDone => Sys2Proof.Machine.execTotalsWriteDone s
  | .totalsWriteFails left => Sys2Proof.Machine.execTotalsWriteFails left s
  | .commitMarkDone => Sys2Proof.Machine.execCommitMarkDone s
  | .commitMarkFails left => Sys2Proof.Machine.execCommitMarkFails left s
  | .closeWalkStart => Sys2Proof.Machine.execCloseWalkStart s
  | .walkMerchantReadDone => Sys2Proof.Machine.execWalkMerchantReadDone s
  | .walkMerchantWriteDone => Sys2Proof.Machine.execWalkMerchantWriteDone s
  | .adviceReadDone => Sys2Proof.Machine.execAdviceReadDone s
  | .merchantStatusReadDone => Sys2Proof.Machine.execMerchantStatusReadDone s
  | .readTotalsReadDone => Sys2Proof.Machine.execReadTotalsReadDone s
  | .programmeWriteDone => Sys2Proof.Machine.execProgrammeWriteDone s
  | .tariffWriteDone => Sys2Proof.Machine.execTariffWriteDone s
  | .setMerchantReadDone => Sys2Proof.Machine.execSetMerchantReadDone s
  | .setMerchantWriteDone => Sys2Proof.Machine.execSetMerchantWriteDone s
  | .lineConfigWriteDone => Sys2Proof.Machine.execLineConfigWriteDone s
  | .configWriteFails left => Sys2Proof.Machine.execConfigWriteFails left s
  | .formatWriteDone => Sys2Proof.Machine.execFormatWriteDone s
  | .formatWriteFails left => Sys2Proof.Machine.execFormatWriteFails left s
  | .sweepReadDone => Sys2Proof.Machine.execSweepReadDone s
  | .rebuildReadDone => Sys2Proof.Machine.execRebuildReadDone s
  | .startupTotalsReadDone => Sys2Proof.Machine.execStartupTotalsReadDone s
  | .startupConfigReadDone => Sys2Proof.Machine.execStartupConfigReadDone s
  | .journalScanReadDone => Sys2Proof.Machine.execJournalScanReadDone s
  | .recoveryCardReadDone => Sys2Proof.Machine.execRecoveryCardReadDone s
  | .recoveryCardWriteDone failed => Sys2Proof.Machine.execRecoveryCardWriteDone failed s
  | .admissionLoadReadDone => Sys2Proof.Machine.execAdmissionLoadReadDone s
  | .offerStart line => Sys2Proof.Machine.execOfferStart line s
  | .broadcastStart line => Sys2Proof.Machine.execBroadcastStart line s
  | .emptyRoundWaitExpiry line => Sys2Proof.Machine.execEmptyRoundWaitExpiry line s
  | .offerSent line => Sys2Proof.Machine.execOfferSent line s
  | .broadcastSent line => Sys2Proof.Machine.execBroadcastSent line s
  | .goodAnswer line frame => Sys2Proof.Machine.execGoodAnswer line frame s
  | .answerWindowExpiry line => Sys2Proof.Machine.execAnswerWindowExpiry line s
  | .answerGapExpiry line => Sys2Proof.Machine.execAnswerGapExpiry line s
  | .badAnswer line frame => Sys2Proof.Machine.execBadAnswer line frame s
  | .walkMerchantWriteFails left => Sys2Proof.Machine.execWalkMerchantWriteFails left s
  | .noRequestKindFrame kind tag body => Sys2Proof.Machine.execNoRequestKindFrame kind tag body s

end Sys2Proof.Machine
end

