-- ==== Sys2Proof/WellFormed.lean ====
section
/-! DEFINITION. Which commands can reach the part: the lengths and ends of frames (R157, R158, R176, R183), the serial of a hold (R26),
the kind byte of a frame that names no request (R160), and the longest record of settlement memory (R69). -/

namespace Sys2Proof

/-- A frame body has at most 240 bytes (R157). -/
def bodyFits (body : List Byte) : Bool := decide (body.length ≤ 240)

/-- Bytes that end with the byte at which the receiver rejects their frame for its length or its check (R158). -/
def endsRejected (bytes : List Byte) : Bool :=
  match Machine.receive bytes with
  | .rejected _ => true
  | _ => false

/-- Bytes left behind by a write are at most the longest record, 256 bytes (R69, R113). -/
def Residue.fits : Residue → Bool
  | .torn bytes => decide (bytes.length ≤ 256)
  | .written | .unwritten => true

/-- What an optional failure leaves. -/
def residueFits? : Option Residue → Bool
  | some left => left.fits
  | none => true

/-- The well-formed commands. -/
def Instr.wf : Instr → Bool
  | .reset _ _ left => left.fits
  | .frameRejected bytes => endsRejected bytes
  | .receiveGapExpiry bytes => decide (Machine.receive bytes = .partialFrame)
  | .replyFrameSent left => left.fits
  | .activate _ body => bodyFits body
  | .load _ body => bodyFits body
  | .hold _ body => bodyFits body
  | .release _ body => bodyFits body
  | .balance _ body => bodyFits body
  | .capture _ body => bodyFits body
  | .redeem _ body => bodyFits body
  | .void _ body => bodyFits body
  | .refund _ body => bodyFits body
  | .cashOut _ body => bodyFits body
  | .block _ body => bodyFits body
  | .unblock _ body => bodyFits body
  | .suspendMerchant _ body => bodyFits body
  | .resumeMerchant _ body => bodyFits body
  | .closeMerchant _ body => bodyFits body
  | .cutoff _ body => bodyFits body
  | .takeAdvice _ body => bodyFits body
  | .readPayout _ body => bodyFits body
  | .rewindPayout _ body => bodyFits body
  | .releasePayout _ body => bodyFits body
  | .readTotals _ body => bodyFits body
  | .merchantStatus _ body => bodyFits body
  | .startSweep _ body => bodyFits body
  | .stopSweep _ body => bodyFits body
  | .enableStation _ body => bodyFits body
  | .disableStation _ body => bodyFits body
  | .clearStationCounts _ body => bodyFits body
  | .lineStatus _ body => bodyFits body
  | .partStatus _ body => bodyFits body
  | .takeNotices _ body => bodyFits body
  | .restart _ body => bodyFits body
  | .setTime _ body => bodyFits body
  | .format _ body => bodyFits body
  | .setProgramme _ body => bodyFits body
  | .setTariff _ body => bodyFits body
  | .setMerchant _ body => bodyFits body
  | .setStation _ body => bodyFits body
  | .setLine _ body => bodyFits body
  | .openService _ body => bodyFits body
  | .noRequestKindFrame kind _ body => (Machine.bodyLength? kind.toNat).isNone && bodyFits body
  | .holdExpiry _ serial => serial != 0
  | .goodAnswer _ frame => decide (frame.length ≤ 246)
  | .badAnswer _ frame => decide (frame.length ≤ 247) && !frame.isEmpty
  | .appendWriteFails left => left.fits
  | .cardWriteFails left => left.fits
  | .totalsWriteFails left => left.fits
  | .commitMarkFails left => left.fits
  | .configWriteFails left => left.fits
  | .formatWriteFails left => left.fits
  | .walkMerchantWriteFails left => left.fits
  | .accrualMerchantWriteDone failed => residueFits? failed
  | .recoveryCardWriteDone failed => residueFits? failed
  | .secondsTick | .holdEntry _ | .holdClaim _ | .cardReadDone | .appendIssue | .appendWriteDone | .cardWriteDone
  | .accrualStart | .accrualMerchantReadDone | .totalsWriteDone | .commitMarkDone | .closeWalkStart | .walkMerchantReadDone
  | .walkMerchantWriteDone | .adviceReadDone | .merchantStatusReadDone | .readTotalsReadDone | .programmeWriteDone
  | .tariffWriteDone | .setMerchantReadDone | .setMerchantWriteDone | .lineConfigWriteDone | .formatWriteDone
  | .sweepReadDone | .rebuildReadDone | .startupTotalsReadDone | .startupConfigReadDone | .journalScanReadDone
  | .recoveryCardReadDone | .admissionLoadReadDone | .offerStart _ | .broadcastStart _ | .emptyRoundWaitExpiry _
  | .offerSent _ | .broadcastSent _ | .answerWindowExpiry _ | .answerGapExpiry _ => true

end Sys2Proof
end

