-- ==== Sys2Proof/Safety.lean ====
section
/-! DEFINITION. The terms claims are stated in: the frame that carries a request, when the link takes one, what its taking
leaves, and the invariants that a safe machine keeps. -/

namespace Sys2Proof.Safety
open Sys2Proof Sys2Proof.Machine

/-! ### Requests of the link -/

/-- Kind code, tag and body of the host frame that is this command (R157, R177); none for an event that is no whole frame. -/
def hostParts : Instr → Option (Nat × Byte × List Byte)
  | .activate tag body => some (0x01, tag, body)
  | .load tag body => some (0x02, tag, body)
  | .hold tag body => some (0x03, tag, body)
  | .release tag body => some (0x04, tag, body)
  | .balance tag body => some (0x05, tag, body)
  | .capture tag body => some (0x06, tag, body)
  | .redeem tag body => some (0x07, tag, body)
  | .void tag body => some (0x08, tag, body)
  | .refund tag body => some (0x09, tag, body)
  | .cashOut tag body => some (0x0A, tag, body)
  | .block tag body => some (0x0B, tag, body)
  | .unblock tag body => some (0x0C, tag, body)
  | .suspendMerchant tag body => some (0x10, tag, body)
  | .resumeMerchant tag body => some (0x11, tag, body)
  | .closeMerchant tag body => some (0x12, tag, body)
  | .cutoff tag body => some (0x13, tag, body)
  | .takeAdvice tag body => some (0x18, tag, body)
  | .readPayout tag body => some (0x19, tag, body)
  | .rewindPayout tag body => some (0x1A, tag, body)
  | .releasePayout tag body => some (0x1B, tag, body)
  | .readTotals tag body => some (0x1C, tag, body)
  | .merchantStatus tag body => some (0x1D, tag, body)
  | .startSweep tag body => some (0x20, tag, body)
  | .stopSweep tag body => some (0x21, tag, body)
  | .enableStation tag body => some (0x28, tag, body)
  | .disableStation tag body => some (0x29, tag, body)
  | .clearStationCounts tag body => some (0x2A, tag, body)
  | .lineStatus tag body => some (0x2B, tag, body)
  | .partStatus tag body => some (0x30, tag, body)
  | .takeNotices tag body => some (0x31, tag, body)
  | .setTime tag body => some (0x32, tag, body)
  | .restart tag body => some (0x33, tag, body)
  | .format tag body => some (0x38, tag, body)
  | .setProgramme tag body => some (0x39, tag, body)
  | .setTariff tag body => some (0x3A, tag, body)
  | .setMerchant tag body => some (0x3B, tag, body)
  | .setStation tag body => some (0x3C, tag, body)
  | .setLine tag body => some (0x3D, tag, body)
  | .openService tag body => some (0x3E, tag, body)
  | .noRequestKindFrame kind tag body => some (kind.toNat, tag, body)
  | _ => none

/-- The card request of the link with this kind (R177). -/
def cardCommand (k : CardKind) (tag : Byte) (body : List Byte) : Instr :=
  match k with
  | .activate => .activate tag body
  | .load => .load tag body
  | .hold => .hold tag body
  | .release => .release tag body
  | .balance => .balance tag body
  | .capture => .capture tag body
  | .redeem => .redeem tag body
  | .void => .void tag body
  | .refund => .refund tag body
  | .cashOut => .cashOut tag body
  | .block => .block tag body
  | .unblock => .unblock tag body

/-- The merchant state request of the link with this kind (R75). -/
def adminCommand (k : AdminKind) (tag : Byte) (body : List Byte) : Instr :=
  match k with
  | .suspend => .suspendMerchant tag body
  | .resume => .resumeMerchant tag body
  | .close => .closeMerchant tag body

/-- The four requests that set a configuration record: the fields of a body and the command, by kind code (R5, R72, R173). -/
def itemFields (kind : Nat) : List Byte → Option ConfigItem :=
  match kind with
  | 0x39 => programmeFields?
  | 0x3A => tariffFields?
  | 0x3C => setStationFields?
  | 0x3D => setLineFields?
  | _ => fun _ => none

/-- Whether a body passes the field check of the request with this kind code (R160, R176, R177). -/
def goodFields (kind : Nat) (tag : Byte) (body : List Byte) : Bool :=
  match cardKindOf? kind with
  | some k => (cardRequest? k (.link tag.toNat) body).isSome
  | none =>
    match kind with
    | 0x10 | 0x11 | 0x12 | 0x1D => (merchantField? body).isSome
    | 0x13 | 0x19 | 0x1A | 0x1B | 0x1C | 0x20 | 0x21 | 0x30 | 0x31 | 0x33 | 0x3E => body.isEmpty
    | 0x18 => (adviceCount? body).isSome
    | 0x28 | 0x29 | 0x2A => (stationFields? body).isSome
    | 0x2B => (lineStatusFields? body).isSome
    | 0x32 => (timeField? body).isSome
    | 0x38 => (formatFields? body).isSome
    | 0x39 | 0x3A | 0x3C | 0x3D => (itemFields kind body).isSome
    | 0x3B => (setMerchantFields? body).isSome
    | _ => false

/-- The link can take a frame under this tag (R159): the receiver listens, the tag is not 0 and not in flight, and fewer than
8 requests are in flight. -/
def TagFree (tag : Byte) (s : State) : Prop :=
  s.hlp.deaf = false ∧ tag.toNat ≠ 0 ∧ tag.toNat ∉ s.hlp.inFlight ∧ s.hlp.inFlight.length < 8

/-- The link takes a request of this row of the phase table under this tag (R159, R160). -/
def Admits (c : ReqClass) (tag : Byte) (s : State) : Prop :=
  TagFree tag s ∧ phaseRefusal c s.jc.phase s.jc.format.isSome = none

/-- The state with the frame taken: its tag is in flight, and the receiver hunts again. -/
def taken (tag : Byte) (s : State) : State :=
  { s with hlp := { s.hlp with inbound := [], inFlight := s.hlp.inFlight ++ [tag.toNat] } }

/-- A reply without figures. -/
def plainReply (kind : Nat) (st : Status) (reason : Nat := 0) (figures : List Byte := []) : Reply :=
  { kind := kind, status := st, reason := reason, figures := figures }

/-! ### Completions -/

/-- The state with a record at the tail of the append queue (R116): when that makes an append access due, the access waits at a
busy port, and an idle port serves it. -/
def queued (item : AppendItem) (s : State) : State :=
  let j : State := { s with jc := { s.jc with appendQueue := s.jc.appendQueue ++ [item] } }
  if s.jc.appendIssued = true ∨ 32 ≤ s.jc.pendingCount then j
  else match s.jc.serving with
    | some _ => { j with jc := { j.jc with appendIssued := true, waiting := s.jc.waiting ++ [.append] } }
    | none => portNext 2 j

/-- `t` is the state right after some reset of `s` (R168). -/
def IsReset (s t : State) : Prop := ∃ cause straps mem, t = resetWith cause straps mem s.pending

/-! ### Invariants -/

/-- ATTN_N is low exactly when a notice is pending and start-up has ended (R163); FORMAT runs in a phase alone. -/
def AttnOk (s : State) : Prop :=
  (s.jc.phase = .startup → s.jc.format = none)
    ∧ s.hlp.attnLow = (decide (s.jc.phase ≠ .startup) && !s.hlp.notices.none?)

/-- The lock table (R20): a card number stands in at most one slot, its owner and at most 6 waiters are requests for it. -/
def LocksOk (s : State) : Prop :=
  (∀ k l, k < 16 → s.lock k = some l →
      l.owner.card = l.card ∧ l.waiters.length ≤ 6 ∧ ∀ w ∈ l.waiters, w.card = l.card)
    ∧ ∀ k k' l l', k < 16 → k' < 16 → s.lock k = some l → s.lock k' = some l' → l.card = l'.card → k = k'

/-- The Hold Table (R27, R28): at most 512 entries, no two with the same serial, and a serial counter of 1 to 65,535. -/
def HoldsOk (s : State) : Prop :=
  s.ht.holds.length ≤ 512 ∧ (s.ht.holds.map Hold.serial).Nodup ∧ 1 ≤ s.ht.serial ∧ s.ht.serial ≤ 65535

/-- The link's tables and the capture ring (R59, R159, R161): at most 8 tags in flight, none twice and none 0, at most 8
replies of frames that took no tag, and at most 256 ring entries. -/
def LimitsOk (s : State) : Prop :=
  s.hlp.inFlight.length ≤ 8 ∧ s.hlp.inFlight.Nodup ∧ 0 ∉ s.hlp.inFlight
    ∧ (s.hlp.outbound.filter fun f => !f.tagged).length ≤ 8 ∧ s.ce.ring.length ≤ 256

/-- The law of R115: at most 32 records are PENDING and at most 4,096 are untaken. With it what keeps it: the append access of
the queue's head waits at most once and while fewer than 32 are PENDING (R116), and an append write in service has room for its
record. -/
def JournalOk (s : State) : Prop :=
  s.jc.pendingCount ≤ 32 ∧ s.jc.untaken ≤ 4096
    ∧ (s.jc.waiting.count .append ≤ if s.jc.appendIssued then 1 else 0)
    ∧ (.append ∈ s.jc.waiting → s.jc.pendingCount < 32) ∧ (∀ b, .appendWrite b ∉ s.jc.waiting)
    ∧ ∀ op, s.jc.serving = some op → op ≠ .append ∧ ∀ b, op = .appendWrite b →
        s.jc.appendIssued = true ∧ .append ∉ s.jc.waiting ∧ s.jc.pendingCount < 32 ∧ s.jc.untaken < 4096

/-- The count law of R27: a card has at most 4 holds, and fewer while a decided hold of it is on its way to the Hold Table. -/
def ChainsOk (s : State) : Prop :=
  (∀ card slot, (s.chain card slot).length ≤ 4)
    ∧ ∀ k l p, s.lock k = some l → l.doing = .entering p → (s.chain l.owner.card l.owner.slot).length < 4

/-- What a card access or a record of the append queue stands for: a lock, and the request it answers where it names one. -/
abbrev Ticket := Nat × Option CardReq

/-- The ticket of a card access. -/
def accessTicket : PortOp → Option Ticket
  | .cardRead k _ => some (k, none)
  | .cardWrite k m _ _ => some (k, some m.req)
  | _ => none

/-- The ticket of a record of the append queue. -/
def recordTicket : AppendItem → Option Ticket
  | .movement k m => some (k, some m.req)
  | _ => none

/-- The tickets of the accesses at the port and of the records in the append queue. -/
def tickets (s : State) : List Ticket :=
  (s.jc.serving.toList ++ s.jc.waiting).filterMap accessTicket ++ s.jc.appendQueue.filterMap recordTicket

/-- A ticket fits its lock: the owner's card is being read, or the owner's movement is at append or beyond (R23). -/
def TicketFits (s : State) (t : Ticket) : Prop :=
  ∃ l, s.lock t.1 = some l ∧
    match t.2 with
    | none => l.doing = .reading
    | some req => l.doing = .moving ∧ l.owner = req

/-- The station a card request came from, none for one of the link. -/
def asker (req : CardReq) : Option (Nat × Nat) :=
  match req.origin with
  | .station n e => some (n, e)
  | .link _ => none

/-- The stations whose requests a lock holds, its owner's first. -/
def askers (l : LockSlot) : List (Nat × Nat) := (l.owner :: l.waiters).filterMap asker

/-- The station law of R143: a station has at most one request inside the part, under a set flag and with no held reply, and a
held reply stands only under a set flag. With it what keeps it: each lock has at most one card access or record out, which fits
it (R23), and a line that delivers delivers a reply that is held (R147). -/
def StationsOk (s : State) : Prop :=
  ((tickets s).map Prod.fst).Nodup ∧ (∀ t ∈ tickets s, TicketFits s t)
    ∧ (∀ k l, s.lock k = some l → (askers l).Nodup
        ∧ ∀ p ∈ askers l, (s.station p.1 p.2).outstanding = true ∧ (s.station p.1 p.2).held = none)
    ∧ (∀ k k' l l', k ≠ k' → s.lock k = some l → s.lock k' = some l' → ∀ p ∈ askers l, p ∉ askers l')
    ∧ (∀ n e, (s.station n e).held ≠ none → (s.station n e).outstanding = true)
    ∧ ∀ n e, (s.line n).offered = some e → e < 48
        ∧ ((s.line n).state = .delivering → (s.line n).dropAnswer = false → (s.station n e).held ≠ none)

/-- Settlement memory stands in its canonical form. -/
def MemOk (s : State) : Prop := Memory.wf s.mem = true

/-- A run is safe as long as every step answers a next state. -/
def safeStep (s : State) : Prop := ∃ t, step s = .next t

end Sys2Proof.Safety
end

