-- ==== Sys2Proof/Certificates/Slice0/Obligations.lean ====
section
/-! DEFINITION. The statements for the provers, from the numbered rules of spec/. -/

open Sys2Proof Sys2Proof.Machine Sys2Proof.Safety

/-! ### The machine as a whole -/

/-- A step carries out the command at the front of the queue on the queue's rest; an empty queue idles (the model's choice,
log 5). -/
def Obligations.StepTakesTheFrontCommand : Prop :=
  (∀ (c : Instr) (rest : List Instr) (s : State), s.pending = c :: rest → step s = exec c { s with pending := rest })
    ∧ ∀ s : State, s.pending = [] → step s = .next s

/-- State.reset holds the values the rules give for reset (R4, R20, R34, R41, R59, R71, R78, R103, R115, R116, R125, R131,
R135, R144, R156, R163, R168). -/
def Obligations.ResetValues : Prop :=
  let s := State.reset
  (s.pending, s.hlp.inFlight, s.hlp.outbound, s.hlp.notices, s.hlp.attnLow, s.hlp.inbound) = ([], [], [], {}, false, [])
    ∧ (∀ n, n < 4 → (s.line n).state = .closed ∧ (s.line n).de = false ∧ (s.line n).round = 0 ∧ (s.line n).position = 0
        ∧ (s.line n).copy = { rate := 0, window := 4, enabled := false } ∧ (s.line n).serviceOpen = none
        ∧ (s.line n).periodChange = none ∧ ∀ e, e < 48 → s.station n e = stationReset)
    ∧ (∀ i, i < 8 → s.window i = windowReset ∧ s.tariff i = tariffReset)
    ∧ (∀ k, k < 16 → s.lock k = none) ∧ s.ce.ring = []
    ∧ s.ht = { holds := [], serial := 1, epoch := 0, seconds := 0, timeSet := false }
    ∧ (∀ m, s.admission m = admissionReset)
    ∧ (s.jc.phase, s.jc.store, s.jc.next, s.jc.oldest, s.jc.untaken, s.jc.pendingCount) = (.startup, .normal, 0, 0, 0, 0)
    ∧ (s.jc.appendQueue, s.jc.waiting) = ([], []) ∧ s.mau.copy = totalsReset ∧ s.mau.queue = []
    ∧ (s.pcu.entries, s.pcu.cursor, s.pcu.state) = ([], 0, .empty)
    ∧ s.asu = { state := .idle, cursor := 0, paid := 0, bonus := 0, unreadable := 0, outstanding := false, stale := false }

/-- The invariants hold right after reset, the laws of R27, R115 and R143 among them. -/
def Obligations.ResetKeepsInvariants : Prop :=
  MemOk State.reset ∧ AttnOk State.reset ∧ LocksOk State.reset ∧ HoldsOk State.reset ∧ LimitsOk State.reset
    ∧ JournalOk State.reset ∧ ChainsOk State.reset ∧ StationsOk State.reset

/-- Settlement memory keeps its canonical form in every step (R110: the memory's bytes have one value each).
The canonical form is the model's own, over a fresh memory that reads as 0 (log 1). -/
def Obligations.StepKeepsMemoryForm : Prop :=
  ∀ s t : State, MemOk s → step s = .next t → MemOk t

/-- ATTN_N is low exactly while a notice is pending outside start-up, in every step (R163). -/
def Obligations.StepKeepsAttn : Prop :=
  ∀ s t : State, AttnOk s → step s = .next t → AttnOk t

/-- A card number stands in at most one card lock slot, and a slot's owner and waiters are requests for its card, 6 waiters at
most, in every step (R20). A till station has at most one request inside the part, and a held reply only under a set flag, in
every step (R143) but the completions of setup's accesses, which make an entry anew: no such access is in service while a line
is open (R145, R170). -/
def Obligations.StepKeepsLockTable : Prop :=
  (∀ s t : State, LocksOk s → step s = .next t → LocksOk t)
    ∧ ∀ s t : State, StationsOk s → (∀ k, s.jc.serving ≠ some (.configRead k)) → (∀ i, s.jc.serving ≠ some (.configWrite i)) →
        (∀ stage i a bs, s.jc.serving ≠ some (.formatWrite stage i a bs)) → step s = .next t → StationsOk t

/-- The Hold Table holds at most 512 holds, no two with the same serial, in every step (R27, R28). A card has at most 4 holds,
those on their way to the table counted, in every step (R27). -/
def Obligations.StepKeepsHoldTable : Prop :=
  (∀ s t : State, HoldsOk s → step s = .next t → HoldsOk t)
    ∧ ∀ s t : State, LocksOk s → ChainsOk s → step s = .next t → ChainsOk t

/-- At most 8 tags are in flight, none twice and none 0, at most 8 untagged replies wait, and the ring has at most 256
entries, in every step (R59, R159, R161). At most 32 records are PENDING and at most 4,096 untaken, in every step (R115) but
that of start-up's scan, which takes both figures from memory (R128). -/
def Obligations.StepKeepsLimits : Prop :=
  (∀ s t : State, LimitsOk s → step s = .next t → LimitsOk t)
    ∧ ∀ s t : State, JournalOk s → (∀ n, s.jc.serving ≠ some (.scanRead n)) → step s = .next t → JournalOk t

/-- The store leaves FAULT only at reset (R125). -/
def Obligations.FaultLastsUntilReset : Prop :=
  ∀ (c : Instr) (s t : State), s.jc.store = .fault → exec c s = .next t → t.jc.store = .fault ∨ IsReset s t

/-- The port serves the waiting access of the lowest class, within it the first to arrive (R112); an append access that is due is
issued and is among them (R116). An append is tested as it is served (R117): it is written with the next number and the append
period, or its record leaves the queue, its origin is answered, a claimed hold is ACTIVE again (R39, R46), and the next access
is served. The tests, in order: store state, journal room (R119), a movement's admission (R79) and a VOID's period; a merchant
state request's From states (R75); a CUTOFF's close state with its three reasons (R92).
That the accesses issued by the completing event take part in the choice is the model's choice (log 7), and so is CLAMPED clear on a refusal (log 31). -/
def Obligations.PortServesLowestClass : Prop :=
  let due (s : State) : Prop :=
    s.jc.appendQueue ≠ [] ∧ s.jc.appendIssued = false ∧ s.jc.pendingCount < 32 ∧ s.jc.store = .normal
  (∀ s : State, (due s → portNext 2 s
        = portNext 2 { s with jc := { s.jc with appendIssued := true, waiting := s.jc.waiting ++ [.append] } })
      ∧ (¬due s → s.jc.waiting = [] → portNext 2 s = { s with jc := { s.jc with serving := none } }))
  ∧ (∀ (s : State) (op : PortOp) (pre post : List PortOp), ¬due s → s.jc.waiting = pre ++ op :: post →
      (∀ x ∈ pre, op.cls < x.cls) → (∀ x ∈ post, op.cls ≤ x.cls) →
      let serves (op : PortOp) : State := { s with jc := { s.jc with serving := some op, waiting := pre ++ post } }
      (op ≠ .append → portNext 2 s = serves op)
        ∧ ∀ item rest, op = .append → s.jc.appendQueue = item :: rest →
          (appendTest s item = none → portNext 2 s = serves (.appendWrite (itemBody item s.jc.next s.jc.appendPeriod)))
            ∧ ∀ st reason figures, appendTest s item = some (st, reason, figures) →
              let u := serves .append
              portNext 2 s = portNext 2 (refuseItem item st reason figures 0
                { u with jc := { u.jc with appendQueue := rest, appendIssued := false } }))
  ∧ (∀ s : State,
      let full : Prop := 4096 ≤ s.jc.untaken ∨ 281474976710655 ≤ s.jc.next
      (∀ item, s.jc.store = .fault → appendTest s item = some (.storeFault, 0, []))
        ∧ (∀ k m, s.jc.store = .normal →
          let st := (s.admission m.req.merchant).state
          let admitted : Prop := m.req.merchant = 0 ∨ st = .active
            ∨ (st = .suspended ∧ (m.kind = .capture ∨ m.kind = .void ∨ m.kind = .refund))
          let late : Prop := m.kind = .void ∧ m.capturePeriod ≠ s.jc.appendPeriod
          (full → appendTest s (.movement k m) = some (.journalFull, 0, []))
            ∧ (¬full → ¬admitted → appendTest s (.movement k m) = some (.merchantState, 0, []))
            ∧ (¬full → admitted → late → appendTest s (.movement k m) = some (.voidTooLate, 0, []))
            ∧ (¬full → admitted → ¬late → appendTest s (.movement k m) = none))
        ∧ (∀ tag k m, s.jc.store = .normal →
          let st := (s.admission m).state
          let fits : Prop := (k = .suspend ∧ st = .active) ∨ (k = .resume ∧ st = .suspended)
            ∨ (k = .close ∧ (st = .active ∨ st = .suspended))
          (full → appendTest s (.admin tag k m) = some (.journalFull, 0, []))
            ∧ (¬full → ¬fits → appendTest s (.admin tag k m) = some (.merchantState, 0, []))
            ∧ (¬full → fits → appendTest s (.admin tag k m) = none))
        ∧ ∀ tag, s.jc.store = .normal →
          let p := s.jc.appendPeriod
          let a := s.mau.copy.accrued
          let refused (reason : Nat) : Prop := appendTest s (.cutoff tag)
            = some (.closeRefused, reason, fig 4 p ++ fig 4 a ++ fig 1 s.pcu.state.code)
          let room : Prop := s.jc.untaken < 4096 ∧ s.jc.next ≤ 281474976710655
          (¬room → appendTest s (.cutoff tag) = some (.journalFull, 0, []))
            ∧ (room → s.pcu.state ≠ .empty → refused 32) ∧ (room → s.pcu.state = .empty → a < p → refused 33)
            ∧ (room → s.pcu.state = .empty → p ≤ a → p = 4294967295 → refused 34)
            ∧ (room → s.pcu.state = .empty → p ≤ a → p ≠ 4294967295 → appendTest s (.cutoff tag) = none))
  ∧ ∀ (st : Status) (reason j : Nat) (figures : List Byte) (s : State),
      (∀ tag k m, refuseItem (.admin tag k m) st reason figures j s = sendLink tag (plainReply k.code st reason figures) s)
        ∧ (∀ tag, refuseItem (.cutoff tag) st reason figures j s = sendLink tag (plainReply 0x13 st reason figures) s)
        ∧ ∀ k m, let req := m.req
          let named (x : Hold) : Bool := x.card == req.card && x.slot == req.slot && (x.epoch == req.epoch && x.serial == req.serial)
          let r : Reply := { kind := req.kind.code, status := st, reason := reason, figures := fig 4 req.card ++ figures, journal := j }
          (m.kind ≠ .capture → refuseItem (.movement k m) st reason figures j s = answerOwner k req r s)
            ∧ (m.kind = .capture → refuseItem (.movement k m) st reason figures j s = answerOwner k req r { s with
                ht := { s.ht with holds := s.ht.holds.map fun x => if named x then { x with state := .active } else x } })

/-! ### Encodings -/

/-- The receiver reads every host frame back: the frame of a command within the length limit is that command (R157, R158,
R177). -/
def Obligations.HostFramesReadBack : Prop :=
  ∀ (c : Instr) (kind : Nat) (tag : Byte) (body : List Byte), c.wf = true → hostParts c = some (kind, tag, body) →
    frameCommand (hostFrame kind tag.toNat body) = some c

/-- A line controller hears the frames of R183: a PASS, and a REQUEST with its kind and body. -/
def Obligations.TillAnswersReadBack : Prop :=
  ∀ (x : Station) (kind : Byte) (body : List Byte), x.merchant < 256 → x.lane < 256 → body.length < 240 →
    hear x (tillFrame x.merchant x.lane kindPass []) = .good .pass
      ∧ hear x (tillFrame x.merchant x.lane kindRequest (kind :: body)) = .good (.request kind body)

/-- A card record is read back as written (R10, R11). -/
def Obligations.CardRecordsReadBack : Prop :=
  ∀ r : CardRec, r.state ≠ .blank → 1 ≤ r.number → r.number < 256 ^ 4 → r.paid ≤ 9999999 → r.bonus ≤ 9999999 →
    r.lastJournal < 256 ^ 6 → r.activation < 256 ^ 4 → r.lastPeriod < 256 ^ 4 → r.count < 256 ^ 2 →
    r.bytes.length = 32 ∧ readCard r.bytes = some r

/-- Records of settlement memory are read back as written: the body of a journal slot, which is PENDING until its commit part is
written (R114, R180), the totals record (R131), a merchant record with its bank and last result (R69, R70, R97), and the
configuration records (R3, R71, R110, R143). -/
def Obligations.BookRecordsReadBack : Prop :=
  (∀ (b : JBody) (d : Int) (rem : Nat), b.number < 256 ^ 6 → b.newState < 256 → b.period < 256 ^ 4 → b.merchant < 256 →
    b.reqKind < 256 → b.card < 256 ^ 4 → b.slot < 256 ^ 3 → b.amount < 256 ^ 3 →
    fitsSigned 4 b.paidDelta = true → fitsSigned 4 b.bonusDelta = true → b.ref < 256 ^ 6 → b.imagePaid < 256 ^ 3 →
    b.imageBonus < 256 ^ 3 → b.imageActivation < 256 ^ 4 → b.imageCount < 256 ^ 2 →
    (match b.origin with | .station l e => l < 255 ∧ e < 256 | .link t => t < 256) →
    b.slotBytes.length = 64 ∧ readBody b.slotBytes = some b ∧ isCommitted b.slotBytes = false
      ∧ isCommitted (b.bytes ++ commitBytes d rem) = true ∧ readBody (b.bytes ++ commitBytes d rem) = some b)
    ∧ (∀ t : Totals, t.mark < 256 ^ 4 → t.capacity < 256 ^ 3 → t.epoch < 256 → t.accrued < 256 ^ 4 → t.released < 256 ^ 4 →
      t.oldest < 256 ^ 6 → t.lastApplied < 256 ^ 6 → totalsFit t = true →
      t.bytes.length = 64 ∧ recordOk t.bytes = true ∧ totalsFields t.bytes = t)
    ∧ (∀ r : MerchantRec, r.merchant < 256 → r.cls < 8 → r.group < 8 → fitsSigned 6 r.carry = true → r.lastApplied < 256 ^ 6 →
      r.lastClosed < 256 ^ 4 → bankFits r.bank = true → r.bank.captures < 256 ^ 4 → r.bank.voids < 256 ^ 4 →
      r.bank.refunds < 256 ^ 4 → r.bank.sales < 256 ^ 4 → r.bank.rho < 256 ^ 2 →
      (∀ p, r.lastResult = some p → p.merchant < 256 ∧ p.group < 8 ∧ p.period < 256 ^ 4 ∧ p.captures < 256 ^ 4
        ∧ p.voids < 256 ^ 4 ∧ p.refunds < 256 ^ 4 ∧ p.sales < 256 ^ 4
        ∧ ∀ x ∈ [p.g, p.bf, p.v, p.f, p.s, p.c, p.x, p.carryBefore, p.n, p.payout, p.carryAfter], fitsSigned 6 x = true) →
      r.bytes.length = 256 ∧ readMerchant r.bytes = some r)
    ∧ ∀ i : ConfigItem,
      (match i with
        | .window k w => k < 8 ∧ w.low < 256 ^ 4 ∧ w.high < 256 ^ 4 ∧ w.base < 256 ^ 3 ∧ w.maxBalance < 256 ^ 3
            ∧ w.bonusRate < 256 ^ 2 ∧ w.bonusThreshold < 256 ^ 3 ∧ w.bonusCap < 256 ^ 3 ∧ w.lifetime < 256 ^ 2 ∧ w.groupMask < 256
        | .tariff c t => c < 8 ∧ t.rate < 256 ^ 2 ∧ t.fee < 256 ^ 2 ∧ t.cap < 256 ^ 3
        | .line n c => n < 4 ∧ c.rate < 4 ∧ c.window < 256
        | .station n e m lane _ => n < 4 ∧ e < 48 ∧ m < 256 ∧ lane < 256) →
      i.bytes.length = 32 ∧ readItem i.index i.bytes = some i

/-! ### Arithmetic of the rules -/

/-- The commission step rounds toward minus infinity, leaves a remainder of 0 to 9,999 and loses nothing (R85); recovery finds
the same delta again (R87). -/
def Obligations.CommissionStepIsExact : Prop :=
  ∀ (rho amount rate : Nat) (sign : Int), rho < 10000 → (sign = 1 ∨ sign = -1) →
    let p := commissionStep rho sign amount rate
    p.1 * 10000 + p.2 = rho + sign * (amount * rate) ∧ p.2 < 10000 ∧ recoveredDelta p.2 sign amount rate = p.1

/-- The payout record of merchant m for period p (R97): it carries the record's bank and carry, the net N, and by the state and N
the payout, the carry after and the status of R97's table, row by row. In every record of the table the payout is 0 or above,
payout and carry after sum to N and are never both non-zero. The walk writes the carry after and the record into the merchant
record (R98). -/
def Obligations.PayoutSplitsTheNet : Prop :=
  ∀ (m p : Nat) (r : MerchantRec),
    let k := r.bank
    let n := k.g - k.v - k.f - k.s - k.c - k.x + r.carry
    let pay := payoutOf m p r
    let row (payout after : Int) (st : PayStatus) : Prop :=
      pay = { merchant := m, group := r.group, period := p, state := r.state, g := k.g, captures := k.captures, bf := k.bf, v := k.v,
              voids := k.voids, f := k.f, refunds := k.refunds, s := k.s, sales := k.sales, c := k.c, x := k.x,
              carryBefore := r.carry, n := n, payout := payout, carryAfter := after, status := st }
        ∧ settle r.state n = (payout, after, st)
    (r.state = .active → 0 < n → row n 0 .paid)
      ∧ (r.state = .active → n = 0 → row 0 0 .nil)
      ∧ (r.state = .active → n < 0 → row 0 n .debt)
      ∧ (r.state = .suspended → row 0 n .withheld)
      ∧ (r.state = .closing → 0 ≤ n → row n 0 .final)
      ∧ (r.state = .closing → n < 0 → row 0 n .finalDebt)
      ∧ (r.state = .active ∨ r.state = .suspended ∨ r.state = .closing →
          0 ≤ pay.payout ∧ pay.payout + pay.carryAfter = pay.n ∧ (pay.payout = 0 ∨ pay.carryAfter = 0))
      ∧ closedRecord p r pay = { r with carry := pay.carryAfter, lastClosed := p, bank := bankReset, lastResult := some pay
                                        state := if r.state = .closing then .closed else r.state }

/-- An amount within the two purses is split so that each gives no more than it has, the purse spent first as much as it can
(R18). The bonus of a sale is the uncapped one or the room that is left, and never takes the card above the max balance
(R19). Where the parts of a card's holds lie within its purses, they do so after every decision: a hold's new parts with those
there, the purses a movement leaves, and a capture's purses without its hold (R27). -/
def Obligations.PurseAndBonusRules : Prop :=
  (∀ (order : PurseOrder) (a paid bonus : Nat), a ≤ paid + bonus →
    let p := splitPurses order a paid bonus
    p.1 + p.2 = a ∧ p.1 ≤ paid ∧ p.2 ≤ bonus ∧ (order = .paidFirst → p.1 = min a paid) ∧ (order = .bonusFirst → p.2 = min a bonus))
    ∧ (∀ (w : Window) (a paidAfter bonusBefore : Nat), paidAfter + bonusBefore ≤ w.maxBalance →
      let b := bonusGiven w a paidAfter bonusBefore
      paidAfter + bonusBefore + b.1 ≤ w.maxBalance
        ∧ (a < w.bonusThreshold → b = (0, false))
        ∧ (w.bonusThreshold ≤ a → paidAfter + bonusBefore + min (a * w.bonusRate / 10000) w.bonusCap ≤ w.maxBalance →
            b = (min (a * w.bonusRate / 10000) w.bonusCap, false))
        ∧ (w.bonusThreshold ≤ a → w.maxBalance < paidAfter + bonusBefore + min (a * w.bonusRate / 10000) w.bonusCap →
            b = (w.maxBalance - (paidAfter + bonusBefore), true)))
    ∧ ∀ (s : State) (w : Window) (req : CardReq) (r : CardRec), (r.state = .blank → r.paid = 0 ∧ r.bonus = 0) →
      let chain := s.ht.holds.filter fun x => x.card == req.card && x.slot == req.slot
      let within (hs : List Hold) (paid bonus : Nat) : Prop := (hs.map Hold.paid).sum ≤ paid ∧ (hs.map Hold.bonus).sum ≤ bonus
      within chain r.paid r.bonus →
        (∀ p, decideHold s w req r = .enter p →
            (chain.map Hold.paid).sum + p.paid ≤ r.paid ∧ (chain.map Hold.bonus).sum + p.bonus ≤ r.bonus)
          ∧ (∀ v m, v ∈ [decideActivate s w req r, decideLoad s w req r, decideRedeem s w req r, decideLate s w req r,
                decideVoid s w req r, decideRefund s w req r, decideCashOut s w req r, decideBlock req r, decideUnblock req r] →
              v = .move m → within chain m.paid m.bonus)
          ∧ ∀ h ∈ chain, h.paid + h.bonus = h.held → req.amount ≤ h.held →
              let m := captureMovement w req r h
              within (chain.filter fun x => !(x.epoch == h.epoch && x.serial == h.serial)) m.paid m.bonus

/-! ### Answers -/

/-- A reply goes to its origin (R152, R161): a link's joins the outbound queue behind the others, and begins at once on an idle
transmitter with NOTICES-PENDING as the notice set stands; a station's is held, or discarded with REPLY-DISCARDED in FAULTY
and DISABLED. Then the owner's lock passes to its oldest waiter, whose card is read, or is freed (R23, R24).
The outbound queue holds the frame on TXD as its head (log 15). -/
def Obligations.AnswersReachTheirOrigin : Prop :=
  (∀ (tag : Nat) (r : Reply) (s : State), ∃ f : OutFrame, f.kind = replyKind r.kind ∧ f.tag = tag ∧ f.reply = r
      ∧ f.tagged = true ∧ f.resets = false ∧ f.begun = decide (s.hlp.outbound = [])
      ∧ (s.hlp.outbound = [] → f.noticesPending = decide (s.hlp.notices ≠ {}))
      ∧ sendReply (.link tag) r s = { s with hlp := { s.hlp with outbound := s.hlp.outbound ++ [f] } })
    ∧ (∀ (n e : Nat) (r : Reply) (s : State), n < 4 → e < 48 →
      let x := s.station n e
      (x.state ≠ .faulty → x.state ≠ .disabled →
          sendReply (.station n e) r s = s.setStation n e { x with held := some r })
        ∧ (x.state = .faulty ∨ x.state = .disabled →
          let t := s.setStation n e { x with held := none, outstanding := false }
          sendReply (.station n e) r s = { t with hlp := { t.hlp with
            notices := { t.hlp.notices with replyDiscarded := some { line := n, entry := e, journal := r.journal, count :=
              match s.hlp.notices.replyDiscarded with | some d => (if d.count < 255 then d.count + 1 else d.count) | none => 1 } }
            attnLow := s.hlp.attnLow || decide (s.jc.phase ≠ .startup) } }))
    ∧ ∀ (k : Nat) (req : CardReq) (r : Reply) (l : LockSlot) (s : State), k < 16 → s.lock k = some l →
      (l.waiters = [] → answerOwner k req r s = (sendReply req.origin r s).setLock k none)
        ∧ ∀ w ws, l.waiters = w :: ws → answerOwner k req r s = issue (.cardRead k w.slot)
            ((sendReply req.origin r s).setLock k (some { card := w.card, owner := w, waiters := ws, doing := .reading }))

/-! ### Reset and the link -/

/-- A reset gives every block its reset value and keeps the memory but for the record whose write it cuts off, which is left
written, unwritten, or torn so that its check fails (R110, R112, R113, R168).
Which of the three contents a cut-off record has is an operand of the event, and torn bytes that pass the check count as unwritten (log 8). -/
def Obligations.ResetCommand : Prop :=
  ∀ (cause : PowerCause) (straps : BitVec 2) (left : Residue) (s : State), ∃ t : State,
    exec (.reset cause straps left) s = .next t
      ∧ t = resetWith (match cause with | .powerOn => .powerOn | .resetPin => .resetPin) straps t.mem s.pending
      ∧ (s.jc.serving = none → t.mem = s.mem)
      ∧ (∀ op, s.jc.serving = some op → op.write? = none → t.mem = s.mem)
      ∧ ∀ op a bs ok, s.jc.serving = some op → op.write? = some (a, bs, ok) →
          t.mem = s.mem ∨ t.mem = Memory.writeMany s.mem a bs
            ∨ ∃ bad, bad.length = bs.length ∧ ok bad = false ∧ t.mem = Memory.writeMany s.mem a bad

/-- A frame rejected for its length or check, and a frame broken off by a gap, are answered FRAME-REJECTED with tag 0 while
fewer than 8 such replies wait, and discarded with no reply when 8 wait; nothing else changes (R158, R161). -/
def Obligations.RejectedFramesAreAnswered : Prop :=
  ∀ (bytes : List Byte) (s : State) (reason : Nat), s.hlp.deaf = false →
    let hunting : State := { s with hlp := { s.hlp with inbound := [] } }
    let answered (reason : Nat) : State :=
      if (s.hlp.outbound.filter fun f => !f.tagged).length < 8 then
        pushFrame { kind := 0xFF, tag := 0, reply := plainReply 0x7F .badRequest reason, tagged := false } hunting
      else hunting
    (receive (s.hlp.inbound ++ bytes) = .rejected reason → exec (.frameRejected bytes) s = .next (answered reason))
      ∧ (receive (s.hlp.inbound ++ bytes) = .partialFrame → exec (.receiveGapExpiry bytes) s = .next (answered 6))

/-- The last byte of a reply frame is sent: its tag leaves the in-flight table and the next frame begins with NOTICES-PENDING
sampled (R161). The frame of a RESTART or of a FORMAT done in FAULT resets the part with cause RESTART and the straps as they
stand (R167, R172): the memory stays but for the record whose write the reset cuts off, which is left as the event's operand
says, written, unwritten, or torn so that its check fails (R110, R113). With no frame on TXD nothing changes.
NOTICES-PENDING is sampled in the order of events (log 15). The straps sampled are those of the last reset (log 2), and torn bytes that pass the check count as unwritten (log 8): the model's choices. -/
def Obligations.ReplyFrameSent : Prop :=
  ∀ (left : Residue) (s : State),
    (s.hlp.outbound = [] → exec (.replyFrameSent left) s = .next s)
    ∧ ∀ (f : OutFrame) (rest : List OutFrame), s.hlp.outbound = f :: rest →
    (f.resets = false → exec (.replyFrameSent left) s = .next { s with hlp := { s.hlp with
        outbound := (match rest with
          | [] => []
          | g :: gs => { g with begun := true, noticesPending := decide (s.hlp.notices ≠ {}) } :: gs)
        inFlight := if f.tagged then s.hlp.inFlight.filter (fun t => t != f.tag) else s.hlp.inFlight } })
      ∧ (f.resets = true →
        let resets (mem : List Host.Cell) : Prop :=
          exec (.replyFrameSent left) s = .next (resetWith .restart s.hlp.straps mem s.pending)
        (s.jc.serving = none → resets s.mem)
          ∧ (∀ op, s.jc.serving = some op → op.write? = none → resets s.mem)
          ∧ ∀ op a bs ok, s.jc.serving = some op → op.write? = some (a, bs, ok) →
            (left = .written → resets (Memory.writeMany s.mem a bs)) ∧ (left = .unwritten → resets s.mem)
              ∧ ∀ bad, left = .torn bad →
                (bad.length = bs.length → ok bad = false → resets (Memory.writeMany s.mem a bad))
                  ∧ (bad.length ≠ bs.length ∨ ok bad = true → resets s.mem))

/-- A frame whose kind byte names no request kind is refused BAD-REQUEST with reason FIELD, reply kind 0xFE and its tag, and
takes its tag into flight (R160, R161). -/
def Obligations.UnknownKindIsRefused : Prop :=
  ∀ (kind tag : Byte) (body : List Byte) (s : State), bodyLength? kind.toNat = none → TagFree tag s →
    exec (.noRequestKindFrame kind tag body) s
      = .next (pushFrame { kind := 0xFE, tag := tag.toNat, reply := plainReply kind.toNat .badRequest 1, tagged := true }
          (taken tag s))

/-- The tag test of every request: tag 0 is refused BAD-REQUEST with reason TAG-ZERO, a tag in flight BAD-REQUEST with reason
DUPLICATE-TAG, and a ninth request BUSY, each without taking a tag (R159).
The figures of a refusal are the card number the body carries, none of a body of wrong length (log 11). -/
def Obligations.TagTestRefusals : Prop :=
  ∀ (kind : Nat) (tag : Byte) (body : List Byte) (c : Instr) (s : State), requestOf kind tag body = some c →
    s.hlp.deaf = false →
    let hunting : State := { s with hlp := { s.hlp with inbound := [] } }
    let refused (st : Status) (reason : Nat) : State :=
      sendUntagged (kind + 0x80) tag.toNat (plainReply kind st reason (carriedCard kind body)) hunting
    (tag.toNat = 0 → exec c s = .next (refused .badRequest 2))
      ∧ (tag.toNat ≠ 0 → tag.toNat ∈ s.hlp.inFlight → exec c s = .next (refused .badRequest 3))
      ∧ (tag.toNat ≠ 0 → tag.toNat ∉ s.hlp.inFlight → 8 ≤ s.hlp.inFlight.length → exec c s = .next (refused .busy 0))

/-- The field check and the phase check of every request under a free tag (R160, R176): a body that fails its kind's field check
is refused BAD-REQUEST with reason FIELD in every phase; a good one is refused BUSY while start-up runs (R130), but for
SET-TIME, and while FORMAT runs, but for SET-TIME, PART-STATUS and TAKE-NOTICES; else NOT-IN-PHASE or CONFIG-REFUSED by the
phase table, with reason IN-SERVICE, or ALREADY-OPEN for an OPEN-SERVICE (R170, R179). A refusal changes nothing else.
The figures of a refusal are the card number the body carries, none of a body of wrong length (log 11), no figure names the field that failed (log 36), and a refusal by phase carries no item (log 10). -/
def Obligations.StartUpAnswersBusy : Prop :=
  ∀ (kind : Nat) (tag : Byte) (body : List Byte) (c : Instr) (s : State), requestOf kind tag body = some c → TagFree tag s →
    let refused (st : Status) (reason : Nat) : Prop :=
      exec c s = .next (sendLink tag.toNat (plainReply kind st reason (carriedCard kind body)) (taken tag s))
    let good := goodFields kind tag body = true
    let outside : Prop := s.jc.phase = .unformatted ∨ s.jc.phase = .setup
    (goodFields kind tag body = false → refused .badRequest 1)
      ∧ (good → s.jc.phase = .startup → kind ≠ 0x32 → refused .busy 0)
      ∧ (good → outside → s.jc.format ≠ none → kind ∉ [0x30, 0x31, 0x32] → refused .busy 0)
      ∧ (good → s.jc.phase = .unformatted → s.jc.format = none → kind ∉ [0x30, 0x31, 0x32, 0x33, 0x38] → refused .notInPhase 0)
      ∧ (good → s.jc.phase = .setup → s.jc.format = none →
          (kind ≤ 0x0C ∨ kind ∈ [0x10, 0x11, 0x12, 0x13, 0x20, 0x28, 0x29]) → refused .notInPhase 0)
      ∧ (good → s.jc.phase = .service → kind ∈ [0x38, 0x39, 0x3A, 0x3B, 0x3C, 0x3D] → refused .configRefused 25)
      ∧ (good → s.jc.phase = .service → kind = 0x3E → refused .configRefused 23)

/-! ### Card requests -/

/-- A card request of the link whose card no slot locks, in an enabled window, becomes owner of the lowest-numbered free slot
and its card is read; nothing else changes (R6, R7, R20, R21, R23). -/
def Obligations.CardRequestTakesLock : Prop :=
  ∀ (k : CardKind) (tag : Byte) (body : List Byte) (req : CardReq) (w i : Nat) (s : State),
    Admits .trade tag s → cardRequest? k (.link tag.toNat) body = some req →
    w < 8 → (s.window w).enabled = true → (s.window w).low ≤ req.card → req.card ≤ (s.window w).high →
    (∀ v, v < w → ¬((s.window v).enabled = true ∧ (s.window v).low ≤ req.card ∧ req.card ≤ (s.window v).high)) →
    (∀ j l, j < 16 → s.lock j = some l → l.card ≠ req.card) →
    i < 16 → s.lock i = none → (∀ j, j < i → s.lock j ≠ none) →
    let own := { req with window := w, slot := (s.window w).base + (req.card - (s.window w).low) }
    exec (cardCommand k tag body) s
      = .next (issue (.cardRead i own.slot)
          ((taken tag s).setLock i (some { card := req.card, owner := own, waiters := [], doing := .reading })))

/-- A card request for a locked card joins the tail of the slot's waiters, or is refused BUSY when 6 wait; a card in no
enabled window is refused UNKNOWN-CARD; with every slot taken by other cards it is refused BUSY (R6, R21). One whose fields
fail the check is refused BAD-REQUEST with reason FIELD (R45, R160).
The figures of a BAD-REQUEST are the card number the body carries, none of a body of wrong length (log 11), and no figure names the field that failed (log 36). -/
def Obligations.CardRequestWaitsOrIsRefused : Prop :=
  (∀ (k : CardKind) (tag : Byte) (body : List Byte) (s : State), TagFree tag s →
    cardRequest? k (.link tag.toNat) body = none →
    exec (cardCommand k tag body) s
      = .next (sendLink tag.toNat (plainReply k.code .badRequest 1 (carriedCard k.code body)) (taken tag s)))
  ∧ ∀ (k : CardKind) (tag : Byte) (body : List Byte) (req : CardReq) (s : State),
    Admits .trade tag s → cardRequest? k (.link tag.toNat) body = some req →
    let c := cardCommand k tag body
    let refused (st : Status) : State := sendLink tag.toNat (plainReply k.code st 0 (fig 4 req.card)) (taken tag s)
    ((∀ v, v < 8 → ¬((s.window v).enabled = true ∧ (s.window v).low ≤ req.card ∧ req.card ≤ (s.window v).high)) →
        exec c s = .next (refused .unknownCard))
      ∧ ∀ w, w < 8 → (s.window w).enabled = true → (s.window w).low ≤ req.card → req.card ≤ (s.window w).high →
          (∀ v, v < w → ¬((s.window v).enabled = true ∧ (s.window v).low ≤ req.card ∧ req.card ≤ (s.window v).high)) →
          let own := { req with window := w, slot := (s.window w).base + (req.card - (s.window w).low) }
          (∀ i l, i < 16 → s.lock i = some l → l.card = req.card →
              (∀ j m, j < i → s.lock j = some m → m.card ≠ req.card) →
              (l.waiters.length < 6 → exec c s
                  = .next ((taken tag s).setLock i (some { l with waiters := l.waiters ++ [own] })))
                ∧ (6 ≤ l.waiters.length → exec c s = .next (refused .busy)))
            ∧ ((∀ i, i < 16 → ∃ l, s.lock i = some l ∧ l.card ≠ req.card) → exec c s = .next (refused .busy))

/-! ### Requests that join the append queue -/

/-- SUSPEND-, RESUME- and CLOSE-MERCHANT and CUTOFF join the append queue, their append access issued at once when it is due
(R116), or are refused STORE-FAULT in store FAULT; nothing else changes (R75, R91, R126). -/
def Obligations.BookRequestsJoinAppendQueue : Prop :=
  ∀ (k : AdminKind) (tag : Byte) (body : List Byte) (m : Nat) (s : State), Admits .trade tag s →
    body = [byteOf m] → 1 ≤ m → m ≤ 240 →
    let u := taken tag s
    (s.jc.store = .normal →
        exec (adminCommand k tag body) s = .next (queued (.admin tag.toNat k m) u)
          ∧ exec (.cutoff tag []) s = .next (queued (.cutoff tag.toNat) u))
      ∧ (s.jc.store = .fault →
        exec (adminCommand k tag body) s = .next (sendLink tag.toNat (plainReply k.code .storeFault) u)
          ∧ exec (.cutoff tag []) s = .next (sendLink tag.toNat (plainReply 0x13 .storeFault) u))

/-! ### Advice, the payout list, and the books -/

/-- TAKE-ADVICE with none before it reads from the oldest untaken number, answers OK with no record when there is none to
read, and is refused STORE-FAULT in store FAULT; behind another it waits, and is taken so in its turn (R123). -/
def Obligations.TakeAdviceIsServed : Prop :=
  (∀ (tag : Byte) (n : Nat) (s : State), Admits .books tag s → 1 ≤ n → n ≤ 3 →
    let u := taken tag s
    let free : State := { u with jc := { u.jc with advice := none, adviceWaiting := [] } }
    let c : Instr := .takeAdvice tag [byteOf n]
    (s.jc.advice = none →
        (s.jc.store = .normal → s.jc.oldest < s.jc.next →
            exec c s = .next (issue (.adviceRead s.jc.oldest) { u with jc := { u.jc with
              advice := some { tag := tag.toNat, count := n, u := s.jc.oldest, records := [] }, adviceWaiting := [] } }))
          ∧ (s.jc.store = .normal → s.jc.next ≤ s.jc.oldest →
            exec c s = .next (sendLink tag.toNat
              (plainReply 0x18 .ok 0 (fig 1 0 ++ fig 6 s.jc.oldest ++ fig 2 s.jc.untaken)) free))
          ∧ (s.jc.store = .fault → exec c s = .next (sendLink tag.toNat (plainReply 0x18 .storeFault) free)))
      ∧ (s.jc.advice ≠ none →
          exec c s = .next { u with jc := { u.jc with adviceWaiting := s.jc.adviceWaiting ++ [(tag.toNat, n)] } }))
  ∧ ∀ (tag n : Nat) (rest : List (Nat × Nat)) (s : State),
    runAdvice [] s = { s with jc := { s.jc with advice := none, adviceWaiting := [] } }
      ∧ (s.jc.store = .fault → runAdvice ((tag, n) :: rest) s = runAdvice rest (sendLink tag (plainReply 0x18 .storeFault) s))
      ∧ (s.jc.store = .normal → s.jc.next ≤ s.jc.oldest → runAdvice ((tag, n) :: rest) s = runAdvice rest (sendLink tag
          (plainReply 0x18 .ok 0 (fig 1 0 ++ fig 6 s.jc.oldest ++ fig 2 s.jc.untaken)) s))
      ∧ (s.jc.store = .normal → s.jc.oldest < s.jc.next → runAdvice ((tag, n) :: rest) s
          = issue (.adviceRead s.jc.oldest) { s with jc := { s.jc with
              advice := some { tag := tag, count := n, u := s.jc.oldest, records := [] }, adviceWaiting := rest } })

/-- READ-PAYOUT answers the entry at the cursor and moves it on, NOT-YET at the end of a BUILDING list, LIST-END at the end of
a COMPLETE one and on an EMPTY one (R104); nothing else changes. -/
def Obligations.ReadPayoutFollowsTheCursor : Prop :=
  ∀ (tag : Byte) (s : State), Admits .books tag s →
    let u := taken tag s
    let c : Instr := .readPayout tag []
    let answer (st : Status) (figures : List Byte) : State → State := sendLink tag.toNat (plainReply 0x19 st 0 figures)
    (∀ e, s.pcu.state ≠ .empty → s.pcu.entries[s.pcu.cursor]? = some e →
        exec c s = .next (answer .ok (fig 1 s.pcu.cursor ++ fig 1 e.kindCode ++ e.bytes)
          { u with pcu := { u.pcu with cursor := s.pcu.cursor + 1 } }))
      ∧ (s.pcu.state = .building → s.pcu.cursor = s.pcu.entries.length →
          exec c s = .next (answer .notYet (fig 1 s.pcu.entries.length) u))
      ∧ (s.pcu.state = .complete → s.pcu.cursor = s.pcu.entries.length →
          exec c s = .next (answer .listEnd (fig 1 s.pcu.entries.length ++ fig 4 s.pcu.period) u))
      ∧ (s.pcu.state = .empty → exec c s = .next (answer .listEnd (fig 1 0 ++ fig 4 s.mau.copy.released) u))

/-- REWIND-PAYOUT sets the cursor to 0 in every list state and answers the list state and the number of entries (R105). -/
def Obligations.RewindPayoutSetsCursor : Prop :=
  ∀ (tag : Byte) (s : State), Admits .books tag s →
    let u := taken tag s
    exec (.rewindPayout tag []) s
      = .next (sendLink tag.toNat (plainReply 0x1A .ok 0 (fig 1 s.pcu.state.code ++ fig 1 s.pcu.entries.length))
          { u with pcu := { u.pcu with cursor := 0 } })

/-- RELEASE-PAYOUT of a COMPLETE list with no totals write in progress puts the list's period into the released period and
writes the totals record; with one in progress its own write waits its turn, and the released period with it (R106, R131). Of
another list, or with a release in progress, it is refused CLOSE-REFUSED with reason LIST-STATE; in store FAULT it is refused
STORE-FAULT (R106).
That the list state is tested before store FAULT is the model's choice (log 33). -/
def Obligations.ReleasePayoutWritesTotals : Prop :=
  ∀ (tag : Byte) (s : State), Admits .books tag s →
    let u := taken tag s
    let c : Instr := .releasePayout tag []
    let job : TotalsJob := .release tag.toNat s.pcu.period
    (s.pcu.state = .complete → s.pcu.releasing = false → s.jc.store = .normal → s.mau.totalsBusy = none →
        let copy := { s.mau.copy with released := s.pcu.period }
        exec c s = .next (issue (.totalsWrite job copy s.mau.copy.released)
          { u with mau := { u.mau with copy := copy, totalsBusy := some job }, pcu := { u.pcu with releasing := true } }))
      ∧ (∀ other, s.pcu.state = .complete → s.pcu.releasing = false → s.jc.store = .normal → s.mau.totalsBusy = some other →
          exec c s = .next { u with mau := { u.mau with totalsDue := s.mau.totalsDue ++ [job] }
                                    pcu := { u.pcu with releasing := true } })
      ∧ (s.pcu.state = .complete → s.pcu.releasing = false → s.jc.store = .fault →
          exec c s = .next (sendLink tag.toNat (plainReply 0x1B .storeFault) u))
      ∧ (s.pcu.state ≠ .complete ∨ s.pcu.releasing = true →
          exec c s = .next (sendLink tag.toNat (plainReply 0x1B .closeRefused 35 (fig 1 s.pcu.state.code)) u))

/-- READ-TOTALS and MERCHANT-STATUS issue the read of their record and change nothing else (R90, R134). -/
def Obligations.BookReadsAreIssued : Prop :=
  ∀ (tag : Byte) (m : Nat) (s : State), Admits .books tag s → 1 ≤ m → m ≤ 240 →
    exec (.readTotals tag []) s = .next (issue (.totalsRead tag.toNat) (taken tag s))
      ∧ exec (.merchantStatus tag [byteOf m]) s = .next (issue (.statusRead tag.toNat m) (taken tag s))

/-! ### Sweep, stations, status -/

/-- START-SWEEP clears the sweep, sets it RUNNING and reads slot 1 unless a stale read is outstanding; a RUNNING sweep makes it
BUSY, store FAULT STORE-FAULT (R136). STOP-SWEEP aborts a RUNNING sweep with SWEEP-DONE ABORTED, or reports IDLE (R140). -/
def Obligations.SweepStartsAndStops : Prop :=
  ∀ (tag : Byte) (s : State),
    let u := taken tag s
    (Admits .trade tag s →
        let fresh : Asu := { s.asu with state := .running, cursor := 0, paid := 0, bonus := 0, unreadable := 0 }
        let ok := plainReply 0x20 .ok 0 (fig 3 s.mau.copy.capacity)
        (s.jc.store = .normal → s.asu.state = .idle → s.asu.outstanding = false →
            exec (.startSweep tag []) s
              = .next (sendLink tag.toNat ok (issue (.sweepRead 1) { u with asu := { fresh with outstanding := true } })))
          ∧ (s.jc.store = .normal → s.asu.state = .idle → s.asu.outstanding = true →
            exec (.startSweep tag []) s = .next (sendLink tag.toNat ok { u with asu := fresh }))
          ∧ (s.jc.store = .normal → s.asu.state = .running →
            exec (.startSweep tag []) s = .next (sendLink tag.toNat (plainReply 0x20 .busy) u))
          ∧ (s.jc.store = .fault →
            exec (.startSweep tag []) s = .next (sendLink tag.toNat (plainReply 0x20 .storeFault) u)))
      ∧ (Admits .books tag s →
        (s.asu.state = .running → ∃ t, exec (.stopSweep tag []) s = .next t
            ∧ t.asu = { s.asu with state := .idle, stale := s.asu.stale || s.asu.outstanding }
            ∧ t.hlp.notices = { s.hlp.notices with sweepDone := some {
                outcome := .aborted, paid := s.asu.paid, bonus := s.asu.bonus, expectedPaid := 0, expectedBonus := 0,
                slots := s.asu.cursor, unreadable := s.asu.unreadable } }
            ∧ (t.hlp.outbound.getLast?.map OutFrame.reply) = some (plainReply 0x21 .ok 0 (fig 1 1 ++ fig 3 s.asu.cursor))
            ∧ (t.mem, t.lines, t.windows, t.ce, t.ht, t.jc, t.mau, t.pcu)
                = (s.mem, s.lines, s.windows, s.ce, s.ht, s.jc, s.mau, s.pcu))
          ∧ (s.asu.state = .idle →
            exec (.stopSweep tag []) s = .next (sendLink tag.toNat (plainReply 0x21 .ok 0 (fig 1 0)) u)))

/-- ENABLE-STATION leaves an ABSENT, PRESENT or SILENT entry as it is, and makes a DISABLED or FAULTY one whose merchant may
trade and whose identity no other entry in use holds ABSENT with misses and bad answers 0 (R154).
That a refusal carries no item figure is the model's choice (log 10). -/
def Obligations.EnableStation : Prop :=
  ∀ (tag : Byte) (n e : Nat) (s : State), Admits .trade tag s → n < 4 → e < 48 →
    let u := taken tag s
    let x := s.station n e
    let c : Instr := .enableStation tag [byteOf n, byteOf e]
    let reply (before after : StationState) : Reply := plainReply 0x28 .ok 0 (fig 1 before.code ++ fig 1 after.code)
    (x.state = .absent ∨ x.state = .present ∨ x.state = .silent →
        exec c s = .next (sendLink tag.toNat (reply x.state x.state) u))
      ∧ (x.state = .disabled ∨ x.state = .faulty →
          let trades : Prop := 1 ≤ x.merchant ∧ x.merchant ≤ 240 ∧ (s.admission x.merchant).state ≠ .unconfigured
            ∧ (s.admission x.merchant).state ≠ .closed
          let other (n' e' : Nat) : Prop := n' < 4 ∧ e' < 48 ∧ (n', e') ≠ (n, e) ∧ (s.station n' e').state ≠ .disabled
            ∧ (s.station n' e').merchant = x.merchant ∧ (s.station n' e').lane = x.lane
          (trades → (∀ n' e', ¬other n' e') → exec c s = .next (sendLink tag.toNat (reply x.state .absent)
              (u.setStation n e { x with state := .absent, misses := 0, bad := 0 })))
            ∧ (¬trades → exec c s = .next (sendLink tag.toNat (plainReply 0x28 .configRefused 21) u))
            ∧ (∀ n' e', trades → other n' e' →
                exec c s = .next (sendLink tag.toNat (plainReply 0x28 .configRefused 22) u)))

/-- DISABLE-STATION makes the entry DISABLED from any state; a held reply is discarded, its flag cleared and REPLY-DISCARDED
raised; no other entry changes (R152, R154).
An answer heard to the offer in progress is dropped (log 17). -/
def Obligations.DisableStation : Prop :=
  ∀ (tag : Byte) (n e : Nat) (s : State), Admits .trade tag s → n < 4 → e < 48 →
    let x := s.station n e
    ∃ t, exec (.disableStation tag [byteOf n, byteOf e]) s = .next t
      ∧ t.station n e = { x with state := .disabled, held := none, outstanding := x.outstanding && x.held.isNone }
      ∧ (∀ n' e', n' < 4 → e' < 48 → (n', e') ≠ (n, e) → t.station n' e' = s.station n' e')
      ∧ (x.held = none → t.hlp.notices = s.hlp.notices)
      ∧ (∀ r, x.held = some r → ∃ d, t.hlp.notices = { s.hlp.notices with replyDiscarded := some d } ∧ d.line = n ∧ d.entry = e
          ∧ d.journal = r.journal)
      ∧ ((s.line n).offered = some e → (t.line n).dropAnswer = true)
      ∧ (t.hlp.outbound.getLast?.map OutFrame.reply) = some (plainReply 0x29 .ok 0 (fig 1 x.state.code))
      ∧ (t.mem, t.windows, t.ce, t.ht, t.jc, t.mau, t.pcu, t.asu)
          = (s.mem, s.windows, s.ce, s.ht, s.jc, s.mau, s.pcu, s.asu)

/-- CLEAR-STATION-COUNTS sets the four counts of the entry to 0 and leaves its state, flag and held reply (R154). LINE-STATUS of
an entry and PART-STATUS answer OK and change nothing but the reply's queue; the figures of LINE-STATUS are the line's and
the entry's, and WEAKEST selects the PRESENT or SILENT entry of the lowest run counter, on a tie the lowest-numbered, or none
(R155); those of PART-STATUS are the 57 bytes of R165's table.
The widths and the order of the figures follow R176 to R179 where the rule gives none, and with no entry selected the station figures are zeros (log 10); they are of one state (log 35). -/
def Obligations.CountsAndStatusRequests : Prop :=
  ∀ (tag : Byte) (n e : Nat) (s : State), n < 4 → e < 48 →
    (Admits .books tag s →
        let l := s.line n
        let x := s.station n
        let entry (e : Nat) : List Byte := fig 1 e ++ fig 1 (x e).merchant ++ fig 1 (x e).lane ++ flagByte (x e).enabled
          ++ fig 1 (x e).state.code ++ fig 1 (x e).misses ++ fig 1 (x e).bad ++ fig 2 (x e).run ++ fig 1 (x e).errors
          ++ flagByte (x e).outstanding ++ flagByte (x e).held.isSome
        let status (selector : Nat) (station : List Byte) : Prop := exec (.lineStatus tag [byteOf n, byteOf selector]) s
          = .next (sendLink tag.toNat (plainReply 0x2B .ok 0 (fig 1 l.state.code ++ fig 1 l.copy.rate ++ fig 1 l.copy.window
              ++ flagByte l.copy.enabled ++ fig 2 l.round ++ station)) (taken tag s))
        let counts (i : Nat) : Prop := (x i).state = .present ∨ (x i).state = .silent
        exec (.clearStationCounts tag [byteOf n, byteOf e]) s
            = .next (sendLink tag.toNat (plainReply 0x2A .ok)
                ((taken tag s).setStation n e { x e with misses := 0, bad := 0, run := 0, errors := 0 }))
          ∧ status e (entry e)
          ∧ (counts e → (∀ i, i < e → counts i → (x e).run < (x i).run) →
              (∀ i, e < i → i < 48 → counts i → (x e).run ≤ (x i).run) → status 0xFF (entry e))
          ∧ ((∀ i, i < 48 → ¬counts i) → status 0xFF (List.replicate 12 0)))
      ∧ (Admits .status tag s →
        let locks := (List.range 16).filterMap s.lock
        let format : Nat × Nat := match s.jc.format with | some job => (job.stage, job.written) | none => (0, 0)
        let phase : Nat := if s.jc.format = none then (match s.jc.phase with | .setup => 1 | .service => 2 | _ => 0) else 3
        let figures := [fig 1 phase, fig 1 format.1, fig 3 format.2, fig 1 s.jc.store.code, fig 4 s.jc.appendPeriod,
          fig 4 s.mau.copy.accrued, fig 4 s.mau.copy.released, fig 1 s.jc.pendingCount, fig 2 s.jc.untaken,
          fig 6 (s.jc.next % 281474976710656), fig 6 s.jc.oldest, fig 1 locks.length,
          fig 1 (locks.map fun l => l.waiters.length).sum, fig 2 s.ce.ring.length, fig 2 s.ht.holds.length,
          fig 2 (s.ht.holds.filter fun h => h.state == .claimed).length, fig 4 s.ht.seconds, flagByte s.ht.timeSet,
          fig 1 s.pcu.state.code, fig 1 s.pcu.entries.length, fig 1 s.pcu.cursor, fig 1 s.asu.state.code, fig 3 s.asu.cursor,
          fig 1 (s.line 0).state.code, fig 1 (s.line 1).state.code, fig 1 (s.line 2).state.code, fig 1 (s.line 3).state.code].flatten
        figures.length = 57
          ∧ exec (.partStatus tag []) s = .next (sendLink tag.toNat (plainReply 0x30 .ok 0 figures) (taken tag s)))

/-- TAKE-NOTICES delivers the notice set, in the layout of R182, empties it and drives ATTN_N high (R164); RESTART queues its
reply and makes the receiver deaf (R167); SET-TIME sets the seconds counter and the time-set flag and answers the values before
and after (R35); a tick raises the counter by 1 and stops at the greatest value (R34). -/
def Obligations.NoticesRestartAndTime : Prop :=
  ∀ (tag : Byte) (v : Nat) (s : State), v < 256 ^ 4 →
    let u := taken tag s
    (Admits .status tag s →
        let n := s.hlp.notices
        let kind (code : Nat) (details : Option (List Byte)) : List (List Byte) := (details.map fun d => fig 1 code ++ d).toList
        let kinds := kind 1 (n.started.map fun d =>
            fig 1 (match d.cause with | .powerOn => 1 | .resetPin => 2 | .restart => 3) ++ fig 1 d.epoch ++ fig 1 d.recovered)
          ++ kind 2 (n.storeFault.map fun d => fig 1 (match d.region with
              | .config => 1 | .totals => 2 | .merchants => 3 | .journal => 4 | .cards => 5) ++ fig 6 d.journal)
          ++ kind 3 (n.journalHigh.map fun untaken => fig 2 untaken)
          ++ kind 4 (n.closeDone.map fun d => fig 4 d.period ++ fig 1 d.records ++ sfig 6 d.payout)
          ++ kind 5 (n.sweepDone.map fun d => fig 1 (match d.outcome with | .isMatch => 1 | .mismatch => 2 | .aborted => 3)
              ++ sfig 6 d.paid ++ sfig 6 d.bonus ++ sfig 6 d.expectedPaid ++ sfig 6 d.expectedBonus ++ fig 3 d.slots
              ++ fig 3 d.unreadable)
          ++ kind 6 (n.stationChange.map fun d => fig 1 d.line ++ fig 1 d.entry ++ fig 1 d.state.code ++ fig 1 d.further)
          ++ kind 7 (n.holdsExpired.map fun count => fig 2 count)
          ++ kind 8 (n.replyDiscarded.map fun d => fig 1 d.line ++ fig 1 d.entry ++ fig 6 d.journal ++ fig 1 d.count)
        exec (.takeNotices tag []) s = .next (sendLink tag.toNat (plainReply 0x31 .ok 0 (fig 1 kinds.length ++ kinds.flatten))
            { u with hlp := { u.hlp with notices := {}, attnLow := false } }))
      ∧ (Admits .restart tag s → ∃ f : OutFrame, f.kind = 0xB3 ∧ f.tag = tag.toNat ∧ f.reply = plainReply 0x33 .ok
          ∧ f.tagged = true ∧ f.resets = true ∧ exec (.restart tag []) s = .next { u with hlp := { u.hlp with
              outbound := s.hlp.outbound ++ [f], deaf := true } })
      ∧ (Admits .time tag s → exec (.setTime tag (leBytes 4 v)) s
        = .next (sendLink tag.toNat (plainReply 0x32 .ok 0 (fig 4 s.ht.seconds ++ fig 4 v))
            { u with ht := { u.ht with seconds := v, timeSet := true } }))
      ∧ (s.ht.seconds < 4294967295 →
          exec .secondsTick s = .next { s with ht := { s.ht with seconds := s.ht.seconds + 1 } })
      ∧ (4294967295 ≤ s.ht.seconds → exec .secondsTick s = .next s)

/-! ### Setup -/

/-- A SET-PROGRAMME, SET-TARIFF, SET-STATION or SET-LINE with good fields and no request of R170 before it is worked on by the
write of its record, and SET-MERCHANT by the read of the merchant's record; SET-MERCHANT of a CLOSED merchant is refused
MERCHANT-CLOSED, and in store FAULT each is refused STORE-FAULT; nothing else changes (R5, R72, R73, R173). Behind a request
of R170 that is being worked on, each of them, FORMAT and OPEN-SERVICE wait; a waiting one is taken in its turn with the phase
tested again: in SETUP as one that comes then, in SERVICE refused IN-SERVICE, an OPEN-SERVICE ALREADY-OPEN, in UNFORMATTED
NOT-IN-PHASE but for FORMAT (R160, R170, R171, R179).
A request that comes while a FORMAT itself still waits, waits behind it (log 40): the model's choice. -/
def Obligations.ConfigRequestsReachThePort : Prop :=
  (∀ (kind : Nat) (tag : Byte) (body : List Byte) (c : Instr) (i : ConfigItem) (s : State),
    requestOf kind tag body = some c → itemFields kind body = some i → Admits .config tag s → s.jc.cfg = none →
    s.jc.phase = .setup →
    let u := taken tag s
    (s.jc.store = .normal → exec c s = .next (issue (.configWrite i) { u with jc := { u.jc with
        cfg := some { tag := tag.toNat, kind := kind, what := .item i }, cfgWaiting := [] } }))
      ∧ (s.jc.store = .fault → exec c s = .next (sendLink tag.toNat (plainReply kind .storeFault)
          { u with jc := { u.jc with cfg := none, cfgWaiting := [] } })))
  ∧ (∀ (tag : Byte) (m cls group : Nat) (s : State), Admits .config tag s → s.jc.phase = .setup → s.jc.cfg = none →
    1 ≤ m → m ≤ 240 → cls ≤ 7 → group ≤ 7 →
    let u := taken tag s
    let idle : State := { u with jc := { u.jc with cfg := none, cfgWaiting := [] } }
    let c : Instr := .setMerchant tag [byteOf m, byteOf cls, byteOf group]
    (s.jc.store = .normal → (s.admission m).state ≠ .closed →
        exec c s = .next (issue (.setMerchantRead tag.toNat m cls group) { u with jc := { u.jc with
          cfg := some { tag := tag.toNat, kind := 0x3B, what := .merchant m cls group }, cfgWaiting := [] } }))
      ∧ (s.jc.store = .normal → (s.admission m).state = .closed →
          exec c s = .next (sendLink tag.toNat (plainReply 0x3B .configRefused 24 (fig 1 m)) idle))
      ∧ (s.jc.store = .fault → exec c s = .next (sendLink tag.toNat (plainReply 0x3B .storeFault) idle)))
  ∧ (∀ (tag : Byte) (s : State), Admits .config tag s → s.jc.cfg ≠ none →
    let u := taken tag s
    let waits (c : Instr) (kind : Nat) (what : ConfigWhat) : Prop := exec c s
      = .next { u with jc := { u.jc with cfgWaiting := s.jc.cfgWaiting ++ [{ tag := tag.toNat, kind := kind, what := what }] } }
    (∀ kind body c i, requestOf kind tag body = some c → itemFields kind body = some i → waits c kind (.item i))
      ∧ (∀ m cls group, 1 ≤ m → m ≤ 240 → cls ≤ 7 → group ≤ 7 →
          waits (.setMerchant tag [byteOf m, byteOf cls, byteOf group]) 0x3B (.merchant m cls group))
      ∧ waits (.openService tag []) 0x3E .openService
      ∧ ∀ cap, 1 ≤ cap → cap ≤ 1048576 → waits (.format tag (leBytes 3 cap)) 0x38 (.format cap))
  ∧ ∀ (q : ConfigReq) (rest : List ConfigReq) (s : State),
    let refused (st : Status) (reason : Nat) (figures : List Byte := []) : Prop :=
      runCfg (q :: rest) s = runCfg rest (sendLink q.tag (plainReply q.kind st reason figures) s)
    let works (t : State) : Prop := runCfg (q :: rest) s = { t with jc := { t.jc with cfg := some q, cfgWaiting := rest } }
    runCfg [] s = { s with jc := { s.jc with cfg := none, cfgWaiting := [] } }
      ∧ (s.jc.phase = .service → q.what = .openService → refused .configRefused 23)
      ∧ (s.jc.phase = .service → q.what ≠ .openService → refused .configRefused 25)
      ∧ (s.jc.phase = .unformatted → (∀ cap, q.what ≠ .format cap) → refused .notInPhase 0)
      ∧ (∀ i, s.jc.phase = .setup → s.jc.store = .fault → q.what = .item i → refused .storeFault 0)
      ∧ (∀ i, s.jc.phase = .setup → s.jc.store = .normal → q.what = .item i → works (issue (.configWrite i) s))
      ∧ (∀ m cls group, s.jc.phase = .setup → q.what = .merchant m cls group →
          (s.jc.store = .fault → refused .storeFault 0)
            ∧ (s.jc.store = .normal → (s.admission m).state = .closed → refused .configRefused 24 (fig 1 m))
            ∧ (s.jc.store = .normal → (s.admission m).state ≠ .closed → works (issue (.setMerchantRead q.tag m cls group) s)))
      ∧ (∀ cap, s.jc.phase = .setup ∨ s.jc.phase = .unformatted → q.what = .format cap →
          let guarded : Prop := s.jc.phase = .setup ∧ s.jc.store = .normal
          (guarded → 0 < s.jc.untaken → refused .formatRefused 48 (fig 2 s.jc.untaken))
            ∧ (guarded → s.jc.untaken = 0 → s.pcu.state ≠ .empty → refused .formatRefused 32 (fig 1 s.pcu.state.code))
            ∧ (¬guarded ∨ (s.jc.untaken = 0 ∧ s.pcu.state = .empty) →
              works (issue (.formatWrite 1 0 8192 (List.replicate 64 0)) { s with jc := { s.jc with
                format := some { tag := q.tag, capacity := cap, stage := 1, written := 0 } } })))
      ∧ (s.jc.phase = .setup → q.what = .openService → runCfg (q :: rest) s = runCfg rest (openService q.tag s)
          ∧ ∀ tag, Admits .config tag s → s.jc.cfg = none →
            exec (.openService tag []) s = .next (runCfg [] (openService tag.toNat (taken tag s))))

/-- FORMAT with no request before it begins with the write of an all-zero totals record: in UNFORMATTED, in store FAULT, and in
SETUP with no untaken record and an EMPTY list; otherwise its guard refuses it (R171). -/
def Obligations.FormatBegins : Prop :=
  ∀ (tag : Byte) (cap : Nat) (s : State), Admits .format tag s → s.jc.cfg = none → 1 ≤ cap → cap ≤ 1048576 →
    let u := taken tag s
    let idle : State := { u with jc := { u.jc with cfg := none, cfgWaiting := [] } }
    let c : Instr := .format tag (leBytes 3 cap)
    (s.jc.phase = .unformatted ∨ s.jc.store = .fault ∨ (s.jc.untaken = 0 ∧ s.pcu.state = .empty) →
        exec c s = .next (issue (.formatWrite 1 0 8192 (List.replicate 64 0)) { u with jc := { u.jc with
          format := some { tag := tag.toNat, capacity := cap, stage := 1, written := 0 },
          cfg := some { tag := tag.toNat, kind := 0x38, what := .format cap }, cfgWaiting := [] } }))
      ∧ (s.jc.phase = .setup → s.jc.store = .normal → 0 < s.jc.untaken →
          exec c s = .next (sendLink tag.toNat (plainReply 0x38 .formatRefused 48 (fig 2 s.jc.untaken)) idle))
      ∧ (s.jc.phase = .setup → s.jc.store = .normal → s.jc.untaken = 0 → s.pcu.state ≠ .empty →
          exec c s = .next (sendLink tag.toNat (plainReply 0x38 .formatRefused 32 (fig 1 s.pcu.state.code)) idle))

/-- OPEN-SERVICE in SETUP makes its checks in order (R174): the first that fails gives CONFIG-REFUSED with its reason and item,
STORE-STATE, TIME-UNSET, the window tests of R8, STATION-MERCHANT or STATION-DUPLICATE, and nothing else changes. When all pass
it enters SERVICE: every enabled line opens with its round at 0 and SERVICE-OPEN pending, every other line stays, and the reply
carries the append period and the number of lines opened (R145, R175). -/
def Obligations.OpenServiceOpensLines : Prop :=
  ∀ (tag : Byte) (s : State), Admits .config tag s → s.jc.phase = .setup → s.jc.cfg = none →
    let u := taken tag s
    let fails (reason : Nat) (item : List Byte) : Prop := exec (.openService tag []) s
      = .next (sendLink tag.toNat (plainReply 0x3E .configRefused reason item)
          { u with jc := { u.jc with cfg := none, cfgWaiting := [] } })
    let on (i : Nat) : Prop := (s.window i).enabled = true
    let last (i : Nat) : Nat := (s.window i).base + ((s.window i).high - (s.window i).low)
    let inOrder (i : Nat) : Prop := on i → (s.window i).low ≤ (s.window i).high
    let fits (i : Nat) : Prop := on i → inOrder i ∧ last i ≤ s.mau.copy.capacity
    let overlap (i k : Nat) : Prop := on i ∧ on k ∧ (s.window i).base ≤ last k ∧ (s.window k).base ≤ last i
    let x (p : Nat × Nat) : Station := s.station p.1 p.2
    let before (p q : Nat × Nat) : Prop := p.1 < q.1 ∨ (p.1 = q.1 ∧ p.2 < q.2)
    let entry (p : Nat × Nat) : Prop := p.1 < 4 ∧ p.2 < 48 ∧ (x p).enabled = true
    let trades (p : Nat × Nat) : Prop := 1 ≤ (x p).merchant ∧ (x p).merchant ≤ 240
      ∧ (s.admission (x p).merchant).state ≠ .unconfigured ∧ (s.admission (x p).merchant).state ≠ .closed
    let double (p : Nat × Nat) : Prop := ∃ q, entry q ∧ before q p ∧ (x q).merchant = (x p).merchant ∧ (x q).lane = (x p).lane
    (s.jc.store = .fault → fails 16 [])
      ∧ (s.jc.store = .normal → s.ht.timeSet = false → fails 17 [])
      ∧ (s.jc.store = .normal → s.ht.timeSet = true →
          (∀ i, i < 8 → (∀ j, j < i → fits j) → (¬inOrder i → fails 18 (fig 1 (i + 1)))
              ∧ (on i → inOrder i → s.mau.copy.capacity < last i → fails 19 (fig 1 (i + 1))))
            ∧ ((∀ i, i < 8 → fits i) →
              (∀ k, k < 8 → (∀ i k', i < k' → k' < k → ¬overlap i k') → (∃ i, i < k ∧ overlap i k) → fails 20 (fig 1 (k + 1)))
                ∧ ((∀ i k, i < k → k < 8 → ¬overlap i k) →
                  (∀ p, entry p → (∀ q, entry q → before q p → trades q ∧ ¬double q) →
                      (¬trades p → fails 21 (fig 1 p.1 ++ fig 1 p.2))
                        ∧ (trades p → double p → fails 22 (fig 1 p.1 ++ fig 1 p.2)))
                    ∧ ((∀ p, entry p → trades p ∧ ¬double p) → ∃ t, exec (.openService tag []) s = .next t
                      ∧ t.jc = { s.jc with phase := .service, cfg := none, cfgWaiting := [] }
                      ∧ (∀ n, n < 4 → (s.line n).copy.enabled = true →
                          (t.line n).state = .idleGap ∧ (t.line n).round = 0 ∧ (t.line n).position = 0
                            ∧ (t.line n).serviceOpen = some s.jc.appendPeriod
                            ∧ ∀ e, e < 48 → t.station n e = if (s.station n e).enabled
                                then { s.station n e with state := .absent, misses := 0, bad := 0 } else s.station n e)
                      ∧ (∀ n, n < 4 → (s.line n).copy.enabled = false → t.line n = s.line n)
                      ∧ (t.hlp.outbound.getLast?.map OutFrame.reply) = some (plainReply 0x3E .ok 0
                          (fig 4 s.jc.appendPeriod ++ fig 1 (s.lines.toList.filter fun l => l.copy.enabled).length))
                      ∧ (t.mem, t.windows, t.ce, t.ht, t.mau, t.pcu, t.asu)
                          = (s.mem, s.windows, s.ce, s.ht, s.mau, s.pcu, s.asu)))))

/-- A configuration write that is verified stores its record, puts the fields into the on-chip copy and answers OK; then the
requests of R170 that wait are taken in their order, and the port serves its next access (R5, R72, R112, R144, R170, R173).
The order of the figures that SET-LINE and SET-STATION answer is the model's choice (log 10), and so is what takes part in the port's next choice (log 7). -/
def Obligations.ConfigWriteCompletes : Prop :=
  ∀ (i : ConfigItem) (q : ConfigReq) (s : State), s.jc.serving = some (.configWrite i) → s.jc.cfg = some q →
    let u : State := { s with mem := Memory.writeMany s.mem (configAddress i.index) i.bytes }
    let ok (figures : List Byte) (t : State) : State := runCfg s.jc.cfgWaiting (sendLink q.tag (plainReply q.kind .ok 0 figures) t)
    match i with
    | .window k w => exec .programmeWriteDone s = .next (portNext 2 (ok [] { u with windows := u.windows.setIfInBounds k w }))
    | .tariff c t => exec .tariffWriteDone s
        = .next (portNext 2 (ok [] { u with jc := { u.jc with tariffs := u.jc.tariffs.setIfInBounds c t } }))
    | .line n c => exec .lineConfigWriteDone s
        = .next (portNext 2 (ok (fig 1 c.rate ++ fig 1 c.window ++ flagByte c.enabled)
            (u.setLine n { s.line n with copy := c })))
    | .station n e m lane en => exec .lineConfigWriteDone s
        = .next (portNext 2 (ok (fig 1 m ++ fig 1 lane ++ flagByte en)
            (u.setStation n e { merchant := m, lane := lane, enabled := en, state := if en then .absent else .disabled,
                                misses := 0, bad := 0, run := 0, errors := 0, outstanding := false, held := none })))

/-- SET-MERCHANT's read leads to the write of the record with the new class and group, ACTIVE from UNCONFIGURED, every other
field as read; a record whose check fails sets FAULT, or raises it again, with region MERCHANTS, and the request is refused
STORE-FAULT (R88, R125), as it is where the store went to FAULT meanwhile. The verified write puts state, class and group into
the admission table, and the reply OK carries merchant, state before and after, class and group (R73, R78). After the answer the requests of R170 that wait are taken.
That every other field is written as read is the model's reading (log 26), and so are the end in a FAULT set meanwhile (log 14) and what takes part in the port's next choice (log 7). -/
def Obligations.SetMerchantCompletes : Prop :=
  ∀ (tag m cls group : Nat) (s : State),
    let read := readMerchant (Memory.readMany s.mem (12288 + (m - 1) * 256) 256)
    let ends (q : ConfigReq) (r : Reply) (t : State) : State :=
      portNext 2 (runCfg s.jc.cfgWaiting (sendLink q.tag r t))
    (s.jc.serving = some (.setMerchantRead tag m cls group) →
        (∀ r, read = some r → s.jc.store = .normal →
          exec .setMerchantReadDone s = .next (portNext 2 (issue (.setMerchantWrite tag m (s.admission m).state
            { r with cls := cls, group := group,
                     state := if (s.admission m).state = .unconfigured then .active else r.state }) s)))
          ∧ ∀ q, s.jc.cfg = some q →
            (∀ r, read = some r → s.jc.store = .fault →
                exec .setMerchantReadDone s = .next (ends q (plainReply q.kind .storeFault) s))
              ∧ (read = none → exec .setMerchantReadDone s
                  = .next (ends q (plainReply q.kind .storeFault) (enterFault .merchants 0 s)))
              ∧ (read = none → s.jc.cfgWaiting = [] → ∃ t, exec .setMerchantReadDone s = .next t ∧ t.jc.store = .fault ∧ t.mem = s.mem
                  ∧ t.hlp.notices.storeFault = some { region := .merchants, journal := 0 } ∧ t.jc.cfg = none
                  ∧ ∃ f ∈ t.hlp.outbound, f.tag = q.tag ∧ f.reply = plainReply q.kind .storeFault))
      ∧ (∀ before r q, s.jc.serving = some (.setMerchantWrite tag m before r) → s.jc.cfg = some q →
          let after : MerchantState := if before = .unconfigured then .active else before
          let u : State := { s with mem := Memory.writeMany s.mem (12288 + (m - 1) * 256) r.bytes }
          exec .setMerchantWriteDone s = .next (ends q
            (plainReply q.kind .ok 0 (fig 1 m ++ fig 1 before.code ++ fig 1 after.code ++ fig 1 r.cls ++ fig 1 r.group))
            (u.setAdmission m { state := after, cls := r.cls, group := r.group })))
      ∧ ∀ (a : Admission), 1 ≤ m → m ≤ 240 → (s.setAdmission m a).admission m = a
          ∧ ∀ k, k ≠ m → (s.setAdmission m a).admission k = s.admission k

/-- A FORMAT write that is verified leads to the next write of its stage, or to the first of the next stage, each with the
record and the address of R171's table. The last one completes FORMAT (R172): with the store NORMAL the part enters SETUP with
fresh books, answers OK with the capacity and the epoch, and takes the requests of R170 that wait; in store FAULT it has the same fresh books (R4, R78, R144), keeps
its phase, hears no frame from then on, and resets when the reply is sent.
What takes part in the port's next choice is the model's choice (log 7), and so are the phase kept in FAULT (log 19) and the requests that wait behind a FORMAT (log 40). -/
def Obligations.FormatWritesFollow : Prop :=
  ∀ (job : FormatJob) (i a : Nat) (bs : List Byte) (s : State), s.jc.serving = some (.formatWrite job.stage i a bs) →
    s.jc.format = some job → 1 ≤ job.stage → job.stage ≤ 6 →
    let fresh : Totals := { mark := 0x53433438, capacity := job.capacity, epoch := s.ht.epoch, accrued := 1, released := 0,
                            oldest := 1, lastApplied := 0, outPaid := 0, outBonus := 0, bonusIssued := 0, bonusForfeited := 0, paidOut := 0 }
    let count (stage : Nat) : Nat :=
      match stage with | 1 => 1 | 2 => 212 | 3 => 240 | 4 => 4096 | 5 => job.capacity | _ => 1
    let record (stage k : Nat) : Nat × List Byte :=
      match stage with
      | 1 => (8192, List.replicate 64 0)
      | 2 => (k * 32, if k < 8 then windowReset.bytes else if k < 16 then tariffReset.bytes
                      else if k < 20 then lineCopyReset.bytes else stationBytes 0 0 false)
      | 3 => (12288 + k * 256, (freshMerchant (k + 1)).bytes)
      | 4 => (73728 + k * 64, List.replicate 64 0)
      | 5 => (335872 + k * 32, List.replicate 32 0)
      | _ => (8192, fresh.bytes)
    let u : State := { s with mem := Memory.writeMany s.mem a bs }
    let writes (stage k : Nat) : Prop := exec .formatWriteDone s
      = .next (portNext 2 (issue (.formatWrite stage k (record stage k).1 (record stage k).2)
          { u with jc := { u.jc with format := some { job with stage := stage, written := k } } }))
    let books : State := { u with
      windows := Vector.replicate 8 windowReset
      lines := s.lines.map fun l => { l with copy := lineCopyReset, stations := Vector.replicate 48 stationReset }
      jc := { s.jc with next := 1, oldest := 1, untaken := 0, pendingCount := 0, appendPeriod := 1, format := none,
                        tariffs := Vector.replicate 8 tariffReset, admission := Vector.replicate 240 admissionReset }
      mau := { s.mau with copy := fresh }
      pcu := { s.pcu with entries := [], cursor := 0, state := .empty } }
    let done : Reply := plainReply 0x38 .ok 0 (fig 3 job.capacity ++ fig 1 s.ht.epoch)
    (job.written + 1 < count job.stage → writes job.stage (job.written + 1))
      ∧ (count job.stage ≤ job.written + 1 → job.stage < 6 → writes (job.stage + 1) 0)
      ∧ (∀ q, job.stage = 6 → s.jc.store = .normal → s.jc.cfg = some q → q.kind = 0x38 →
          exec .formatWriteDone s = .next (portNext 2 (runCfg s.jc.cfgWaiting (sendLink q.tag done
            { books with jc := { books.jc with phase := .setup } }))))
      ∧ (job.stage = 6 → s.jc.store = .fault →
          let t := pushFrame { kind := 0xB8, tag := job.tag, reply := done, tagged := true, resets := true }
            { books with jc := { books.jc with cfg := none } }
          exec .formatWriteDone s = .next (portNext 2 { t with hlp := { t.hlp with deaf := true } }))

/-- A write that fails its verification twice sets FAULT and raises STORE-FAULT with the region and journal number of R125's
table, and leaves the record as the device holds it; a failed FORMAT write takes the part to UNFORMATTED (R172). At FAULT the
records of the append queue whose access is not issued are refused STORE-FAULT and a claimed hold is ACTIVE again (R39, R126),
a station's reply is held or discarded as its entry stands (R152), a running sweep is aborted (R141), the totals writes due are not made (R89, R102, R126); in FAULT the notice is raised again and no more. The failed append is answered STORE-FAULT
with j, and so is one whose write completes in FAULT (R118, R126); a failed card write is completed reduced (R48).
What the failed write leaves is an operand of the event (log 8); the order of replies formed in one event (log 34), CLAMPED clear on a reply that is not OK (log 31) and what takes part in the port's next choice (log 7) are the model's choice; that a verified append in FAULT raises no second notice and moves no figure is its reading (log 28). -/
def Obligations.FailedWritesSetFault : Prop :=
  (∀ (left : Residue) (op : PortOp) (s : State), s.jc.serving = some op →
    let fails (c : Instr) (region : Region) (j : Nat) : Prop := ∃ t, exec c s = .next t ∧ t.jc.store = .fault
      ∧ t.hlp.notices.storeFault = some { region := region, journal := j } ∧ t.mem = (leaveOp op left s).mem
      ∧ t.windows = (match op with | .formatWrite _ _ _ _ => t.windows | _ => s.windows) ∧ t.pending = s.pending
      ∧ (match op with | .formatWrite _ _ _ _ => s.jc.cfgWaiting = [] → t.jc.phase = .unformatted ∧ t.jc.format = none | _ => True)
    match op with
    | .appendWrite b => fails (.appendWriteFails left) .journal b.number
    | .cardWrite _ _ j _ => fails (.cardWriteFails left) .cards j
    | .commitMark j _ _ => fails (.commitMarkFails left) .journal j
    | .accrualWrite _ _ => ∀ a, s.mau.accrual = some a →
        fails (.accrualMerchantWriteDone (some left)) .merchants a.body.number
    | .walkWrite _ _ => ∀ w, s.mau.walk = some w → fails (.walkMerchantWriteFails left) .merchants w.j
    | .totalsWrite job _ _ => match job with
        | .epoch => fails (.totalsWriteFails left) .totals 0
        | .release _ _ => fails (.totalsWriteFails left) .totals 0
        | .advice _ _ _ => fails (.totalsWriteFails left) .totals 0
        | .accrual => ∀ a, s.mau.accrual = some a → fails (.totalsWriteFails left) .totals a.body.number
        | .walkEnd => ∀ w, s.mau.accrual = none → s.mau.walk = some w → fails (.totalsWriteFails left) .totals w.j
    | .configWrite _ => fails (.configWriteFails left) .config 0
    | .setMerchantWrite _ _ _ _ => fails (.configWriteFails left) .merchants 0
    | .formatWrite stage _ _ _ => ∀ job, s.jc.format = some job → job.stage = stage →
        fails (.formatWriteFails left)
          (match stage with | 2 => .config | 3 => .merchants | 4 => .journal | 5 => .cards | _ => .totals) 0
    | .recoveryCardWrite b => fails (.recoveryCardWriteDone (some left)) .cards b.number
    | _ => True)
  ∧ (∀ (region : Region) (j : Nat) (s : State), s.jc.store = .normal →
    let t := enterFault region j s
    let refused := if s.jc.appendIssued then s.jc.appendQueue.drop 1 else s.jc.appendQueue
    let answered (tag : Nat) (p : Reply → Prop) : Prop := ∃ f ∈ t.hlp.outbound, f.tag = tag ∧ p f.reply
    t.jc.store = .fault
      ∧ t.jc.appendQueue = (if s.jc.appendIssued then s.jc.appendQueue.take 1 else [])
      ∧ (∀ tag k m, .admin tag k m ∈ refused → answered tag fun r => r = plainReply k.code .storeFault)
      ∧ (∀ tag, .cutoff tag ∈ refused → answered tag fun r => r = plainReply 0x13 .storeFault)
      ∧ (∀ k m, .movement k m ∈ refused →
          (∀ tag, m.req.origin = .link tag →
              answered tag fun r => r = plainReply m.req.kind.code .storeFault 0 (fig 4 m.req.card))
            ∧ (m.kind = .capture → ∀ h ∈ t.ht.holds, h.card = m.req.card → h.slot = m.req.slot → h.epoch = m.req.epoch →
                h.serial = m.req.serial → h.state = .active))
      ∧ (∀ k m n e, .movement k m ∈ refused → m.req.origin = .station n e → n < 4 → e < 48 →
          let x := s.station n e
          (x.state ≠ .faulty → x.state ≠ .disabled → ∃ k' m', .movement k' m' ∈ refused ∧ m'.req.origin = m.req.origin
              ∧ (t.station n e).held = some (plainReply m'.req.kind.code .storeFault 0 (fig 4 m'.req.card)))
            ∧ (x.state = .faulty ∨ x.state = .disabled → (t.station n e).held = none ∧ (t.station n e).outstanding = false))
      ∧ (s.asu.state = .running → t.asu = { s.asu with state := .idle, stale := s.asu.stale || s.asu.outstanding }
          ∧ ∃ d, t.hlp.notices.sweepDone = some d ∧ d.outcome = .aborted)
      ∧ (s.asu.state = .idle → t.asu = s.asu)
      ∧ t.mau.totalsDue = [] ∧ (.accrual ∈ s.mau.totalsDue → t.mau.accrual = none)
      ∧ (.walkEnd ∈ s.mau.totalsDue → t.mau.walk = none)
      ∧ (∀ tag p, .release tag p ∈ s.mau.totalsDue →
          t.pcu.releasing = false ∧ answered tag fun r => r = plainReply 0x1B .storeFault)
      ∧ (∀ tag n recs, .advice tag n recs ∈ s.mau.totalsDue → answered tag fun r => r = plainReply 0x18 .storeFault)
      ∧ (t.mem, t.windows, t.mau.copy, t.mau.queue, t.pcu.entries, t.jc.pendingCount, t.jc.next, t.jc.untaken)
          = (s.mem, s.windows, s.mau.copy, s.mau.queue, s.pcu.entries, s.jc.pendingCount, s.jc.next, s.jc.untaken))
  ∧ (∀ (region : Region) (j : Nat) (s : State), s.jc.store = .fault → enterFault region j s = { s with hlp := { s.hlp with
      notices := { s.hlp.notices with storeFault := some { region := region, journal := j } }
      attnLow := s.hlp.attnLow || decide (s.jc.phase ≠ .startup) } })
  ∧ (∀ (b : JBody) (item : AppendItem) (rest : List AppendItem) (left : Residue) (s : State),
    s.jc.serving = some (.appendWrite b) → s.jc.appendQueue = item :: rest →
    let refused (rest : List AppendItem) (u : State) : State := portNext 2 (refuseItem item .storeFault 0 (fig 6 b.number) b.number
      { u with jc := { u.jc with appendQueue := rest, appendIssued := false } })
    (s.jc.store = .fault → exec .appendWriteDone s = .next (refused rest (storeOp (.appendWrite b) s)))
      ∧ (s.jc.store = .normal → s.jc.appendIssued = true →
          exec (.appendWriteFails left) s = .next (refused [] (enterFault .journal b.number (leaveOp (.appendWrite b) left s)))))
  ∧ ∀ (k : Nat) (m : Movement) (j p : Nat) (left : Residue) (s : State), s.jc.serving = some (.cardWrite k m j p) →
    let req := m.req
    let on (x : Hold) : Bool := x.card == req.card && x.slot == req.slot
    let u := enterFault .cards j (leaveOp (.cardWrite k m j p) left s)
    let kept := u.ht.holds.filter fun x =>
      if m.kind = .capture then !(on x && (x.epoch == req.epoch && x.serial == req.serial))
      else if m.kind = .cardState ∧ req.kind = .block then !on x else true
    exec (.cardWriteFails left) s = .next (portNext 2 (answerOwner k req
      { kind := req.kind.code, status := .storeFault, figures := fig 4 req.card ++ fig 6 j, journal := j }
      { u with ht := { u.ht with holds := kept } }))

/-! ### Holds -/

/-- A due ACTIVE hold leaves the Hold Table and raises the count of HOLDS-EXPIRED; a CLAIMED one, one not due and one that is not
there change nothing (R36). A decided hold is entered with the first free serial from the
counter's on, stepping from 65,535 to 1, the epoch, its expiry time and state ACTIVE, or
refused HOLD-TABLE-FULL, and its lock passes on (R23, R28, R31).
The card number stands first in the reply to a HOLD (log 9). -/
def Obligations.HoldsExpireAndEnter : Prop :=
  (∀ (epoch : Byte) (serial : BitVec 16) (s : State),
    let named (x : Hold) : Bool := x.epoch == epoch.toNat && x.serial == serial.toNat
    (∀ h, s.ht.holds.find? named = some h → h.state = .active → h.expiry ≤ s.ht.seconds →
        exec (.holdExpiry epoch serial) s = .next { s with
          ht := { s.ht with holds := s.ht.holds.filter fun x => !(x.card == h.card && x.slot == h.slot && named x) }
          hlp := { s.hlp with
            notices := { s.hlp.notices with holdsExpired := some (match s.hlp.notices.holdsExpired with
              | some c => (if c < 65535 then c + 1 else c)
              | none => 1) }
            attnLow := s.hlp.attnLow || decide (s.jc.phase ≠ .startup) } })
      ∧ (∀ h, s.ht.holds.find? named = some h → (h.state = .claimed ∨ s.ht.seconds < h.expiry) →
          exec (.holdExpiry epoch serial) s = .next s)
      ∧ (s.ht.holds.find? named = none → exec (.holdExpiry epoch serial) s = .next s))
  ∧ ∀ (k : Fin 16) (l : LockSlot) (p : HoldPlan) (s : State), HoldsOk s → s.lock k.val = some l → l.doing = .entering p →
    let req := l.owner
    let serials := s.ht.holds.map Hold.serial
    (512 ≤ s.ht.holds.length → exec (.holdEntry k) s
        = .next (answerOwner k.val req (plainReply req.kind.code .holdTableFull 0 (fig 4 req.card)) s))
      ∧ (s.ht.holds.length < 512 → ∃ n, 1 ≤ n ∧ n ≤ 65535 ∧ n ∉ serials ∧ (s.ht.serial ∉ serials → n = s.ht.serial) ∧
          (∃ i, n = (s.ht.serial - 1 + i) % 65535 + 1 ∧ ∀ j, j < i → (s.ht.serial - 1 + j) % 65535 + 1 ∈ serials) ∧
          let expiry := min (s.ht.seconds + (s.window req.window).lifetime) 4294967295
          let h : Hold := { epoch := s.ht.epoch, serial := n, card := req.card, slot := req.slot, merchant := req.merchant,
                            origin := req.origin, requested := req.amount, held := p.held, paid := p.paid, bonus := p.bonus,
                            expiry := expiry, state := .active }
          let figures := fig 4 req.card ++ fig 1 s.ht.epoch ++ fig 2 n ++ fig 3 req.amount ++ fig 3 p.held ++ fig 3 p.paid
            ++ fig 3 p.bonus ++ fig 4 expiry ++ fig 3 (p.available - p.held)
          exec (.holdEntry k) s = .next (answerOwner k.val req
            (plainReply req.kind.code (if p.held < req.amount then .partialOk else .ok) 0 figures)
            { s with ht := { s.ht with holds := s.ht.holds ++ [h], serial := if n = 65535 then 1 else n + 1 } }))

/-- A capture's claim (R37, R54 to R58): another merchant's hold is BAD-REQUEST with reason OTHER-MERCHANT, too small a hold
EXCEEDS-HOLD, both with the hold left ACTIVE; a claimed hold turns CLAIMED and the capture takes its amount from the hold's
parts; with no ACTIVE hold it goes on as a LATE-CAPTURE from the available value. A movement joins the append queue, and its append
access is issued at once when that makes it due (R116); in store FAULT it is refused STORE-FAULT at once, and a claimed hold is
ACTIVE again (R39, R46, R126).
A hold already CLAIMED is treated as not found (log 29), and a refusal has CLAMPED clear (log 31). -/
def Obligations.HoldClaimDecides : Prop :=
  ∀ (k : Fin 16) (l : LockSlot) (r : CardRec) (s : State), s.lock k.val = some l → l.doing = .claiming r →
    let req := l.owner
    let w := s.window req.window
    let answers (st : Status) (reason : Nat) (extra : List Byte) : Prop := exec (.holdClaim k) s
      = .next (answerOwner k.val req (plainReply req.kind.code st reason (fig 4 req.card ++ extra)) s)
    let moves (kind : MoveKind) (p : Nat × Nat) (held : Nat) (holds back : List Hold) : Prop :=
      let u : State := { s with ht := { s.ht with holds := holds } }
      let v := u.setLock k.val (some { l with doing := .moving })
      let m : Movement := { kind := kind, req := req, amount := req.amount, paidDelta := ((r.paid - p.1 : Nat) : Int) - r.paid,
                            bonusDelta := ((r.bonus - p.2 : Nat) : Int) - r.bonus, newState := .active, paid := r.paid - p.1,
                            bonus := r.bonus - p.2, readCount := r.count, readActivation := r.activation, held := held }
      (s.jc.store = .normal → exec (.holdClaim k) s = .next (queued (.movement k.val m) v))
        ∧ (s.jc.store = .fault → exec (.holdClaim k) s = .next (answerOwner k.val req
            (plainReply req.kind.code .storeFault 0 (fig 4 req.card)) { v with ht := { s.ht with holds := back } }))
    let named (x : Hold) : Bool := x.card == req.card && x.slot == req.slot && (x.epoch == req.epoch && x.serial == req.serial)
    (∀ h, s.ht.holds.find? named = some h → h.state = .active →
        (h.merchant ≠ req.merchant → answers .badRequest 7 [])
          ∧ (h.merchant = req.merchant → h.held < req.amount → answers .exceedsHold 0 (fig 3 h.held))
          ∧ (h.merchant = req.merchant → req.amount ≤ h.held →
              moves .capture (splitPurses w.order req.amount h.paid h.bonus) h.held
                (s.ht.holds.map fun x => if named x then { x with state := .claimed } else x)
                (s.ht.holds.map fun x => if named x then { x with state := .active } else x)))
      ∧ ((∀ h, s.ht.holds.find? named = some h → h.state = .claimed) →
          let chain := s.ht.holds.filter fun x => x.card == req.card && x.slot == req.slot
          let paid := r.paid - (chain.map Hold.paid).sum
          let bonus := r.bonus - (chain.map Hold.bonus).sum
          let allowed : Prop := req.merchant = 0 ∨ w.groupMask.testBit (s.admission req.merchant).group = true
          (¬allowed → answers .programmeRule 0 [])
            ∧ (allowed → paid + bonus < req.amount → answers .holdGone 0 (fig 3 (paid + bonus)))
            ∧ (allowed → req.amount ≤ paid + bonus →
                moves .lateCapture (splitPurses w.order req.amount paid bonus) 0 s.ht.holds s.ht.holds))

/-! ### Decisions -/

/-- A card that is read and passes its request's tests leads to the movement of the request's kind, which joins the append
queue under the lock (R44): ACTIVATE (R49, R50), LOAD (R51), REDEEM (R52, R53), VOID (R61, R62), REFUND (R64, R65), CASH-OUT
(R66), BLOCK and UNBLOCK (R67). In store FAULT the movement is refused STORE-FAULT at once, and the lock passes on (R24, R46,
R126).
What takes part in the port's next choice is the model's choice (log 7), and so is CLAMPED clear on the refusal in FAULT (log 31). -/
def Obligations.CardReadDecidesMovements : Prop :=
  ∀ (k slot : Nat) (l : LockSlot) (r : CardRec) (s : State), s.jc.serving = some (.cardRead k slot) →
    1 ≤ slot → slot ≤ 1048576 → s.lock k = some l →
    readCard (Memory.readMany s.mem (335872 + (slot - 1) * 32) 32) = some r → (r.state = .blank ∨ r.number = l.owner.card) →
    let req := l.owner
    let w := s.window req.window
    let allowed : Prop := req.merchant = 0 ∨ w.groupMask.testBit (s.admission req.merchant).group = true
    let chain := s.ht.holds.filter fun x => x.card == req.card && x.slot == req.slot
    let free := (r.paid - (chain.map Hold.paid).sum, r.bonus - (chain.map Hold.bonus).sum)
    let moves (kind : MoveKind) (amount : Nat) (st : CardState) (paid bonus : Nat) (period : Nat := 0) (clamped : Bool := false) :
        Prop :=
      let u := s.setLock k (some { l with doing := .moving })
      let m : Movement := { kind := kind, req := req, amount := amount, paidDelta := (paid : Int) - r.paid,
                            bonusDelta := (bonus : Int) - r.bonus, newState := st, paid := paid, bonus := bonus,
                            readCount := r.count, readActivation := r.activation, capturePeriod := period, clamped := clamped }
      (s.jc.store = .normal → exec .cardReadDone s
          = .next (portNext 2 { u with jc := { u.jc with appendQueue := s.jc.appendQueue ++ [.movement k m] } }))
        ∧ (s.jc.store = .fault → exec .cardReadDone s
          = .next (portNext 2 (answerOwner k req (plainReply req.kind.code .storeFault 0 (fig 4 req.card)) u)))
    (req.kind = .activate → r.state = .blank → allowed → req.amount ≤ w.maxBalance →
        let b := bonusGiven w req.amount req.amount 0
        moves .activate req.amount .active req.amount b.1 0 b.2)
      ∧ (req.kind = .load → r.state = .active → w.reloadable = true → allowed → r.paid + r.bonus + req.amount ≤ w.maxBalance →
        let b := bonusGiven w req.amount (r.paid + req.amount) r.bonus
        moves .load req.amount .active (r.paid + req.amount) (r.bonus + b.1) 0 b.2)
      ∧ (req.kind = .redeem → r.state = .active → allowed → req.amount ≤ free.1 + free.2 →
        let p := splitPurses w.order req.amount free.1 free.2
        moves .redeem req.amount .active (r.paid - p.1) (r.bonus - p.2))
      ∧ (req.kind = .redeem → r.state = .active → allowed → free.1 + free.2 < req.amount → req.partialFlag = true →
        0 < free.1 + free.2 → moves .redeem (free.1 + free.2) .active (r.paid - free.1) (r.bonus - free.2))
      ∧ (∀ e, req.kind = .void → (r.state = .active ∨ r.state = .blocked) →
        s.ce.ring.find? (fun x => x.journal == req.voided) = some e → e.card = req.card → e.merchant = req.merchant →
        e.voided = false → r.paid + r.bonus + (e.paid + e.bonus) ≤ w.maxBalance →
        moves .void (e.paid + e.bonus) r.state (r.paid + e.paid) (r.bonus + e.bonus) e.period)
      ∧ (req.kind = .refund → r.state = .active → allowed →
        (req.merchant = 0 ∨ req.amount ≤ (s.tariff (s.admission req.merchant).cls).cap) →
        r.paid + r.bonus + req.amount ≤ w.maxBalance → moves .refund req.amount .active (r.paid + req.amount) r.bonus)
      ∧ (req.kind = .cashOut → (r.state = .active ∨ r.state = .blocked) → w.cashable = true → chain = [] →
        moves .cashOut r.paid .cashed 0 0)
      ∧ (req.kind = .block → r.state = .active → moves .cardState 0 .blocked r.paid r.bonus)
      ∧ (req.kind = .unblock → r.state = .blocked → moves .cardState 0 .active r.paid r.bonus)

/-- What a card read answers at once (R11, R12): STORE-FAULT with the notice for an unreadable record, WRONG-SLOT for another
card's; BALANCE gives the record's figures (R33); RELEASE removes the ACTIVE hold of its merchant, or answers HOLD-GONE (R32);
a state the kind does not allow is refused CARD-STATE (R14). A HOLD that passes its checks goes to the Hold Table with its
parts (R30, R31), a CAPTURE of an ACTIVE card to its claim (R54). The other refusals of each decision, in its order (R30, R49 to
R66): PROGRAMME-RULE, OVER-LIMIT, INSUFFICIENT, MERCHANT-STATE, HOLD-LIMIT, HOLD-TABLE-FULL, VOID-TOO-LATE and HOLDS-PRESENT.
The card number stands first in the replies to BALANCE and RELEASE (log 9), and HOLD-GONE of a RELEASE carries no other figure (log 10). The waiter's card read takes part in the port's next choice (log 7), and a hold's parts are taken from the purses down to 0 (log 30): both are the model's choice. -/
def Obligations.CardReadAnswers : Prop :=
  ∀ (k slot : Nat) (l : LockSlot) (s : State), s.jc.serving = some (.cardRead k slot) → 1 ≤ slot → slot ≤ 1048576 →
    s.lock k = some l →
    let req := l.owner
    let w := s.window req.window
    let read := readCard (Memory.readMany s.mem (335872 + (slot - 1) * 32) 32)
    let chain := s.ht.holds.filter fun x => x.card == req.card && x.slot == req.slot
    let answers (st : Status) (extra : List Byte) (u : State) : Prop := exec .cardReadDone s
      = .next (portNext 2 (answerOwner k req (plainReply req.kind.code st 0 (fig 4 req.card ++ extra)) u))
    let goesOn (d : Deciding) : Prop := exec .cardReadDone s = .next (portNext 2 (s.setLock k (some { l with doing := d })))
    let allowed : Prop := req.merchant = 0 ∨ w.groupMask.testBit (s.admission req.merchant).group = true
    (read = none → answers .storeFault [] { s with hlp := { s.hlp with
        notices := { s.hlp.notices with storeFault := some { region := .cards, journal := 0 } }
        attnLow := s.hlp.attnLow || decide (s.jc.phase ≠ .startup) } })
      ∧ ∀ r, read = some r → (r.state ≠ .blank → r.number ≠ req.card → answers .wrongSlot [] s)
        ∧ (r.state = .blank ∨ r.number = req.card →
          let free := (r.paid - (chain.map Hold.paid).sum, r.bonus - (chain.map Hold.bonus).sum)
          (req.kind = .balance → answers .ok (fig 1 r.state.code ++ (fig 3 r.paid ++ (fig 3 r.bonus ++
              (fig 3 (chain.map Hold.held).sum ++ (fig 3 free.1 ++ (fig 3 free.2 ++ (fig 3 (free.1 + free.2) ++
              (fig 1 chain.length ++ fig 4 r.lastPeriod)))))))) s)
            ∧ (req.kind = .release →
              let named (x : Hold) : Bool := x.epoch == req.epoch && x.serial == req.serial
              (∀ h, chain.find? named = some h → h.merchant = req.merchant → h.state = .active →
                  let left := chain.filter fun x => !named x
                  answers .ok (fig 3 h.requested ++ (fig 3 h.held ++ (fig 3 h.paid ++ (fig 3 h.bonus ++ (originBytes h.origin ++
                      fig 3 ((r.paid - (left.map Hold.paid).sum) + (r.bonus - (left.map Hold.bonus).sum)))))))
                    { s with ht := { s.ht with holds := s.ht.holds.filter fun x =>
                        !((x.card == req.card && x.slot == req.slot) && named x) } })
                ∧ ((∀ h, chain.find? named = some h → h.merchant ≠ req.merchant ∨ h.state ≠ .active) →
                  answers .holdGone [] s))
            ∧ ((req.kind = .activate ∧ r.state ≠ .blank)
                ∨ (r.state ≠ .active ∧ (req.kind = .load ∨ req.kind = .hold ∨ req.kind = .capture ∨ req.kind = .redeem
                    ∨ req.kind = .refund ∨ req.kind = .block))
                ∨ (r.state ≠ .active ∧ r.state ≠ .blocked ∧ (req.kind = .void ∨ req.kind = .cashOut))
                ∨ (r.state ≠ .blocked ∧ req.kind = .unblock) → answers .cardState [] s)
            ∧ (req.kind = .capture → r.state = .active → goesOn (.claiming r))
            ∧ (req.kind = .hold → r.state = .active →
                (req.merchant = 0 ∨ (w.groupMask.testBit (s.admission req.merchant).group = true
                  ∧ (s.admission req.merchant).state = .active)) →
                chain.length < 4 → s.ht.holds.length < 512 →
                (req.amount ≤ free.1 + free.2 →
                    let p := splitPurses w.order req.amount free.1 free.2
                    goesOn (.entering { held := req.amount, paid := p.1, bonus := p.2, available := free.1 + free.2 }))
                  ∧ (free.1 + free.2 < req.amount → req.partialFlag = true → 0 < free.1 + free.2 →
                    goesOn (.entering { held := free.1 + free.2, paid := free.1, bonus := free.2, available := free.1 + free.2 }))
                  ∧ (free.1 + free.2 < req.amount → (req.partialFlag = false ∨ free.1 + free.2 = 0) →
                    answers .insufficient (fig 3 (free.1 + free.2)) s))
            ∧ (req.kind = .hold → r.state = .active → allowed →
                let trades : Prop := req.merchant = 0 ∨ (s.admission req.merchant).state = .active
                (¬trades → answers .merchantState [] s)
                  ∧ (trades → 4 ≤ chain.length → answers .holdLimit [] s)
                  ∧ (trades → chain.length < 4 → 512 ≤ s.ht.holds.length → answers .holdTableFull [] s))
            ∧ ((req.kind = .activate ∧ r.state = .blank)
                ∨ (r.state = .active ∧ (req.kind = .load ∨ req.kind = .hold ∨ req.kind = .redeem ∨ req.kind = .refund)) →
                ¬allowed → answers .programmeRule [] s)
            ∧ (req.kind = .activate → r.state = .blank → allowed → w.maxBalance < req.amount → answers .overLimit [] s)
            ∧ (req.kind = .load → r.state = .active →
                (w.reloadable = false → answers .programmeRule [] s)
                  ∧ (w.reloadable = true → allowed → w.maxBalance < r.paid + r.bonus + req.amount → answers .overLimit [] s))
            ∧ (req.kind = .redeem → r.state = .active → allowed → free.1 + free.2 < req.amount →
                (req.partialFlag = false ∨ free.1 + free.2 = 0) → answers .insufficient (fig 3 (free.1 + free.2)) s)
            ∧ (req.kind = .void → (r.state = .active ∨ r.state = .blocked) →
                let found := s.ce.ring.find? fun x => x.journal == req.voided
                ((∀ e, found = some e → e.card ≠ req.card ∨ e.merchant ≠ req.merchant ∨ e.voided = true) →
                    answers .voidTooLate [] s)
                  ∧ (∀ e, found = some e → e.card = req.card → e.merchant = req.merchant → e.voided = false →
                    w.maxBalance < r.paid + r.bonus + (e.paid + e.bonus) → answers .overLimit [] s))
            ∧ (req.kind = .refund → r.state = .active → allowed →
                let capped : Prop := req.merchant ≠ 0 ∧ (s.tariff (s.admission req.merchant).cls).cap < req.amount
                (capped → answers .programmeRule [] s)
                  ∧ (¬capped → w.maxBalance < r.paid + r.bonus + req.amount → answers .overLimit [] s))
            ∧ (req.kind = .cashOut → (r.state = .active ∨ r.state = .blocked) →
                (w.cashable = false → answers .programmeRule [] s)
                  ∧ (w.cashable = true → chain ≠ [] → answers .holdsPresent (fig 1 chain.length) s)))

/-! ### The journal -/

/-- The head of the append queue gets its access when none is issued, fewer than 32 records are PENDING and the store is NORMAL
(R116). The record's body holds the number and the append period, a movement's fields, its reference and its card image as the
card write completes it, or a request's kind, merchant and new state (R15, R43, R75, R92, R114). A verified append raises the next number, the untaken and the pending count by 1 (R117, with JOURNAL-HIGH by R124);
then a movement's card write is issued (R120), a merchant state request changes the admission table and is answered (R75),
and a CUTOFF raises the append period (R92); the last two join the accrual queue (R81).
The command of the issue changes nothing when none is due, and in a run finds none due (log 6); the card write takes part in the port's next choice (log 7): both are the model's choice. -/
def Obligations.AppendsAreMade : Prop :=
  (∀ s : State,
    let issued : State := { s with jc := { s.jc with appendIssued := true } }
    (s.jc.appendQueue ≠ [] → s.jc.appendIssued = false → s.jc.pendingCount < 32 → s.jc.store = .normal →
        (∀ op, s.jc.serving = some op → exec .appendIssue s = .next (issue .append issued))
          ∧ (∀ item rest, s.jc.serving = none → s.jc.waiting = [] → s.jc.appendQueue = item :: rest →
              appendTest s item = none →
              exec .appendIssue s = .next { s with jc := { s.jc with
                appendIssued := true, serving := some (.appendWrite (itemBody item s.jc.next s.jc.appendPeriod)) } }))
      ∧ (s.jc.appendQueue = [] ∨ s.jc.appendIssued = true ∨ 32 ≤ s.jc.pendingCount ∨ s.jc.store = .fault →
          exec .appendIssue s = .next s))
  ∧ (∀ (k : Nat) (m : Movement) (tag merchant j p : Nat),
    let body : JBody :=
      { number := j, kind := m.kind, newState := m.newState.code, period := p, origin := m.req.origin, merchant := m.req.merchant
        reqKind := 0, card := m.req.card, slot := m.req.slot, amount := m.amount, paidDelta := m.paidDelta
        bonusDelta := m.bonusDelta
        ref := if m.kind = .capture ∨ m.kind = .lateCapture then m.req.epoch + 256 * m.req.serial
               else if m.kind = .void then m.req.voided else 0
        imagePaid := m.paid, imageBonus := m.bonus, imageActivation := if m.kind = .activate then p else m.readActivation
        imageCount := min (m.readCount + 1) 65535 }
    let plain (kind : MoveKind) (merchant reqKind newState : Nat) : JBody :=
      { number := j, kind := kind, newState := newState, period := p, origin := .link tag, merchant := merchant
        reqKind := reqKind, card := 0, slot := 0, amount := 0, paidDelta := 0, bonusDelta := 0, ref := 0, imagePaid := 0
        imageBonus := 0, imageActivation := 0, imageCount := 0 }
    itemBody (.movement k m) j p = body ∧ movementBody m j p = body
      ∧ itemBody (.admin tag .suspend merchant) j p = plain .merchantState merchant 0x10 2
      ∧ itemBody (.admin tag .resume merchant) j p = plain .merchantState merchant 0x11 1
      ∧ itemBody (.admin tag .close merchant) j p = plain .merchantState merchant 0x12 3
      ∧ itemBody (.cutoff tag) j p = plain .periodEnd 0 0 0)
  ∧ ∀ (b : JBody) (item : AppendItem) (rest : List AppendItem) (s : State), s.jc.serving = some (.appendWrite b) →
    s.jc.appendQueue = item :: rest → s.jc.store = .normal →
    let u : State := { s with
      mem := Memory.writeMany s.mem (73728 + (b.number - 1) % 4096 * 64) (b.bytes ++ List.replicate 10 0)
      jc := { s.jc with next := s.jc.next + 1, untaken := s.jc.untaken + 1, pendingCount := s.jc.pendingCount + 1,
                        appendQueue := rest, appendIssued := false }
      hlp := if s.jc.untaken + 1 = 3072 then
          { s.hlp with notices := { s.hlp.notices with journalHigh := some 3072 }
                       attnLow := s.hlp.attnLow || decide (s.jc.phase ≠ .startup) }
        else if s.hlp.notices.journalHigh ≠ none then
          { s.hlp with notices := { s.hlp.notices with journalHigh := some (s.jc.untaken + 1) } }
        else s.hlp }
    let queued (t : State) : State := { t with mau := { t.mau with queue := s.mau.queue ++ [b] } }
    match item with
    | .movement k m => exec .appendWriteDone s = .next (portNext 2 (issue (.cardWrite k m b.number b.period) u))
    | .admin tag k m => exec .appendWriteDone s = .next (portNext 2 (queued (sendLink tag
        (plainReply k.code .ok 0 (fig 1 m ++ fig 1 (s.admission m).state.code
          ++ fig 1 (match k with | .suspend => 2 | .resume => 1 | .close => 3) ++ fig 6 b.number ++ fig 4 b.period))
        (u.setAdmission m { s.admission m with state :=
          match k with | .suspend => .suspended | .resume => .active | .close => .closing }))))
    | .cutoff tag => exec .appendWriteDone s = .next (portNext 2 (queued (sendLink tag
        (plainReply 0x13 .ok 0 (fig 6 b.number ++ fig 4 b.period)) { u with jc := { u.jc with appendPeriod := b.period + 1 } })))

/-- The completion of a movement whose card write is verified (R47): the card record stands, a CAPTURE's claimed hold or a
BLOCK's holds are gone (R39, R40), the ring takes a capture or marks a voided one (R59, R63), a sweep that has passed the slot
adds the deltas (R138), the movement joins the accrual queue, and the owner is answered with its journal number.
The waiter's card read takes part in the port's next choice (log 7), which is the model's choice. -/
def Obligations.CardWriteCompletesMovement : Prop :=
  ∀ (k : Nat) (m : Movement) (j p : Nat) (s : State), s.jc.serving = some (.cardWrite k m j p) →
    let req := m.req
    let on (x : Hold) : Bool := x.card == req.card && x.slot == req.slot
    let kept := s.ht.holds.filter fun x =>
      if m.kind = .capture then !(on x && (x.epoch == req.epoch && x.serial == req.serial))
      else if m.kind = .cardState ∧ req.kind = .block then !on x else true
    let entry : RingEntry := { journal := j, card := req.card, merchant := req.merchant, paid := m.paidDelta.natAbs,
                               bonus := m.bonusDelta.natAbs, period := p, voided := false }
    let capture : Prop := m.kind = .capture ∨ m.kind = .redeem ∨ m.kind = .lateCapture
    let stored : CardRec := { state := m.newState, number := req.card, paid := m.paid, bonus := m.bonus, lastJournal := j,
                              activation := if m.kind = .activate then p else m.readActivation, lastPeriod := p,
                              count := min (m.readCount + 1) 65535 }
    ∃ (u : State) (extras : List Byte),
      u.mem = Memory.writeMany s.mem (335872 + (req.slot - 1) * 32) stored.bytes
        ∧ u.ht = { s.ht with holds := kept }
        ∧ (capture → u.ce = { s.ce with ring := (if 256 ≤ s.ce.ring.length then s.ce.ring.drop 1 else s.ce.ring) ++ [entry] })
        ∧ (m.kind = .void → u.ce = { s.ce with ring := s.ce.ring.map fun e =>
            if e.journal = req.voided then { e with voided := true } else e })
        ∧ (¬capture → m.kind ≠ .void → u.ce = s.ce)
        ∧ (s.asu.state = .running ∧ req.slot ≤ s.asu.cursor →
            u.asu = { s.asu with paid := s.asu.paid + m.paidDelta, bonus := s.asu.bonus + m.bonusDelta })
        ∧ (¬(s.asu.state = .running ∧ req.slot ≤ s.asu.cursor) → u.asu = s.asu)
        ∧ (u.hlp, u.lines, u.windows, u.jc, u.mau, u.pcu, u.pending)
            = (s.hlp, s.lines, s.windows, s.jc, s.mau, s.pcu, s.pending)
        ∧ (m.kind = .refund ∨ m.kind = .lateCapture → extras = []) ∧ (m.kind = .void → extras = fig 6 req.voided)
        ∧ (m.kind = .redeem → extras = fig 3 req.amount)
        ∧ (m.kind = .cashOut → extras = fig 3 m.amount ++ fig 3 (-m.bonusDelta).toNat)
        ∧ (m.kind = .cardState → extras = if req.kind = .block then fig 1 (s.ht.holds.filter on).length else [])
        ∧ (m.kind = .capture → extras = fig 3 m.held ++ fig 3 (m.held - m.amount))
        ∧ (m.kind = .activate ∨ m.kind = .load → extras = fig 3 m.bonusDelta.toNat)
        ∧ (let chain := kept.filter on
           let v := (m.paid - (chain.map Hold.paid).sum) + (m.bonus - (chain.map Hold.bonus).sum)
           let reply : Reply :=
             { kind := req.kind.code, status := if m.kind = .redeem ∧ m.amount < req.amount then .partialOk else .ok
               late := decide (m.kind = .lateCapture), clamped := m.clamped, journal := j
               figures := fig 4 req.card ++ fig 6 j ++ fig 4 p ++ fig 3 m.amount ++ sfig 4 m.paidDelta ++ sfig 4 m.bonusDelta
                 ++ fig 3 m.paid ++ fig 3 m.bonus ++ fig 3 v ++ extras }
           let t := answerOwner k req reply u
           exec .cardWriteDone s
             = .next (portNext 2 { t with mau := { t.mau with queue := s.mau.queue ++ [movementBody m j p] } }))

/-! ### Accrual -/

/-- The course of an accrual (R82, R83): the record one above the last applied number is taken from the queue, or in recovery
the PENDING record whose card step is done (R129), and its merchant read, or without one its effect goes to the totals (R132);
stage 1 puts the sums, counts, fee and commission step of the kind into the bank and writes the record (R84 to R86); its verified
write leads to the totals write of stage 2, made in its turn. A merchant record, and a totals record, that carry the number
already are passed over, with the delta found again (R83, R87). A record whose check fails and a sum out of range set FAULT with
the record's number and stop the accrual (R88), as the end of a stage does in FAULT (R89); in recovery that ends it (R129).
The start of an accrual is an event of its own (log 6); the write of stage 1 is made in a FAULT set since the read (log 20) and takes part in the port's next choice (log 7): the model's choices. -/
def Obligations.AccrualStages : Prop :=
  let effect (b : JBody) (t : Totals) : Totals := { t with
    outPaid := t.outPaid + b.paidDelta, outBonus := t.outBonus + b.bonusDelta, lastApplied := b.number
    bonusIssued := if b.kind = .activate ∨ b.kind = .load then t.bonusIssued + b.bonusDelta else t.bonusIssued
    paidOut := if b.kind = .cashOut then t.paidOut - b.paidDelta else t.paidOut
    bonusForfeited := if b.kind = .cashOut then t.bonusForfeited - b.bonusDelta else t.bonusForfeited }
  let stops (s : State) : State :=
    let t : State := { s with mau := { s.mau with accrual := none } }
    match s.jc.stage with | .recover _ _ => finishRecovery t | _ => t
  let stage2 (a : Accrual) (s : State) : State :=
    let t := effect a.body s.mau.copy
    if a.body.number ≤ s.mau.copy.lastApplied then
      issue (.commitMark a.body.number a.delta a.rem) { s with mau := { s.mau with accrual := some a } }
    else if totalsFit t = true then
      let u : State := { s with mau := { s.mau with copy := t, accrual := some { a with stage2 := true } } }
      match s.mau.totalsBusy with
      | none => issue (.totalsWrite .accrual t 0) { u with mau := { u.mau with totalsBusy := some .accrual } }
      | some _ => { u with mau := { u.mau with totalsDue := s.mau.totalsDue ++ [.accrual] } }
    else stops (enterFault .totals a.body.number s)
  (∀ (b : JBody) (s : State), s.jc.store = .normal → s.mau.accrual = none → s.mau.walk = none →
    (s.jc.phase ≠ .startup ∧ (∀ x rest, s.jc.stage ≠ .recover (x :: rest) true) ∧ b.kind ≠ .periodEnd
        ∧ s.mau.queue.find? (fun x => x.number == s.mau.copy.lastApplied + 1) = some b)
      ∨ (∃ rest, s.jc.stage = .recover (b :: rest) true ∧ (b.kind = .periodEnd → b.number ≤ s.mau.copy.lastApplied)) →
    let a : Accrual := { body := b, stage2 := false, delta := 0, rem := 0 }
    let u : State := { s with mau := { s.mau with queue := s.mau.queue.filter fun x => x.number != b.number } }
    let names : Prop := 1 ≤ b.merchant ∧ b.merchant ≤ 240 ∧ b.kind ≠ .cashOut ∧ b.kind ≠ .cardState ∧ b.kind ≠ .periodEnd
    (names → exec .accrualStart s = .next (issue (.accrualRead b.merchant) { u with mau := { u.mau with accrual := some a } }))
      ∧ (¬names → exec .accrualStart s = .next (stage2 a u)))
  ∧ (∀ (a : Accrual) (m : Nat) (s : State), s.jc.serving = some (.accrualRead m) → s.mau.accrual = some a →
    readMerchant (Memory.readMany s.mem (12288 + (m - 1) * 256) 256) = none →
    exec .accrualMerchantReadDone s = .next (portNext 2 (stops (enterFault .merchants a.body.number s))))
  ∧ (∀ (a : Accrual) (m : Nat) (r : MerchantRec) (s : State), s.jc.serving = some (.accrualRead m) → s.mau.accrual = some a →
    readMerchant (Memory.readMany s.mem (12288 + (m - 1) * 256) 256) = some r → a.body.number ≤ r.lastApplied →
    let b := a.body
    let rate := (s.tariff r.cls).rate
    let delta : Int :=
      match b.kind with
      | .capture | .redeem | .lateCapture => recoveredDelta r.bank.rho 1 b.amount rate
      | .void | .refund => recoveredDelta r.bank.rho (-1) b.amount rate
      | _ => 0
    (s.jc.store = .normal → exec .accrualMerchantReadDone s
        = .next (portNext 2 (stage2 { a with delta := delta, rem := r.bank.rho } s)))
      ∧ (s.jc.store = .fault → exec .accrualMerchantReadDone s = .next (portNext 2 (stops s))))
  ∧ (∀ (a : Accrual) (m : Nat) (r : MerchantRec) (s : State), s.jc.serving = some (.accrualRead m) → s.mau.accrual = some a →
    readMerchant (Memory.readMany s.mem (12288 + (m - 1) * 256) 256) = some r → r.lastApplied < a.body.number →
    let b := a.body
    let f := s.tariff r.cls
    let k := r.bank
    let up (n : Nat) : Nat := if n < 4294967295 then n + 1 else n
    let add := commissionStep k.rho 1 b.amount f.rate
    let sub := commissionStep k.rho (-1) b.amount f.rate
    let writes (k' : Bank) (st : MerchantState) (delta : Int) : Prop :=
      let r' : MerchantRec := { r with bank := k', lastApplied := b.number, state := st }
      (bankFits k' = true → exec .accrualMerchantReadDone s = .next (portNext 2 (issue (.accrualWrite m r')
          { s with mau := { s.mau with accrual := some { a with delta := delta, rem := k'.rho } } })))
        ∧ (bankFits k' = false → exec .accrualMerchantReadDone s
          = .next (portNext 2 (stops (enterFault .merchants b.number s))))
    match b.kind with
    | .capture | .redeem | .lateCapture =>
      writes { k with g := k.g + b.amount, captures := up k.captures, bf := k.bf - b.bonusDelta, x := k.x + f.fee,
                      c := k.c + add.1, rho := add.2 } r.state add.1
    | .void => writes { k with v := k.v + b.amount, voids := up k.voids, bf := k.bf - b.bonusDelta, x := k.x - f.fee,
                               c := k.c + sub.1, rho := sub.2 } r.state sub.1
    | .refund => writes { k with f := k.f + b.amount, refunds := up k.refunds, c := k.c + sub.1, rho := sub.2 } r.state sub.1
    | .activate | .load => writes { k with s := k.s + b.paidDelta, sales := up k.sales } r.state 0
    | .merchantState => writes k (merchantStateOf b.newState) 0
    | _ => True)
  ∧ ∀ (a : Accrual) (m : Nat) (r : MerchantRec) (s : State), s.jc.serving = some (.accrualWrite m r) → s.mau.accrual = some a →
    let u : State := { s with mem := Memory.writeMany s.mem (12288 + (m - 1) * 256) r.bytes }
    (s.jc.store = .normal → exec (.accrualMerchantWriteDone none) s = .next (portNext 2 (stage2 a u)))
      ∧ (s.jc.store = .fault → exec (.accrualMerchantWriteDone none) s = .next (portNext 2 (stops u)))

/-- A verified totals write stores the record and finishes what it was made for: an accrual or a walk goes to its commit mark
(R83, R100), or stops where FAULT was set meanwhile (R89, R102); a release empties the list and is answered (R106), an advance
moves the oldest untaken number, the records are delivered and the next TAKE-ADVICE is taken (R123), the epoch is loaded and the
configuration read (R127); then the next totals write due is issued (R131).
The accesses issued take part in the port's next choice (log 7), the next TAKE-ADVICE's read before the next totals write due (log 39): the model's choices. -/
def Obligations.TotalsWritesComplete : Prop :=
  ∀ (job : TotalsJob) (copy : Totals) (earlier : Nat) (s : State), s.jc.serving = some (.totalsWrite job copy earlier) →
    let u : State := { s with mem := Memory.writeMany s.mem 8192 copy.bytes }
    let wait (op : PortOp) (t : State) : State := { t with jc := { t.jc with waiting := s.jc.waiting ++ [op] } }
    let stops (t : State) : State := match s.jc.stage with | .recover _ _ => finishRecovery t | _ => t
    let ends (t : State) : Prop :=
      (s.mau.totalsDue = [] →
          exec .totalsWriteDone s = .next (portNext 2 { t with mau := { t.mau with totalsBusy := none } }))
        ∧ ∀ due rest, s.mau.totalsDue = due :: rest →
          exec .totalsWriteDone s
            = .next (portNext 2 (issueTotals due { t with mau := { t.mau with totalsBusy := none, totalsDue := rest } }))
    match job with
    | .accrual => (∀ a, s.jc.store = .normal → s.mau.accrual = some a → ends (wait (.commitMark a.body.number a.delta a.rem) u))
        ∧ (s.jc.store = .fault → ends (stops { u with mau := { s.mau with accrual := none } }))
    | .walkEnd => (∀ w, s.jc.store = .normal → s.mau.walk = some w → ends (wait (.commitMark w.j 0 0) u))
        ∧ (s.jc.store = .fault → ends (stops { u with mau := { s.mau with walk := none } }))
    | .release tag p => ends (sendLink tag (plainReply 0x1B .ok 0 (fig 4 p))
        { u with pcu := { s.pcu with entries := [], cursor := 0, state := .empty, releasing := false } })
    | .advice tag n recs =>
        let sent := sendLink tag (plainReply 0x18 .ok 0 (fig 1 recs.length ++ fig 6 (n + recs.length)
            ++ fig 2 (s.jc.untaken - recs.length) ++ recs.flatten))
          { u with jc := { s.jc with oldest := n + recs.length, untaken := s.jc.untaken - recs.length } }
        ends (runAdvice s.jc.adviceWaiting sent)
    | .epoch => ends (wait (.configRead 0)
        { u with ht := { s.ht with epoch := copy.epoch }, jc := { s.jc with stage := .config 0 } })

/-- A verified commit mark makes its record COMMITTED and lowers the pending count (R122): an accrual's is over (R83), a close
walk's completes the list, raises CLOSE-DONE and hands the next period to every line that is not CLOSED (R100, R153). In recovery
it is counted, and the next PENDING record is taken: its card is read where it has one, and after the last recovery has finished
(R129, R130).
That a walk ends so in a FAULT set meanwhile too is the model's reading (log 32), that recovery goes on from the bodies the scan kept too (log 22), and what takes part in the port's next choice its choice (log 7). -/
def Obligations.CommitMarkCompletes : Prop :=
  ∀ (j : Nat) (d : Int) (rem : Nat) (s : State), s.jc.serving = some (.commitMark j d rem) →
    let u : State := { s with
      mem := Memory.writeMany s.mem (73728 + (j - 1) % 4096 * 64 + 54) (commitBytes d rem)
      jc := { s.jc with pendingCount := s.jc.pendingCount - 1 } }
    let ends (t : State) : Prop :=
      ((∀ x rest, s.jc.stage ≠ .recover (x :: rest) true) → exec .commitMarkDone s = .next (portNext 2 t))
        ∧ ∀ x rest, s.jc.stage = .recover (x :: rest) true →
          let t : State := { t with jc := { t.jc with recovered := s.jc.recovered + 1 } }
          let next (done : Bool) : State := { t with jc := { t.jc with stage := .recover rest done } }
          (rest = [] → exec .commitMarkDone s = .next (portNext 2 (finishRecovery t)))
            ∧ ∀ y ys, rest = y :: ys →
              (y.kind ≠ .merchantState → y.kind ≠ .periodEnd →
                  exec .commitMarkDone s = .next (portNext 2 (issue (.recoveryCardRead y) (next false))))
                ∧ (y.kind = .merchantState ∨ y.kind = .periodEnd → exec .commitMarkDone s = .next (portNext 2 (next true)))
    (s.mau.walk = none → ends { u with mau := { s.mau with accrual := none } })
      ∧ ∀ w, s.mau.walk = some w → w.j = j →
        let rs := payoutsIn s.pcu.entries
        ends { u with
          hlp := { s.hlp with
            notices := { s.hlp.notices with closeDone := some {
              period := w.period, records := rs.length, payout := (rs.map Payout.payout).sum } }
            attnLow := s.hlp.attnLow || decide (s.jc.phase ≠ .startup) }
          pcu := { s.pcu with state := .complete }
          lines := s.lines.map fun l => if l.state = .closed then l else { l with periodChange := some (w.period + 1) }
          mau := { s.mau with walk := none } }

/-! ### The close walk -/

/-- The close walk (R95 to R100): it begins at its marker, in recovery too (R108), with the list BUILDING and empty; a merchant of
the pass with something to settle is written with its carry, its last closed period, an untouched bank and its result, and its
payout record joins the list as the write is verified; one this walk has closed before gives its stored result (R96); a merchant
of another group, a CLOSED one and an untouched one with no carry are passed over. After merchant 240 a pass that added records is
closed by its group-end, and after the eighth the list by its list-end, with the totals write of the new accrued period made in
its turn (R99, R100). A record whose check fails, and a net or a sum out of range, set FAULT with MERCHANTS and the marker's
number and stop the walk with the list as it stands; so does a FAULT set meanwhile, at the end of the access (R97, R99, R102); in
recovery that ends it (R129).
The start of a walk is an event of its own (log 6), and the accesses issued take part in the port's next choice (log 7): the model's choices. MERCHANTS and the marker's number for a sum out of range (log 18) and the check of a record in FAULT (log 20) are its readings; a record closed in p with no result (log 38) is left out. -/
def Obligations.CloseWalkCourse : Prop :=
  let sums (rs : List Payout) : PaySums :=
    { g := (rs.map Payout.g).sum, v := (rs.map Payout.v).sum, f := (rs.map Payout.f).sum, s := (rs.map Payout.s).sum
      c := (rs.map Payout.c).sum, x := (rs.map Payout.x).sum, payout := (rs.map Payout.payout).sum }
  let stops (s : State) : State :=
    let t : State := { s with mau := { s.mau with walk := none } }
    match s.jc.stage with | .recover _ _ => finishRecovery t | _ => t
  let fails (c : Instr) (w : Walk) (es : List PayEntry) (s u : State) : Prop :=
    exec c s = .next (portNext 2 (stops (enterFault .merchants w.j { u with pcu := { s.pcu with entries := es } })))
  let goesOn (c : Instr) (w : Walk) (es : List PayEntry) (s u : State) : Prop :=
    let walk (w' : Walk) (es' : List PayEntry) : State :=
      { u with pcu := { s.pcu with entries := es' }, mau := { s.mau with walk := some w' } }
    let all := payoutsIn es
    let rs := all.filter fun r => r.group == w.group
    let passed := if rs = [] then es else es ++ [.groupEnd w.group rs.length (sums rs)]
    (w.merchant < 240 → exec c s
        = .next (portNext 2 (issue (.walkRead (w.merchant + 1)) (walk { w with merchant := w.merchant + 1 } es))))
      ∧ (w.merchant = 240 → rs = [] ∨ sumsFit (sums rs) = true →
        (w.group < 7 → exec c s
            = .next (portNext 2 (issue (.walkRead 1) (walk { w with group := w.group + 1, merchant := 1 } passed))))
          ∧ (w.group = 7 → sumsFit (sums all) = true →
            let copy := { s.mau.copy with accrued := w.period + 1, lastApplied := w.j }
            let closed : State := { u with
              pcu := { s.pcu with entries := passed ++ [.listEnd w.period all.length (groupEndsIn passed) (sums all)] }
              mau := { s.mau with copy := copy } }
            (s.mau.totalsBusy = none → exec c s = .next (portNext 2 (issue (.totalsWrite .walkEnd copy 0)
                { closed with mau := { closed.mau with totalsBusy := some .walkEnd } })))
              ∧ ∀ job, s.mau.totalsBusy = some job → exec c s = .next (portNext 2
                { closed with mau := { closed.mau with totalsDue := s.mau.totalsDue ++ [.walkEnd] } }))
          ∧ (w.group = 7 → sumsFit (sums all) = false → fails c w passed s u))
      ∧ (w.merchant = 240 → rs ≠ [] → sumsFit (sums rs) = false → fails c w es s u)
  (∀ (b : JBody) (s : State), s.jc.store = .normal → s.mau.accrual = none → s.mau.walk = none → b.kind = .periodEnd →
    (s.jc.phase ≠ .startup ∧ (∀ x rest, s.jc.stage ≠ .recover (x :: rest) true)
        ∧ s.mau.queue.find? (fun x => x.number == s.mau.copy.lastApplied + 1) = some b)
      ∨ (∃ rest, s.jc.stage = .recover (b :: rest) true ∧ s.mau.copy.lastApplied < b.number) →
    exec .closeWalkStart s = .next (issue (.walkRead 1) { s with
      mau := { s.mau with queue := s.mau.queue.filter fun x => x.number != b.number
                          walk := some { j := b.number, period := b.period, group := 0, merchant := 1 } }
      pcu := { s.pcu with state := .building, entries := [], cursor := 0, period := b.period } }))
  ∧ (∀ (w : Walk) (m : Nat) (s : State), s.jc.serving = some (.walkRead m) → s.mau.walk = some w →
    let read := readMerchant (Memory.readMany s.mem (12288 + (m - 1) * 256) 256)
    (read = none → fails .walkMerchantReadDone w s.pcu.entries s s)
      ∧ (read ≠ none → s.jc.store = .fault → exec .walkMerchantReadDone s = .next (portNext 2 (stops s))))
  ∧ (∀ (w : Walk) (m : Nat) (r : MerchantRec) (s : State), s.jc.serving = some (.walkRead m) → s.mau.walk = some w →
    s.jc.store = .normal → readMerchant (Memory.readMany s.mem (12288 + (m - 1) * 256) 256) = some r →
    let k := r.bank
    let n := k.g - k.v - k.f - k.s - k.c - k.x + r.carry
    let idle : Prop := r.state = .closed ∨ (k = bankReset ∧ r.carry = 0 ∧ r.state ≠ .closing)
    (∀ pay, r.lastClosed = w.period → r.lastResult = some pay → pay.group = w.group →
        goesOn .walkMerchantReadDone w (s.pcu.entries ++ [.merchant pay]) s s)
      ∧ (∀ pay, r.lastClosed = w.period → r.lastResult = some pay → pay.group ≠ w.group →
        goesOn .walkMerchantReadDone w s.pcu.entries s s)
      ∧ (r.lastClosed ≠ w.period → r.group ≠ w.group ∨ idle → goesOn .walkMerchantReadDone w s.pcu.entries s s)
      ∧ (r.lastClosed ≠ w.period → r.group = w.group → ¬idle → fitsSigned 6 n = false →
          fails .walkMerchantReadDone w s.pcu.entries s s)
      ∧ (r.lastClosed ≠ w.period → r.group = w.group → ¬idle → fitsSigned 6 n = true →
          let q := settle r.state n
          let pay : Payout := { merchant := m, group := r.group, period := w.period, state := r.state, g := k.g,
                                captures := k.captures, bf := k.bf, v := k.v, voids := k.voids, f := k.f, refunds := k.refunds,
                                s := k.s, sales := k.sales, c := k.c, x := k.x, carryBefore := r.carry, n := n, payout := q.1,
                                carryAfter := q.2.1, status := q.2.2 }
          exec .walkMerchantReadDone s = .next (portNext 2 (issue (.walkWrite m { r with
            carry := q.2.1, lastClosed := w.period, bank := bankReset, lastResult := some pay,
            state := if r.state = .closing then .closed else r.state }) s))))
  ∧ ∀ (w : Walk) (m : Nat) (r : MerchantRec) (pay : Payout) (s : State), s.jc.serving = some (.walkWrite m r) →
    s.mau.walk = some w → r.lastResult = some pay →
    let es := s.pcu.entries ++ [.merchant pay]
    let u : State := { s with mem := Memory.writeMany s.mem (12288 + (m - 1) * 256) r.bytes }
    let v : State := if r.state = .closed then u.setAdmission m { s.admission m with state := .closed } else u
    (s.jc.store = .normal → goesOn .walkMerchantWriteDone w es s v)
      ∧ (s.jc.store = .fault →
          exec .walkMerchantWriteDone s = .next (portNext 2 (stops { v with pcu := { s.pcu with entries := es } })))

/-! ### Reads that answer a request -/

/-- READ-TOTALS and MERCHANT-STATUS answer the figures of the record read, or STORE-FAULT with the store in FAULT when its check
fails (R88, R90, R134); a last result follows its flag in the layout of R181. TAKE-ADVICE reads on over COMMITTED records until
its count, and then writes the totals record with the oldest untaken number moved past them, in its turn; a slot whose check
fails sets FAULT and is answered STORE-FAULT, in store FAULT too, where a good slot is answered so as well (R123, R125, R126).
The order and widths of the figures of MERCHANT-STATUS follow R90 and R181 (log 10), the last result among them (log 37). A slot read in FAULT is checked, and the request answered at that read (log 14). The accesses issued take part in the port's next choice (log 7), and a slot's number is not compared with the one asked for (log 30): the model's readings. -/
def Obligations.BookReadsAreAnswered : Prop :=
  let faults (c : Instr) (tag kind : Nat) (region : Region) (j : Nat) (s : State) : Prop := ∃ u, exec c s = .next u
    ∧ u.jc.store = .fault ∧ u.mem = s.mem ∧ u.hlp.notices.storeFault = some { region := region, journal := j }
    ∧ ∃ f ∈ u.hlp.outbound, f.tag = tag ∧ f.reply = plainReply kind .storeFault
  (∀ (tag : Nat) (s : State), s.jc.serving = some (.totalsRead tag) →
    let bs := Memory.readMany s.mem 8192 64
    let t := totalsFields bs
    (recordOk bs = true → exec .readTotalsReadDone s = .next (portNext 2 (sendLink tag (plainReply 0x1C .ok 0
        (fig 3 t.capacity ++ fig 1 t.epoch ++ fig 4 t.accrued ++ fig 4 t.released ++ fig 6 t.oldest ++ fig 6 t.lastApplied
          ++ sfig 6 t.outPaid ++ sfig 6 t.outBonus ++ sfig 6 t.bonusIssued ++ sfig 6 t.bonusForfeited ++ sfig 6 t.paidOut)) s)))
      ∧ (recordOk bs = false → faults .readTotalsReadDone tag 0x1C .totals 0 s))
  ∧ (∀ (tag m : Nat) (s : State), s.jc.serving = some (.statusRead tag m) →
    let read := readMerchant (Memory.readMany s.mem (12288 + (m - 1) * 256) 256)
    (∀ r, read = some r → exec .merchantStatusReadDone s = .next (portNext 2 (sendLink tag (plainReply 0x1D .ok 0
        (fig 1 r.merchant ++ fig 1 r.cls ++ fig 1 r.group ++ fig 1 r.state.code ++ fig 1 (s.admission m).state.code
          ++ sfig 6 r.carry ++ fig 6 r.lastApplied ++ fig 4 r.lastClosed ++ r.bank.bytes
          ++ (match r.lastResult with | some p => fig 1 1 ++ p.bytes | none => List.replicate 91 0))) s)))
      ∧ (read = none → faults .merchantStatusReadDone tag 0x1D .merchants 0 s))
  ∧ ∀ (job : AdviceJob) (j : Nat) (s : State), s.jc.serving = some (.adviceRead j) → s.jc.advice = some job →
    let bs := Memory.readMany s.mem (73728 + (j - 1) % 4096 * 64) 64
    let recs := job.records ++ [bs]
    let job' : AdviceJob := { job with records := recs }
    let u : State := { s with jc := { s.jc with advice := some job' } }
    let ends (recs : List (List Byte)) (u : State) : Prop :=
      let copy := { s.mau.copy with oldest := job.u + recs.length }
      let write : TotalsJob := .advice job.tag job.u recs
      (s.mau.totalsBusy = none → exec .adviceReadDone s
          = .next (portNext 2 (issue (.totalsWrite write copy s.mau.copy.oldest)
            { u with mau := { s.mau with copy := copy, totalsBusy := some write } })))
        ∧ ∀ other, s.mau.totalsBusy = some other → exec .adviceReadDone s
          = .next (portNext 2 { u with mau := { s.mau with totalsDue := s.mau.totalsDue ++ [write] } })
    let answers (r : Reply) : Prop := exec .adviceReadDone s
      = .next (portNext 2 (runAdvice s.jc.adviceWaiting (sendLink job.tag r s)))
    (∀ b, s.jc.store = .normal → readBody bs = some b → isCommitted bs = true →
        (recs.length < job.count → job.u + recs.length < s.jc.next →
            exec .adviceReadDone s = .next (portNext 2 (issue (.adviceRead (job.u + recs.length)) u)))
          ∧ (job.count ≤ recs.length ∨ s.jc.next ≤ job.u + recs.length → ends recs u))
      ∧ (∀ b, s.jc.store = .normal → readBody bs = some b → commitOk bs = true → isCommitted bs = false →
          (job.records ≠ [] → ends job.records s)
            ∧ (job.records = [] → answers (plainReply 0x18 .ok 0 (fig 1 0 ++ fig 6 s.jc.oldest ++ fig 2 s.jc.untaken))))
      ∧ (∀ b, s.jc.store = .fault → readBody bs = some b → commitOk bs = true → answers (plainReply 0x18 .storeFault))
      ∧ (readBody bs = none ∨ commitOk bs = false → faults .adviceReadDone job.tag 0x18 .journal j s)

/-- A sweep read (R137): a readable slot adds its purses and an unreadable one is counted and raises STORE-FAULT; the next slot
is read, or after the last one the sweep ends MATCH or MISMATCH against the expected figures, MISMATCH where any
slot was unreadable (R139). A stale read is dropped,
and a new sweep's first read is issued (R141). -/
def Obligations.SweepReads : Prop :=
  ∀ (slot : Nat) (s : State), s.jc.serving = some (.sweepRead slot) → 1 ≤ slot → slot ≤ 1048576 →
    let read := readCard (Memory.readMany s.mem (335872 + (slot - 1) * 32) 32)
    let seen : Asu := { s.asu with outstanding := false, cursor := s.asu.cursor + 1 }
    let next (a : Asu) (h : Hlp) : State :=
      portNext 2 (issue (.sweepRead (a.cursor + 1)) { s with asu := { a with outstanding := true }, hlp := h })
    let bad : Hlp := { s.hlp with notices := { s.hlp.notices with storeFault := some { region := .cards, journal := 0 } }
                                  attnLow := s.hlp.attnLow || decide (s.jc.phase ≠ .startup) }
    (s.asu.stale = false → s.asu.state = .running → s.asu.cursor + 1 ≠ s.mau.copy.capacity →
        (∀ r, read = some r →
            exec .sweepReadDone s = .next (next { seen with paid := s.asu.paid + r.paid, bonus := s.asu.bonus + r.bonus } s.hlp))
          ∧ (read = none → exec .sweepReadDone s = .next (next { seen with unreadable := s.asu.unreadable + 1 } bad)))
      ∧ (s.asu.stale = false → s.asu.state = .running → s.asu.cursor + 1 = s.mau.copy.capacity →
          let late := s.mau.queue ++ (match s.mau.accrual with | some a => (if a.stage2 then [] else [a.body]) | none => [])
          let wantPaid := s.mau.copy.outPaid + (late.map JBody.paidDelta).sum
          let wantBonus := s.mau.copy.outBonus + (late.map JBody.bonusDelta).sum
          let ends (paid bonus : Int) (unreadable : Nat) (outcome : SweepOutcome) (n : Notices) : Prop :=
            exec .sweepReadDone s = .next (portNext 2 { s with
              asu := { seen with state := .idle, paid := paid, bonus := bonus, unreadable := unreadable }
              hlp := { s.hlp with
                notices := { n with sweepDone := some {
                  outcome := outcome, paid := paid, bonus := bonus, expectedPaid := wantPaid, expectedBonus := wantBonus
                  slots := s.mau.copy.capacity, unreadable := unreadable } }
                attnLow := s.hlp.attnLow || decide (s.jc.phase ≠ .startup) } })
          (∀ r, read = some r →
              let paid := s.asu.paid + r.paid
              let bonus := s.asu.bonus + r.bonus
              ends paid bonus s.asu.unreadable
                (if paid = wantPaid ∧ bonus = wantBonus ∧ s.asu.unreadable = 0 then .isMatch else .mismatch) s.hlp.notices)
            ∧ (read = none → ends s.asu.paid s.asu.bonus (s.asu.unreadable + 1) .mismatch bad.notices))
      ∧ (s.asu.stale = true → s.asu.state = .idle →
          exec .sweepReadDone s = .next (portNext 2 { s with asu := { s.asu with outstanding := false, stale := false } }))
      ∧ (s.asu.stale = true → s.asu.state = .running →
          exec .sweepReadDone s = .next (next { s.asu with stale := false } s.hlp))

/-! ### Start-up -/

/-- Start-up reads the totals record (R127): without the format mark the part enters UNFORMATTED with STARTED, with it and a good
check the epoch is raised and written. It loads the configuration records one after another (R4, R71, R144) and then scans the
journal from the last applied number (R128). It loads the admission table, where a
record whose check fails leaves its reset value, sets FAULT with MERCHANTS and lets the load go on (R88); at its end the part enters SETUP with the
append period at the accrued one and STARTED raised (R78, R130).
That the mark is tested before the check, so that torn bytes with no mark are unformatted memory, is the model's choice where R113 and R172 differ (log 41). -/
def Obligations.StartUpReads : Prop :=
  let started (e rec : Nat) (s : State) : State := { s with hlp := { s.hlp with
    notices := { s.hlp.notices with started := some { cause := s.jc.cause, epoch := e, recovered := rec } }, attnLow := true } }
  let stage (st : StartStage) (s : State) : State := { s with jc := { s.jc with stage := st } }
  (∀ s : State, s.jc.serving = some .startupTotalsRead →
    let bs := Memory.readMany s.mem 8192 64
    let t := totalsFields bs
    let up : Totals := { t with epoch := (t.epoch + 1) % 256 }
    (t.mark ≠ 0x53433438 → exec .startupTotalsReadDone s
        = .next (portNext 2 (started 0 0 { s with jc := { s.jc with phase := .unformatted, stage := .none } })))
      ∧ (t.mark = 0x53433438 → recordOk bs = true → s.mau.totalsBusy = none → exec .startupTotalsReadDone s
          = .next (portNext 2 (issue (.totalsWrite .epoch up 0) (stage .epoch
              { s with mau := { s.mau with copy := up, totalsBusy := some .epoch } }))))
      ∧ (t.mark = 0x53433438 → recordOk bs = false → ∃ u, exec .startupTotalsReadDone s = .next u ∧ u.jc.phase = .setup
          ∧ u.jc.store = .fault ∧ u.mem = s.mem
          ∧ u.hlp.notices.storeFault = some { region := .totals, journal := 0 }
          ∧ u.hlp.notices.started = some { cause := s.jc.cause, epoch := 0, recovered := 0 } ∧ u.hlp.attnLow = true))
  ∧ (∀ (k : Nat) (s : State), s.jc.serving = some (.configRead k) →
    let read := readItem k (Memory.readMany s.mem (k * 32) 32)
    let goes (u : State) : Prop :=
      (k < 211 → exec .startupConfigReadDone s
          = .next (portNext 2 (issue (.configRead (k + 1)) (stage (.config (k + 1)) u))))
        ∧ (k = 211 → let n := max s.mau.copy.lastApplied 1
            exec .startupConfigReadDone s = .next (portNext 2 (issue (.scanRead n) (stage (.scan n []) u))))
    (∀ i, read = some i → goes (loadItem i s))
      ∧ (read = none → goes { s with hlp := { s.hlp with
          notices := { s.hlp.notices with storeFault := some { region := .config, journal := 0 } }
          attnLow := s.hlp.attnLow || decide (s.jc.phase ≠ .startup) } }))
  ∧ ∀ (m : Nat) (s : State), s.jc.serving = some (.admissionRead m) → 1 ≤ m →
    let read := readMerchant (Memory.readMany s.mem (12288 + (m - 1) * 256) 256)
    let goes (u : State) : Prop :=
      (m < 240 → exec .admissionLoadReadDone s
          = .next (portNext 2 (issue (.admissionRead (m + 1)) (stage (.admission (m + 1)) u))))
        ∧ (m = 240 → exec .admissionLoadReadDone s = .next (portNext 2 (started u.mau.copy.epoch u.jc.recovered
            { u with jc := { u.jc with appendPeriod := u.mau.copy.accrued, phase := .setup, stage := .none } })))
    (∀ r, read = some r → goes (s.setAdmission m { state := r.state, cls := r.cls, group := r.group }))
      ∧ (read = none → goes ((enterFault .merchants 0 s).setAdmission m { state := .unconfigured, cls := 0, group := 0 }))

/-- The scan goes on over slots that hold the number it looks for, noting those not yet applied or not committed, and its end
gives the journal figures and starts recovery; where the slot of the last applied number itself fails, FAULT is set with JOURNAL
and that number, and recovery ends (R128), as it does at once in FAULT. Recovery's card step writes the record's image where the
card is older, and is done where it is not or once the write is verified; a failed write ends recovery (R129). After recovery an
EMPTY list whose period is above the released one is rebuilt, and then the admission table is loaded (R109, R130). A rebuild takes
each stored result of its period and group into the list, merchant by merchant; after merchant 240 a group-end closes a pass that
added records, and after the eighth pass the list-end makes the list COMPLETE (R99, R109). A bad record sets FAULT with MERCHANTS
and leaves the list BUILDING (R109), and so does a sum out of range.
Recovery goes on from the bodies the scan kept and reads no slot again (log 22), a sum out of range in a rebuild counts as a bad record (log 18), and one closed in the period with no result adds no entry (log 38): the model's readings and choices. -/
def Obligations.RecoverySteps : Prop :=
  let stage (st : StartStage) (s : State) : State := { s with jc := { s.jc with stage := st } }
  let figures (next pendingCount : Nat) (s : State) : State := { s with jc := { s.jc with
    next := next, oldest := s.mau.copy.oldest, untaken := next - s.mau.copy.oldest, pendingCount := pendingCount } }
  (∀ (n n' : Nat) (found : List JBody) (s : State), s.jc.serving = some (.scanRead n) → s.jc.stage = .scan n' found →
    let bs := Memory.readMany s.mem (73728 + (n - 1) % 4096 * 64) 64
    (∀ b, readBody bs = some b → b.number = n →
        let found' := if s.mau.copy.lastApplied < n ∨ isCommitted bs = false then found ++ [b] else found
        exec .journalScanReadDone s = .next (portNext 2 (issue (.scanRead (n + 1)) (stage (.scan (n + 1) found') s))))
      ∧ ((∀ b, readBody bs = some b → b.number ≠ n) → n = s.mau.copy.lastApplied →
          exec .journalScanReadDone s = .next (portNext 2 (finishRecovery (figures (n + 1) 0 (enterFault .journal n s)))))
      ∧ ((∀ b, readBody bs = some b → b.number ≠ n) → n ≠ s.mau.copy.lastApplied → s.jc.store = .fault →
          exec .journalScanReadDone s = .next (portNext 2 (finishRecovery (figures n found.length s))))
      ∧ ((∀ b, readBody bs = some b → b.number ≠ n) → n ≠ s.mau.copy.lastApplied → s.jc.store = .normal →
          let u := figures n found.length s
          (∀ b rest, found = b :: rest → b.kind ≠ .merchantState → b.kind ≠ .periodEnd → exec .journalScanReadDone s
              = .next (portNext 2 (issue (.recoveryCardRead b) (stage (.recover found false) u))))
            ∧ (∀ b rest, found = b :: rest → (b.kind = .merchantState ∨ b.kind = .periodEnd) → exec .journalScanReadDone s
              = .next (portNext 2 (stage (.recover found true) u)))
            ∧ (found = [] → exec .journalScanReadDone s = .next (portNext 2 (finishRecovery u)))))
  ∧ (∀ s : State,
    (s.pcu.state = .empty → s.mau.copy.released + 1 < s.mau.copy.accrued → finishRecovery s
        = issue (.rebuildRead 1) (stage .rebuild { s with pcu := { s.pcu with
            state := .building, entries := [], cursor := 0, period := s.mau.copy.accrued - 1, rebuild := some (0, 1) } }))
      ∧ (s.pcu.state ≠ .empty ∨ s.mau.copy.accrued ≤ s.mau.copy.released + 1 → finishRecovery s
        = issue (.admissionRead 1) (stage (.admission 1) s)))
  ∧ (∀ (b : JBody) (todo : List JBody) (done : Bool) (s : State), s.jc.stage = .recover todo done → 1 ≤ b.slot →
    b.slot ≤ 1048576 →
    let bs := Memory.readMany s.mem (335872 + (b.slot - 1) * 32) 32
    (s.jc.serving = some (.recoveryCardRead b) →
        (recordOk bs = true → b.number ≤ field bs 11 6 →
            exec .recoveryCardReadDone s = .next (portNext 2 (stage (.recover todo true) s)))
          ∧ (recordOk bs = false ∨ field bs 11 6 < b.number →
            exec .recoveryCardReadDone s = .next (portNext 2 (issue (.recoveryCardWrite b) s))))
      ∧ (∀ left, s.jc.serving = some (.recoveryCardWrite b) → exec (.recoveryCardWriteDone (some left)) s
          = .next (portNext 2 (finishRecovery (enterFault .cards b.number (leaveOp (.recoveryCardWrite b) left s)))))
      ∧ (s.jc.serving = some (.recoveryCardWrite b) → b.newState ≤ 3 →
          ∃ st : CardState, st.code = b.newState ∧
            let r : CardRec := { state := st, number := b.card, paid := b.imagePaid, bonus := b.imageBonus,
                                 lastJournal := b.number, activation := b.imageActivation, lastPeriod := b.period,
                                 count := b.imageCount }
            exec (.recoveryCardWriteDone none) s = .next (portNext 2 (stage (.recover todo true)
              { s with mem := Memory.writeMany s.mem (335872 + (b.slot - 1) * 32) r.bytes }))))
  ∧ ∀ (m g m' : Nat) (s : State), s.jc.serving = some (.rebuildRead m) → s.pcu.rebuild = some (g, m') →
    let read := readMerchant (Memory.readMany s.mem (12288 + (m - 1) * 256) 256)
    let sums (rs : List Payout) : PaySums :=
      { g := (rs.map Payout.g).sum, v := (rs.map Payout.v).sum, f := (rs.map Payout.f).sum, s := (rs.map Payout.s).sum
        c := (rs.map Payout.c).sum, x := (rs.map Payout.x).sum, payout := (rs.map Payout.payout).sum }
    let fails (es : List PayEntry) : Prop :=
      let t := enterFault .merchants 0 { s with pcu := { s.pcu with entries := es } }
      exec .rebuildReadDone s = .next (portNext 2 (issue (.admissionRead 1)
        (stage (.admission 1) { t with pcu := { t.pcu with state := .building, rebuild := none } })))
    let goes (es : List PayEntry) : Prop :=
      let list (es' : List PayEntry) (next : Option (Nat × Nat)) : State :=
        { s with pcu := { s.pcu with entries := es', rebuild := next } }
      let all := payoutsIn es
      let rs := all.filter fun p => p.group == g
      let passed := if rs = [] then es else es ++ [.groupEnd g rs.length (sums rs)]
      (m < 240 → exec .rebuildReadDone s = .next (portNext 2 (issue (.rebuildRead (m + 1)) (list es (some (g, m + 1))))))
        ∧ (m = 240 → rs = [] ∨ sumsFit (sums rs) = true →
          (g < 7 → exec .rebuildReadDone s = .next (portNext 2 (issue (.rebuildRead 1) (list passed (some (g + 1, 1))))))
            ∧ (g = 7 → sumsFit (sums all) = true →
              let t := list (passed ++ [.listEnd s.pcu.period all.length (groupEndsIn passed) (sums all)]) none
              exec .rebuildReadDone s = .next (portNext 2 (issue (.admissionRead 1)
                (stage (.admission 1) { t with pcu := { t.pcu with state := .complete } }))))
            ∧ (g = 7 → sumsFit (sums all) = false → fails passed))
        ∧ (m = 240 → rs ≠ [] → sumsFit (sums rs) = false → fails es)
    (∀ r pay, read = some r → r.lastClosed = s.pcu.period → r.lastResult = some pay → pay.group = g →
        goes (s.pcu.entries ++ [.merchant pay]))
      ∧ (∀ r, read = some r →
          r.lastClosed ≠ s.pcu.period ∨ r.lastResult = none ∨ (∃ pay, r.lastResult = some pay ∧ pay.group ≠ g) →
          goes s.pcu.entries)
      ∧ (read = none → fails s.pcu.entries)

/-! ### Till lines -/

/-- A line in IDLE-GAP with no all-station frame pending offers the turn to the lowest eligible entry from its position upward,
with a REPLY frame where a reply is held and a TURN frame else (R146, R147). With none left the round ends: where an entry was
offered in it, the next round begins at once from entry 0, SILENT entries eligible by its number; else the line waits, and the
wait's end begins the next round (R146). The last byte sent starts the answer window (R147). All-station frames go out in
IDLE-GAP, SERVICE-OPEN first, and their last byte returns the line to IDLE-GAP (R153).
When the position and the round move on is the model's choice (log 16). -/
def Obligations.LineTurns : Prop :=
  ∀ (n : Fin 4) (s : State),
    let l := s.line n.val
    let x (e : Nat) : Station := s.station n.val e
    let may (round e : Nat) : Prop := (x e).state = .absent ∨ (x e).state = .present ∨ ((x e).state = .silent ∧ round % 8 = 0)
    let becomes (c : Instr) (l' : Line) : Prop := exec c s = .next (s.setLine n.val l')
    let offers (l' : Line) (e : Nat) : Prop :=
      let offered : Line := { l' with offered := some e, answering := false, dropAnswer := false, offeredInRound := true, de := true }
      ((x e).held = none → becomes (.offerStart n)
          { offered with state := .offering, wire := tillFrame (x e).merchant (x e).lane 0x01 [] })
        ∧ (∀ r, (x e).held = some r → becomes (.offerStart n)
          { offered with state := .delivering,
                         wire := tillFrame (x e).merchant (x e).lane 0x02 (fig 1 (replyKind r.kind) ++ r.body false) })
    let round' := (l.round + 1) % 65536
    let next : Line := { l with round := round', position := 0, offeredInRound := false }
    (l.state = .idleGap → l.serviceOpen = none → l.periodChange = none → l.emptyWait = false →
        (∀ e, e < 48 → l.position ≤ e → may l.round e → (∀ i, i < e → l.position ≤ i → ¬may l.round i) → offers l e)
          ∧ ((∀ e, e < 48 → l.position ≤ e → ¬may l.round e) → l.offeredInRound = false →
              becomes (.offerStart n) { l with emptyWait := true })
          ∧ ((∀ e, e < 48 → l.position ≤ e → ¬may l.round e) → l.offeredInRound = true →
              (∀ e, e < 48 → may round' e → (∀ i, i < e → ¬may round' i) → offers next e)
                ∧ ((∀ e, e < 48 → ¬may round' e) → becomes (.offerStart n) { next with emptyWait := true })))
      ∧ (l.emptyWait = true → becomes (.emptyRoundWaitExpiry n) { next with emptyWait := false })
      ∧ ((l.state = .offering ∨ l.state = .delivering) → l.answering = false →
          becomes (.offerSent n) { l with de := false, answering := true, wire := [] })
      ∧ (∀ p, l.state = .idleGap → l.serviceOpen = some p → becomes (.broadcastStart n)
          { l with serviceOpen := none, state := .broadcasting, de := true, wire := tillFrame 0 0 0x03 (fig 4 p) })
      ∧ (∀ p, l.state = .idleGap → l.serviceOpen = none → l.periodChange = some p → becomes (.broadcastStart n)
          { l with periodChange := none, state := .broadcasting, de := true, wire := tillFrame 0 0 0x04 (fig 4 p) })
      ∧ (l.state = .broadcasting → becomes (.broadcastSent n) { l with state := .idleGap, de := false, wire := [] })

/-- The end of an offer (R147 to R151): a good answer clears misses and bad answers, counts up the run, makes an ABSENT or SILENT
entry PRESENT with STATION-CHANGE and after a REPLY frees the held reply. A REQUEST under a clear flag sets it: fields that fail
are held as BAD-REQUEST FIELD (R151), a card in no window as UNKNOWN-CARD (R6), no room as BUSY (R21), and else the request,
with the entry's merchant, takes the lowest free lock and its card is read, or joins its card's waiters (R45); under a set flag
it counts an error. No answer counts a miss, and the third makes the entry SILENT; a broken or bad answer counts an error and a
bad answer, and the third makes the entry FAULTY, its held reply discarded with REPLY-DISCARDED (R150, R152). Each returns the
line to IDLE-GAP with the position moved on, and that is all where the entry was disabled meanwhile (R154).
When the position and the round move on (log 16), that an answer is dropped after the entry is enabled again (log 17), and a BAD-REQUEST's figures (log 11, log 36) are the model's choices and readings. -/
def Obligations.LineAnswers : Prop :=
  ∀ (n : Fin 4) (e : Nat) (s : State), e < 48 → (s.line n.val).answering = true → (s.line n.val).offered = some e →
    let l := s.line n.val
    let x := s.station n.val e
    let closed : Line := { l with
      state := .idleGap, offered := none, answering := false, dropAnswer := false, de := false, wire := []
      position := if e < 47 then e + 1 else 0, round := if e < 47 then l.round else (l.round + 1) % 65536
      offeredInRound := if e < 47 then l.offeredInRound else false }
    let ended (t : State) : Prop := t.line n.val = { closed with stations := (t.line n.val).stations }
    let others (t : State) : Prop := (∀ n' e', n' < 4 → e' < 48 → (n', e') ≠ (n.val, e) → t.station n' e' = s.station n' e')
      ∧ (∀ n', n' < 4 → n' ≠ n.val → t.line n' = s.line n')
      ∧ (t.mem, t.windows, t.ht, t.mau, t.pcu, t.asu, t.pending) = (s.mem, s.windows, s.ht, s.mau, s.pcu, s.asu, s.pending)
    let up (limit n : Nat) : Nat := if n < limit then n + 1 else n
    let waked : Prop := x.state = .absent ∨ x.state = .silent
    let heard : Station := { x with misses := 0, bad := 0, run := up 65535 x.run
                                    state := if x.state = .absent ∨ x.state = .silent then .present else x.state
                                    held := if l.state = .delivering then none else x.held
                                    outstanding := if l.state = .delivering then false else x.outstanding }
    let changed (st : StationState) (gone : Option Reply) (t : State) : Prop := t.hlp = { s.hlp with
      notices := { s.hlp.notices with
        stationChange := some { line := n.val, entry := e, state := st, further :=
          match s.hlp.notices.stationChange with | some d => up 255 d.further | none => 0 }
        replyDiscarded := match gone with
          | none => s.hlp.notices.replyDiscarded
          | some r => some { line := n.val, entry := e, journal := r.journal, count :=
              match s.hlp.notices.replyDiscarded with | some d => up 255 d.count | none => 1 } }
      attnLow := s.hlp.attnLow || decide (s.jc.phase ≠ .startup) }
    (l.dropAnswer = true →
      let dropped (c : Instr) : Prop := exec c s = .next (s.setLine n.val closed)
      (∀ frame a, hear x frame = .good a → dropped (.goodAnswer n frame)) ∧ dropped (.answerWindowExpiry n)
        ∧ dropped (.answerGapExpiry n) ∧ ∀ frame, hear x frame = .bad → dropped (.badAnswer n frame))
    ∧ (l.dropAnswer = false →
      (∀ frame, hear x frame = .good .pass → ∃ t, exec (.goodAnswer n frame) s = .next t ∧ t.station n.val e = heard
          ∧ ended t ∧ others t ∧ (t.ce, t.jc) = (s.ce, s.jc) ∧ (waked → changed .present none t)
          ∧ (¬waked → t.hlp = s.hlp))
        ∧ (∀ frame kind body, hear x frame = .good (.request kind body) → x.state ≠ .faulty → x.state ≠ .disabled →
            ∃ t, exec (.goodAnswer n frame) s = .next t ∧ ended t ∧ others t ∧ (waked → changed .present none t)
              ∧ (¬waked → t.hlp = s.hlp)
              ∧ (heard.outstanding = true → t.station n.val e = { heard with errors := up 255 x.errors, run := 0 }
                  ∧ (t.ce, t.jc) = (s.ce, s.jc))
              ∧ (heard.outstanding = false →
                let asked : Option CardReq := match cardKindOf? kind.toNat with
                  | some .cashOut | some .block | some .unblock | none => none
                  | some k => cardRequest? k (.station n.val e) (byteOf x.merchant :: body)
                let answered (r : Reply) : Prop :=
                  t.station n.val e = { heard with outstanding := true, held := some r } ∧ (t.ce, t.jc) = (s.ce, s.jc)
                let inside (u : State) : Prop :=
                  t.station n.val e = { heard with outstanding := true } ∧ (t.ce, t.jc) = (u.ce, u.jc)
                (asked = none → answered (plainReply kind.toNat .badRequest 1 (carriedCard kind.toNat (byteOf x.merchant :: body))))
                  ∧ ∀ req, asked = some req →
                    let refused (st : Status) : Prop := answered (plainReply kind.toNat st 0 (fig 4 req.card))
                    let holds (w : Nat) : Prop := (s.window w).enabled = true ∧ (s.window w).low ≤ req.card ∧ req.card ≤ (s.window w).high
                    ((∀ w, w < 8 → ¬holds w) → refused .unknownCard)
                      ∧ ∀ w, w < 8 → holds w → (∀ v, v < w → ¬holds v) →
                        let own := { req with window := w, slot := (s.window w).base + (req.card - (s.window w).low) }
                        (∀ i k, i < 16 → s.lock i = some k → k.card = req.card →
                            (∀ j m, j < i → s.lock j = some m → m.card ≠ req.card) →
                            (k.waiters.length < 6 → inside (s.setLock i (some { k with waiters := k.waiters ++ [own] })))
                              ∧ (6 ≤ k.waiters.length → refused .busy))
                          ∧ ((∀ j m, j < 16 → s.lock j = some m → m.card ≠ req.card) →
                            (∀ i, i < 16 → s.lock i = none → (∀ j, j < i → s.lock j ≠ none) →
                                inside (issue (.cardRead i own.slot) (s.setLock i
                                  (some { card := req.card, owner := own, waiters := [], doing := .reading }))))
                              ∧ ((∀ i, i < 16 → s.lock i ≠ none) → refused .busy))))
        ∧ (∃ t, exec (.answerWindowExpiry n) s = .next t ∧ ended t ∧ others t ∧ (t.ce, t.jc) = (s.ce, s.jc)
            ∧ (3 ≤ up 255 x.misses → (x.state = .absent ∨ x.state = .present) →
                t.station n.val e = { x with misses := up 255 x.misses, state := .silent } ∧ changed .silent none t)
            ∧ (up 255 x.misses < 3 ∨ (x.state ≠ .absent ∧ x.state ≠ .present) →
                t.station n.val e = { x with misses := up 255 x.misses } ∧ t.hlp = s.hlp))
        ∧ (let bad : Station := { x with errors := up 255 x.errors, run := 0, bad := up 255 x.bad, misses := 0 }
           let fails (c : Instr) : Prop := ∃ t, exec c s = .next t ∧ ended t ∧ others t ∧ (t.ce, t.jc) = (s.ce, s.jc)
             ∧ (3 ≤ up 255 x.bad → (x.state = .absent ∨ x.state = .present ∨ x.state = .silent) →
                 t.station n.val e = { bad with state := .faulty, held := none, outstanding := x.outstanding && x.held.isNone }
                   ∧ changed .faulty x.held t)
             ∧ (up 255 x.bad < 3 ∨ x.state = .faulty ∨ x.state = .disabled → t.station n.val e = bad ∧ t.hlp = s.hlp)
           fails (.answerGapExpiry n) ∧ ∀ frame, hear x frame = .bad → fails (.badAnswer n frame)))
end

