-- ==== Sys2Proof/Laws/State.lean ====
section
/-! SUPPORT. For every named update of the state, what it leaves alone: one lemma for each field, true by unfolding, so that no
proof opens a record update. A block the update does not touch has one lemma, a block it touches one for each other field. -/

namespace Sys2Proof.Machine
open Sys2Proof

@[simp] theorem setLine_pending (s : State) (n : Nat) (l : Line) :
    (s.setLine n l).pending = s.pending := rfl
@[simp] theorem setLine_mem (s : State) (n : Nat) (l : Line) :
    (s.setLine n l).mem = s.mem := rfl
@[simp] theorem setLine_hlp (s : State) (n : Nat) (l : Line) :
    (s.setLine n l).hlp = s.hlp := rfl
@[simp] theorem setLine_windows (s : State) (n : Nat) (l : Line) :
    (s.setLine n l).windows = s.windows := rfl
@[simp] theorem setLine_ce (s : State) (n : Nat) (l : Line) :
    (s.setLine n l).ce = s.ce := rfl
@[simp] theorem setLine_ht (s : State) (n : Nat) (l : Line) :
    (s.setLine n l).ht = s.ht := rfl
@[simp] theorem setLine_jc (s : State) (n : Nat) (l : Line) :
    (s.setLine n l).jc = s.jc := rfl
@[simp] theorem setLine_mau (s : State) (n : Nat) (l : Line) :
    (s.setLine n l).mau = s.mau := rfl
@[simp] theorem setLine_pcu (s : State) (n : Nat) (l : Line) :
    (s.setLine n l).pcu = s.pcu := rfl
@[simp] theorem setLine_asu (s : State) (n : Nat) (l : Line) :
    (s.setLine n l).asu = s.asu := rfl

@[simp] theorem setStation_pending (s : State) (n e : Nat) (x : Station) :
    (s.setStation n e x).pending = s.pending := rfl
@[simp] theorem setStation_mem (s : State) (n e : Nat) (x : Station) :
    (s.setStation n e x).mem = s.mem := rfl
@[simp] theorem setStation_hlp (s : State) (n e : Nat) (x : Station) :
    (s.setStation n e x).hlp = s.hlp := rfl
@[simp] theorem setStation_windows (s : State) (n e : Nat) (x : Station) :
    (s.setStation n e x).windows = s.windows := rfl
@[simp] theorem setStation_ce (s : State) (n e : Nat) (x : Station) :
    (s.setStation n e x).ce = s.ce := rfl
@[simp] theorem setStation_ht (s : State) (n e : Nat) (x : Station) :
    (s.setStation n e x).ht = s.ht := rfl
@[simp] theorem setStation_jc (s : State) (n e : Nat) (x : Station) :
    (s.setStation n e x).jc = s.jc := rfl
@[simp] theorem setStation_mau (s : State) (n e : Nat) (x : Station) :
    (s.setStation n e x).mau = s.mau := rfl
@[simp] theorem setStation_pcu (s : State) (n e : Nat) (x : Station) :
    (s.setStation n e x).pcu = s.pcu := rfl
@[simp] theorem setStation_asu (s : State) (n e : Nat) (x : Station) :
    (s.setStation n e x).asu = s.asu := rfl

@[simp] theorem setLock_pending (s : State) (k : Nat) (l : Option LockSlot) :
    (s.setLock k l).pending = s.pending := rfl
@[simp] theorem setLock_mem (s : State) (k : Nat) (l : Option LockSlot) :
    (s.setLock k l).mem = s.mem := rfl
@[simp] theorem setLock_hlp (s : State) (k : Nat) (l : Option LockSlot) :
    (s.setLock k l).hlp = s.hlp := rfl
@[simp] theorem setLock_lines (s : State) (k : Nat) (l : Option LockSlot) :
    (s.setLock k l).lines = s.lines := rfl
@[simp] theorem setLock_windows (s : State) (k : Nat) (l : Option LockSlot) :
    (s.setLock k l).windows = s.windows := rfl
@[simp] theorem setLock_ce_ring (s : State) (k : Nat) (l : Option LockSlot) :
    (s.setLock k l).ce.ring = s.ce.ring := rfl
@[simp] theorem setLock_ht (s : State) (k : Nat) (l : Option LockSlot) :
    (s.setLock k l).ht = s.ht := rfl
@[simp] theorem setLock_jc (s : State) (k : Nat) (l : Option LockSlot) :
    (s.setLock k l).jc = s.jc := rfl
@[simp] theorem setLock_mau (s : State) (k : Nat) (l : Option LockSlot) :
    (s.setLock k l).mau = s.mau := rfl
@[simp] theorem setLock_pcu (s : State) (k : Nat) (l : Option LockSlot) :
    (s.setLock k l).pcu = s.pcu := rfl
@[simp] theorem setLock_asu (s : State) (k : Nat) (l : Option LockSlot) :
    (s.setLock k l).asu = s.asu := rfl

@[simp] theorem setAdmission_pending (s : State) (m : Nat) (a : Admission) :
    (s.setAdmission m a).pending = s.pending := rfl
@[simp] theorem setAdmission_mem (s : State) (m : Nat) (a : Admission) :
    (s.setAdmission m a).mem = s.mem := rfl
@[simp] theorem setAdmission_hlp (s : State) (m : Nat) (a : Admission) :
    (s.setAdmission m a).hlp = s.hlp := rfl
@[simp] theorem setAdmission_lines (s : State) (m : Nat) (a : Admission) :
    (s.setAdmission m a).lines = s.lines := rfl
@[simp] theorem setAdmission_windows (s : State) (m : Nat) (a : Admission) :
    (s.setAdmission m a).windows = s.windows := rfl
@[simp] theorem setAdmission_ce (s : State) (m : Nat) (a : Admission) :
    (s.setAdmission m a).ce = s.ce := rfl
@[simp] theorem setAdmission_ht (s : State) (m : Nat) (a : Admission) :
    (s.setAdmission m a).ht = s.ht := rfl
@[simp] theorem setAdmission_jc_phase (s : State) (m : Nat) (a : Admission) :
    (s.setAdmission m a).jc.phase = s.jc.phase := rfl
@[simp] theorem setAdmission_jc_stage (s : State) (m : Nat) (a : Admission) :
    (s.setAdmission m a).jc.stage = s.jc.stage := rfl
@[simp] theorem setAdmission_jc_cause (s : State) (m : Nat) (a : Admission) :
    (s.setAdmission m a).jc.cause = s.jc.cause := rfl
@[simp] theorem setAdmission_jc_recovered (s : State) (m : Nat) (a : Admission) :
    (s.setAdmission m a).jc.recovered = s.jc.recovered := rfl
@[simp] theorem setAdmission_jc_store (s : State) (m : Nat) (a : Admission) :
    (s.setAdmission m a).jc.store = s.jc.store := rfl
@[simp] theorem setAdmission_jc_next (s : State) (m : Nat) (a : Admission) :
    (s.setAdmission m a).jc.next = s.jc.next := rfl
@[simp] theorem setAdmission_jc_oldest (s : State) (m : Nat) (a : Admission) :
    (s.setAdmission m a).jc.oldest = s.jc.oldest := rfl
@[simp] theorem setAdmission_jc_untaken (s : State) (m : Nat) (a : Admission) :
    (s.setAdmission m a).jc.untaken = s.jc.untaken := rfl
@[simp] theorem setAdmission_jc_pendingCount (s : State) (m : Nat) (a : Admission) :
    (s.setAdmission m a).jc.pendingCount = s.jc.pendingCount := rfl
@[simp] theorem setAdmission_jc_appendQueue (s : State) (m : Nat) (a : Admission) :
    (s.setAdmission m a).jc.appendQueue = s.jc.appendQueue := rfl
@[simp] theorem setAdmission_jc_appendIssued (s : State) (m : Nat) (a : Admission) :
    (s.setAdmission m a).jc.appendIssued = s.jc.appendIssued := rfl
@[simp] theorem setAdmission_jc_appendPeriod (s : State) (m : Nat) (a : Admission) :
    (s.setAdmission m a).jc.appendPeriod = s.jc.appendPeriod := rfl
@[simp] theorem setAdmission_jc_tariffs (s : State) (m : Nat) (a : Admission) :
    (s.setAdmission m a).jc.tariffs = s.jc.tariffs := rfl
@[simp] theorem setAdmission_jc_serving (s : State) (m : Nat) (a : Admission) :
    (s.setAdmission m a).jc.serving = s.jc.serving := rfl
@[simp] theorem setAdmission_jc_waiting (s : State) (m : Nat) (a : Admission) :
    (s.setAdmission m a).jc.waiting = s.jc.waiting := rfl
@[simp] theorem setAdmission_jc_cfg (s : State) (m : Nat) (a : Admission) :
    (s.setAdmission m a).jc.cfg = s.jc.cfg := rfl
@[simp] theorem setAdmission_jc_cfgWaiting (s : State) (m : Nat) (a : Admission) :
    (s.setAdmission m a).jc.cfgWaiting = s.jc.cfgWaiting := rfl
@[simp] theorem setAdmission_jc_format (s : State) (m : Nat) (a : Admission) :
    (s.setAdmission m a).jc.format = s.jc.format := rfl
@[simp] theorem setAdmission_jc_advice (s : State) (m : Nat) (a : Admission) :
    (s.setAdmission m a).jc.advice = s.jc.advice := rfl
@[simp] theorem setAdmission_jc_adviceWaiting (s : State) (m : Nat) (a : Admission) :
    (s.setAdmission m a).jc.adviceWaiting = s.jc.adviceWaiting := rfl
@[simp] theorem setAdmission_mau (s : State) (m : Nat) (a : Admission) :
    (s.setAdmission m a).mau = s.mau := rfl
@[simp] theorem setAdmission_pcu (s : State) (m : Nat) (a : Admission) :
    (s.setAdmission m a).pcu = s.pcu := rfl
@[simp] theorem setAdmission_asu (s : State) (m : Nat) (a : Admission) :
    (s.setAdmission m a).asu = s.asu := rfl

@[simp] theorem setHolds_pending (s : State) (hs : List Hold) :
    (s.setHolds hs).pending = s.pending := rfl
@[simp] theorem setHolds_mem (s : State) (hs : List Hold) :
    (s.setHolds hs).mem = s.mem := rfl
@[simp] theorem setHolds_hlp (s : State) (hs : List Hold) :
    (s.setHolds hs).hlp = s.hlp := rfl
@[simp] theorem setHolds_lines (s : State) (hs : List Hold) :
    (s.setHolds hs).lines = s.lines := rfl
@[simp] theorem setHolds_windows (s : State) (hs : List Hold) :
    (s.setHolds hs).windows = s.windows := rfl
@[simp] theorem setHolds_ce (s : State) (hs : List Hold) :
    (s.setHolds hs).ce = s.ce := rfl
@[simp] theorem setHolds_ht_serial (s : State) (hs : List Hold) :
    (s.setHolds hs).ht.serial = s.ht.serial := rfl
@[simp] theorem setHolds_ht_epoch (s : State) (hs : List Hold) :
    (s.setHolds hs).ht.epoch = s.ht.epoch := rfl
@[simp] theorem setHolds_ht_seconds (s : State) (hs : List Hold) :
    (s.setHolds hs).ht.seconds = s.ht.seconds := rfl
@[simp] theorem setHolds_ht_timeSet (s : State) (hs : List Hold) :
    (s.setHolds hs).ht.timeSet = s.ht.timeSet := rfl
@[simp] theorem setHolds_jc (s : State) (hs : List Hold) :
    (s.setHolds hs).jc = s.jc := rfl
@[simp] theorem setHolds_mau (s : State) (hs : List Hold) :
    (s.setHolds hs).mau = s.mau := rfl
@[simp] theorem setHolds_pcu (s : State) (hs : List Hold) :
    (s.setHolds hs).pcu = s.pcu := rfl
@[simp] theorem setHolds_asu (s : State) (hs : List Hold) :
    (s.setHolds hs).asu = s.asu := rfl

@[simp] theorem removeHold_pending (card slot epoch serial : Nat) (s : State) :
    (removeHold card slot epoch serial s).pending = s.pending := rfl
@[simp] theorem removeHold_mem (card slot epoch serial : Nat) (s : State) :
    (removeHold card slot epoch serial s).mem = s.mem := rfl
@[simp] theorem removeHold_hlp (card slot epoch serial : Nat) (s : State) :
    (removeHold card slot epoch serial s).hlp = s.hlp := rfl
@[simp] theorem removeHold_lines (card slot epoch serial : Nat) (s : State) :
    (removeHold card slot epoch serial s).lines = s.lines := rfl
@[simp] theorem removeHold_windows (card slot epoch serial : Nat) (s : State) :
    (removeHold card slot epoch serial s).windows = s.windows := rfl
@[simp] theorem removeHold_ce (card slot epoch serial : Nat) (s : State) :
    (removeHold card slot epoch serial s).ce = s.ce := rfl
@[simp] theorem removeHold_ht_serial (card slot epoch serial : Nat) (s : State) :
    (removeHold card slot epoch serial s).ht.serial = s.ht.serial := rfl
@[simp] theorem removeHold_ht_epoch (card slot epoch serial : Nat) (s : State) :
    (removeHold card slot epoch serial s).ht.epoch = s.ht.epoch := rfl
@[simp] theorem removeHold_ht_seconds (card slot epoch serial : Nat) (s : State) :
    (removeHold card slot epoch serial s).ht.seconds = s.ht.seconds := rfl
@[simp] theorem removeHold_ht_timeSet (card slot epoch serial : Nat) (s : State) :
    (removeHold card slot epoch serial s).ht.timeSet = s.ht.timeSet := rfl
@[simp] theorem removeHold_jc (card slot epoch serial : Nat) (s : State) :
    (removeHold card slot epoch serial s).jc = s.jc := rfl
@[simp] theorem removeHold_mau (card slot epoch serial : Nat) (s : State) :
    (removeHold card slot epoch serial s).mau = s.mau := rfl
@[simp] theorem removeHold_pcu (card slot epoch serial : Nat) (s : State) :
    (removeHold card slot epoch serial s).pcu = s.pcu := rfl
@[simp] theorem removeHold_asu (card slot epoch serial : Nat) (s : State) :
    (removeHold card slot epoch serial s).asu = s.asu := rfl

@[simp] theorem markHold_pending (card slot epoch serial : Nat) (st : HoldState) (s : State) :
    (markHold card slot epoch serial st s).pending = s.pending := rfl
@[simp] theorem markHold_mem (card slot epoch serial : Nat) (st : HoldState) (s : State) :
    (markHold card slot epoch serial st s).mem = s.mem := rfl
@[simp] theorem markHold_hlp (card slot epoch serial : Nat) (st : HoldState) (s : State) :
    (markHold card slot epoch serial st s).hlp = s.hlp := rfl
@[simp] theorem markHold_lines (card slot epoch serial : Nat) (st : HoldState) (s : State) :
    (markHold card slot epoch serial st s).lines = s.lines := rfl
@[simp] theorem markHold_windows (card slot epoch serial : Nat) (st : HoldState) (s : State) :
    (markHold card slot epoch serial st s).windows = s.windows := rfl
@[simp] theorem markHold_ce (card slot epoch serial : Nat) (st : HoldState) (s : State) :
    (markHold card slot epoch serial st s).ce = s.ce := rfl
@[simp] theorem markHold_ht_serial (card slot epoch serial : Nat) (st : HoldState) (s : State) :
    (markHold card slot epoch serial st s).ht.serial = s.ht.serial := rfl
@[simp] theorem markHold_ht_epoch (card slot epoch serial : Nat) (st : HoldState) (s : State) :
    (markHold card slot epoch serial st s).ht.epoch = s.ht.epoch := rfl
@[simp] theorem markHold_ht_seconds (card slot epoch serial : Nat) (st : HoldState) (s : State) :
    (markHold card slot epoch serial st s).ht.seconds = s.ht.seconds := rfl
@[simp] theorem markHold_ht_timeSet (card slot epoch serial : Nat) (st : HoldState) (s : State) :
    (markHold card slot epoch serial st s).ht.timeSet = s.ht.timeSet := rfl
@[simp] theorem markHold_jc (card slot epoch serial : Nat) (st : HoldState) (s : State) :
    (markHold card slot epoch serial st s).jc = s.jc := rfl
@[simp] theorem markHold_mau (card slot epoch serial : Nat) (st : HoldState) (s : State) :
    (markHold card slot epoch serial st s).mau = s.mau := rfl
@[simp] theorem markHold_pcu (card slot epoch serial : Nat) (st : HoldState) (s : State) :
    (markHold card slot epoch serial st s).pcu = s.pcu := rfl
@[simp] theorem markHold_asu (card slot epoch serial : Nat) (st : HoldState) (s : State) :
    (markHold card slot epoch serial st s).asu = s.asu := rfl

@[simp] theorem clearChain_pending (card slot : Nat) (s : State) :
    (clearChain card slot s).pending = s.pending := rfl
@[simp] theorem clearChain_mem (card slot : Nat) (s : State) :
    (clearChain card slot s).mem = s.mem := rfl
@[simp] theorem clearChain_hlp (card slot : Nat) (s : State) :
    (clearChain card slot s).hlp = s.hlp := rfl
@[simp] theorem clearChain_lines (card slot : Nat) (s : State) :
    (clearChain card slot s).lines = s.lines := rfl
@[simp] theorem clearChain_windows (card slot : Nat) (s : State) :
    (clearChain card slot s).windows = s.windows := rfl
@[simp] theorem clearChain_ce (card slot : Nat) (s : State) :
    (clearChain card slot s).ce = s.ce := rfl
@[simp] theorem clearChain_ht_serial (card slot : Nat) (s : State) :
    (clearChain card slot s).ht.serial = s.ht.serial := rfl
@[simp] theorem clearChain_ht_epoch (card slot : Nat) (s : State) :
    (clearChain card slot s).ht.epoch = s.ht.epoch := rfl
@[simp] theorem clearChain_ht_seconds (card slot : Nat) (s : State) :
    (clearChain card slot s).ht.seconds = s.ht.seconds := rfl
@[simp] theorem clearChain_ht_timeSet (card slot : Nat) (s : State) :
    (clearChain card slot s).ht.timeSet = s.ht.timeSet := rfl
@[simp] theorem clearChain_jc (card slot : Nat) (s : State) :
    (clearChain card slot s).jc = s.jc := rfl
@[simp] theorem clearChain_mau (card slot : Nat) (s : State) :
    (clearChain card slot s).mau = s.mau := rfl
@[simp] theorem clearChain_pcu (card slot : Nat) (s : State) :
    (clearChain card slot s).pcu = s.pcu := rfl
@[simp] theorem clearChain_asu (card slot : Nat) (s : State) :
    (clearChain card slot s).asu = s.asu := rfl

@[simp] theorem raise_pending (f : Notices → Notices) (s : State) :
    (raise f s).pending = s.pending := rfl
@[simp] theorem raise_mem (f : Notices → Notices) (s : State) :
    (raise f s).mem = s.mem := rfl
@[simp] theorem raise_hlp_straps (f : Notices → Notices) (s : State) :
    (raise f s).hlp.straps = s.hlp.straps := rfl
@[simp] theorem raise_hlp_rate (f : Notices → Notices) (s : State) :
    (raise f s).hlp.rate = s.hlp.rate := rfl
@[simp] theorem raise_hlp_inbound (f : Notices → Notices) (s : State) :
    (raise f s).hlp.inbound = s.hlp.inbound := rfl
@[simp] theorem raise_hlp_deaf (f : Notices → Notices) (s : State) :
    (raise f s).hlp.deaf = s.hlp.deaf := rfl
@[simp] theorem raise_hlp_inFlight (f : Notices → Notices) (s : State) :
    (raise f s).hlp.inFlight = s.hlp.inFlight := rfl
@[simp] theorem raise_hlp_outbound (f : Notices → Notices) (s : State) :
    (raise f s).hlp.outbound = s.hlp.outbound := rfl
@[simp] theorem raise_lines (f : Notices → Notices) (s : State) :
    (raise f s).lines = s.lines := rfl
@[simp] theorem raise_windows (f : Notices → Notices) (s : State) :
    (raise f s).windows = s.windows := rfl
@[simp] theorem raise_ce (f : Notices → Notices) (s : State) :
    (raise f s).ce = s.ce := rfl
@[simp] theorem raise_ht (f : Notices → Notices) (s : State) :
    (raise f s).ht = s.ht := rfl
@[simp] theorem raise_jc (f : Notices → Notices) (s : State) :
    (raise f s).jc = s.jc := rfl
@[simp] theorem raise_mau (f : Notices → Notices) (s : State) :
    (raise f s).mau = s.mau := rfl
@[simp] theorem raise_pcu (f : Notices → Notices) (s : State) :
    (raise f s).pcu = s.pcu := rfl
@[simp] theorem raise_asu (f : Notices → Notices) (s : State) :
    (raise f s).asu = s.asu := rfl

@[simp] theorem raiseStoreFault_pending (region : Region) (j : Nat) (s : State) :
    (raiseStoreFault region j s).pending = s.pending := rfl
@[simp] theorem raiseStoreFault_mem (region : Region) (j : Nat) (s : State) :
    (raiseStoreFault region j s).mem = s.mem := rfl
@[simp] theorem raiseStoreFault_hlp_straps (region : Region) (j : Nat) (s : State) :
    (raiseStoreFault region j s).hlp.straps = s.hlp.straps := rfl
@[simp] theorem raiseStoreFault_hlp_rate (region : Region) (j : Nat) (s : State) :
    (raiseStoreFault region j s).hlp.rate = s.hlp.rate := rfl
@[simp] theorem raiseStoreFault_hlp_inbound (region : Region) (j : Nat) (s : State) :
    (raiseStoreFault region j s).hlp.inbound = s.hlp.inbound := rfl
@[simp] theorem raiseStoreFault_hlp_deaf (region : Region) (j : Nat) (s : State) :
    (raiseStoreFault region j s).hlp.deaf = s.hlp.deaf := rfl
@[simp] theorem raiseStoreFault_hlp_inFlight (region : Region) (j : Nat) (s : State) :
    (raiseStoreFault region j s).hlp.inFlight = s.hlp.inFlight := rfl
@[simp] theorem raiseStoreFault_hlp_outbound (region : Region) (j : Nat) (s : State) :
    (raiseStoreFault region j s).hlp.outbound = s.hlp.outbound := rfl
@[simp] theorem raiseStoreFault_lines (region : Region) (j : Nat) (s : State) :
    (raiseStoreFault region j s).lines = s.lines := rfl
@[simp] theorem raiseStoreFault_windows (region : Region) (j : Nat) (s : State) :
    (raiseStoreFault region j s).windows = s.windows := rfl
@[simp] theorem raiseStoreFault_ce (region : Region) (j : Nat) (s : State) :
    (raiseStoreFault region j s).ce = s.ce := rfl
@[simp] theorem raiseStoreFault_ht (region : Region) (j : Nat) (s : State) :
    (raiseStoreFault region j s).ht = s.ht := rfl
@[simp] theorem raiseStoreFault_jc (region : Region) (j : Nat) (s : State) :
    (raiseStoreFault region j s).jc = s.jc := rfl
@[simp] theorem raiseStoreFault_mau (region : Region) (j : Nat) (s : State) :
    (raiseStoreFault region j s).mau = s.mau := rfl
@[simp] theorem raiseStoreFault_pcu (region : Region) (j : Nat) (s : State) :
    (raiseStoreFault region j s).pcu = s.pcu := rfl
@[simp] theorem raiseStoreFault_asu (region : Region) (j : Nat) (s : State) :
    (raiseStoreFault region j s).asu = s.asu := rfl

@[simp] theorem raiseStationChange_pending (n e : Nat) (st : StationState) (s : State) :
    (raiseStationChange n e st s).pending = s.pending := rfl
@[simp] theorem raiseStationChange_mem (n e : Nat) (st : StationState) (s : State) :
    (raiseStationChange n e st s).mem = s.mem := rfl
@[simp] theorem raiseStationChange_hlp_straps (n e : Nat) (st : StationState) (s : State) :
    (raiseStationChange n e st s).hlp.straps = s.hlp.straps := rfl
@[simp] theorem raiseStationChange_hlp_rate (n e : Nat) (st : StationState) (s : State) :
    (raiseStationChange n e st s).hlp.rate = s.hlp.rate := rfl
@[simp] theorem raiseStationChange_hlp_inbound (n e : Nat) (st : StationState) (s : State) :
    (raiseStationChange n e st s).hlp.inbound = s.hlp.inbound := rfl
@[simp] theorem raiseStationChange_hlp_deaf (n e : Nat) (st : StationState) (s : State) :
    (raiseStationChange n e st s).hlp.deaf = s.hlp.deaf := rfl
@[simp] theorem raiseStationChange_hlp_inFlight (n e : Nat) (st : StationState) (s : State) :
    (raiseStationChange n e st s).hlp.inFlight = s.hlp.inFlight := rfl
@[simp] theorem raiseStationChange_hlp_outbound (n e : Nat) (st : StationState) (s : State) :
    (raiseStationChange n e st s).hlp.outbound = s.hlp.outbound := rfl
@[simp] theorem raiseStationChange_lines (n e : Nat) (st : StationState) (s : State) :
    (raiseStationChange n e st s).lines = s.lines := rfl
@[simp] theorem raiseStationChange_windows (n e : Nat) (st : StationState) (s : State) :
    (raiseStationChange n e st s).windows = s.windows := rfl
@[simp] theorem raiseStationChange_ce (n e : Nat) (st : StationState) (s : State) :
    (raiseStationChange n e st s).ce = s.ce := rfl
@[simp] theorem raiseStationChange_ht (n e : Nat) (st : StationState) (s : State) :
    (raiseStationChange n e st s).ht = s.ht := rfl
@[simp] theorem raiseStationChange_jc (n e : Nat) (st : StationState) (s : State) :
    (raiseStationChange n e st s).jc = s.jc := rfl
@[simp] theorem raiseStationChange_mau (n e : Nat) (st : StationState) (s : State) :
    (raiseStationChange n e st s).mau = s.mau := rfl
@[simp] theorem raiseStationChange_pcu (n e : Nat) (st : StationState) (s : State) :
    (raiseStationChange n e st s).pcu = s.pcu := rfl
@[simp] theorem raiseStationChange_asu (n e : Nat) (st : StationState) (s : State) :
    (raiseStationChange n e st s).asu = s.asu := rfl

@[simp] theorem raiseHoldsExpired_pending (s : State) :
    (raiseHoldsExpired s).pending = s.pending := rfl
@[simp] theorem raiseHoldsExpired_mem (s : State) :
    (raiseHoldsExpired s).mem = s.mem := rfl
@[simp] theorem raiseHoldsExpired_hlp_straps (s : State) :
    (raiseHoldsExpired s).hlp.straps = s.hlp.straps := rfl
@[simp] theorem raiseHoldsExpired_hlp_rate (s : State) :
    (raiseHoldsExpired s).hlp.rate = s.hlp.rate := rfl
@[simp] theorem raiseHoldsExpired_hlp_inbound (s : State) :
    (raiseHoldsExpired s).hlp.inbound = s.hlp.inbound := rfl
@[simp] theorem raiseHoldsExpired_hlp_deaf (s : State) :
    (raiseHoldsExpired s).hlp.deaf = s.hlp.deaf := rfl
@[simp] theorem raiseHoldsExpired_hlp_inFlight (s : State) :
    (raiseHoldsExpired s).hlp.inFlight = s.hlp.inFlight := rfl
@[simp] theorem raiseHoldsExpired_hlp_outbound (s : State) :
    (raiseHoldsExpired s).hlp.outbound = s.hlp.outbound := rfl
@[simp] theorem raiseHoldsExpired_lines (s : State) :
    (raiseHoldsExpired s).lines = s.lines := rfl
@[simp] theorem raiseHoldsExpired_windows (s : State) :
    (raiseHoldsExpired s).windows = s.windows := rfl
@[simp] theorem raiseHoldsExpired_ce (s : State) :
    (raiseHoldsExpired s).ce = s.ce := rfl
@[simp] theorem raiseHoldsExpired_ht (s : State) :
    (raiseHoldsExpired s).ht = s.ht := rfl
@[simp] theorem raiseHoldsExpired_jc (s : State) :
    (raiseHoldsExpired s).jc = s.jc := rfl
@[simp] theorem raiseHoldsExpired_mau (s : State) :
    (raiseHoldsExpired s).mau = s.mau := rfl
@[simp] theorem raiseHoldsExpired_pcu (s : State) :
    (raiseHoldsExpired s).pcu = s.pcu := rfl
@[simp] theorem raiseHoldsExpired_asu (s : State) :
    (raiseHoldsExpired s).asu = s.asu := rfl

@[simp] theorem raiseReplyDiscarded_pending (n e j : Nat) (s : State) :
    (raiseReplyDiscarded n e j s).pending = s.pending := rfl
@[simp] theorem raiseReplyDiscarded_mem (n e j : Nat) (s : State) :
    (raiseReplyDiscarded n e j s).mem = s.mem := rfl
@[simp] theorem raiseReplyDiscarded_hlp_straps (n e j : Nat) (s : State) :
    (raiseReplyDiscarded n e j s).hlp.straps = s.hlp.straps := rfl
@[simp] theorem raiseReplyDiscarded_hlp_rate (n e j : Nat) (s : State) :
    (raiseReplyDiscarded n e j s).hlp.rate = s.hlp.rate := rfl
@[simp] theorem raiseReplyDiscarded_hlp_inbound (n e j : Nat) (s : State) :
    (raiseReplyDiscarded n e j s).hlp.inbound = s.hlp.inbound := rfl
@[simp] theorem raiseReplyDiscarded_hlp_deaf (n e j : Nat) (s : State) :
    (raiseReplyDiscarded n e j s).hlp.deaf = s.hlp.deaf := rfl
@[simp] theorem raiseReplyDiscarded_hlp_inFlight (n e j : Nat) (s : State) :
    (raiseReplyDiscarded n e j s).hlp.inFlight = s.hlp.inFlight := rfl
@[simp] theorem raiseReplyDiscarded_hlp_outbound (n e j : Nat) (s : State) :
    (raiseReplyDiscarded n e j s).hlp.outbound = s.hlp.outbound := rfl
@[simp] theorem raiseReplyDiscarded_lines (n e j : Nat) (s : State) :
    (raiseReplyDiscarded n e j s).lines = s.lines := rfl
@[simp] theorem raiseReplyDiscarded_windows (n e j : Nat) (s : State) :
    (raiseReplyDiscarded n e j s).windows = s.windows := rfl
@[simp] theorem raiseReplyDiscarded_ce (n e j : Nat) (s : State) :
    (raiseReplyDiscarded n e j s).ce = s.ce := rfl
@[simp] theorem raiseReplyDiscarded_ht (n e j : Nat) (s : State) :
    (raiseReplyDiscarded n e j s).ht = s.ht := rfl
@[simp] theorem raiseReplyDiscarded_jc (n e j : Nat) (s : State) :
    (raiseReplyDiscarded n e j s).jc = s.jc := rfl
@[simp] theorem raiseReplyDiscarded_mau (n e j : Nat) (s : State) :
    (raiseReplyDiscarded n e j s).mau = s.mau := rfl
@[simp] theorem raiseReplyDiscarded_pcu (n e j : Nat) (s : State) :
    (raiseReplyDiscarded n e j s).pcu = s.pcu := rfl
@[simp] theorem raiseReplyDiscarded_asu (n e j : Nat) (s : State) :
    (raiseReplyDiscarded n e j s).asu = s.asu := rfl

@[simp] theorem pushFrame_pending (f : OutFrame) (s : State) :
    (pushFrame f s).pending = s.pending := rfl
@[simp] theorem pushFrame_mem (f : OutFrame) (s : State) :
    (pushFrame f s).mem = s.mem := rfl
@[simp] theorem pushFrame_hlp_straps (f : OutFrame) (s : State) :
    (pushFrame f s).hlp.straps = s.hlp.straps := rfl
@[simp] theorem pushFrame_hlp_rate (f : OutFrame) (s : State) :
    (pushFrame f s).hlp.rate = s.hlp.rate := rfl
@[simp] theorem pushFrame_hlp_inbound (f : OutFrame) (s : State) :
    (pushFrame f s).hlp.inbound = s.hlp.inbound := rfl
@[simp] theorem pushFrame_hlp_deaf (f : OutFrame) (s : State) :
    (pushFrame f s).hlp.deaf = s.hlp.deaf := rfl
@[simp] theorem pushFrame_hlp_inFlight (f : OutFrame) (s : State) :
    (pushFrame f s).hlp.inFlight = s.hlp.inFlight := rfl
@[simp] theorem pushFrame_hlp_notices (f : OutFrame) (s : State) :
    (pushFrame f s).hlp.notices = s.hlp.notices := rfl
@[simp] theorem pushFrame_hlp_attnLow (f : OutFrame) (s : State) :
    (pushFrame f s).hlp.attnLow = s.hlp.attnLow := rfl
@[simp] theorem pushFrame_lines (f : OutFrame) (s : State) :
    (pushFrame f s).lines = s.lines := rfl
@[simp] theorem pushFrame_windows (f : OutFrame) (s : State) :
    (pushFrame f s).windows = s.windows := rfl
@[simp] theorem pushFrame_ce (f : OutFrame) (s : State) :
    (pushFrame f s).ce = s.ce := rfl
@[simp] theorem pushFrame_ht (f : OutFrame) (s : State) :
    (pushFrame f s).ht = s.ht := rfl
@[simp] theorem pushFrame_jc (f : OutFrame) (s : State) :
    (pushFrame f s).jc = s.jc := rfl
@[simp] theorem pushFrame_mau (f : OutFrame) (s : State) :
    (pushFrame f s).mau = s.mau := rfl
@[simp] theorem pushFrame_pcu (f : OutFrame) (s : State) :
    (pushFrame f s).pcu = s.pcu := rfl
@[simp] theorem pushFrame_asu (f : OutFrame) (s : State) :
    (pushFrame f s).asu = s.asu := rfl

@[simp] theorem sendLink_pending (tag : Nat) (r : Reply) (s : State) :
    (sendLink tag r s).pending = s.pending := rfl
@[simp] theorem sendLink_mem (tag : Nat) (r : Reply) (s : State) :
    (sendLink tag r s).mem = s.mem := rfl
@[simp] theorem sendLink_hlp_straps (tag : Nat) (r : Reply) (s : State) :
    (sendLink tag r s).hlp.straps = s.hlp.straps := rfl
@[simp] theorem sendLink_hlp_rate (tag : Nat) (r : Reply) (s : State) :
    (sendLink tag r s).hlp.rate = s.hlp.rate := rfl
@[simp] theorem sendLink_hlp_inbound (tag : Nat) (r : Reply) (s : State) :
    (sendLink tag r s).hlp.inbound = s.hlp.inbound := rfl
@[simp] theorem sendLink_hlp_deaf (tag : Nat) (r : Reply) (s : State) :
    (sendLink tag r s).hlp.deaf = s.hlp.deaf := rfl
@[simp] theorem sendLink_hlp_inFlight (tag : Nat) (r : Reply) (s : State) :
    (sendLink tag r s).hlp.inFlight = s.hlp.inFlight := rfl
@[simp] theorem sendLink_hlp_notices (tag : Nat) (r : Reply) (s : State) :
    (sendLink tag r s).hlp.notices = s.hlp.notices := rfl
@[simp] theorem sendLink_hlp_attnLow (tag : Nat) (r : Reply) (s : State) :
    (sendLink tag r s).hlp.attnLow = s.hlp.attnLow := rfl
@[simp] theorem sendLink_lines (tag : Nat) (r : Reply) (s : State) :
    (sendLink tag r s).lines = s.lines := rfl
@[simp] theorem sendLink_windows (tag : Nat) (r : Reply) (s : State) :
    (sendLink tag r s).windows = s.windows := rfl
@[simp] theorem sendLink_ce (tag : Nat) (r : Reply) (s : State) :
    (sendLink tag r s).ce = s.ce := rfl
@[simp] theorem sendLink_ht (tag : Nat) (r : Reply) (s : State) :
    (sendLink tag r s).ht = s.ht := rfl
@[simp] theorem sendLink_jc (tag : Nat) (r : Reply) (s : State) :
    (sendLink tag r s).jc = s.jc := rfl
@[simp] theorem sendLink_mau (tag : Nat) (r : Reply) (s : State) :
    (sendLink tag r s).mau = s.mau := rfl
@[simp] theorem sendLink_pcu (tag : Nat) (r : Reply) (s : State) :
    (sendLink tag r s).pcu = s.pcu := rfl
@[simp] theorem sendLink_asu (tag : Nat) (r : Reply) (s : State) :
    (sendLink tag r s).asu = s.asu := rfl

@[simp] theorem discardReply_pending (n e : Nat) (r : Reply) (s : State) :
    (discardReply n e r s).pending = s.pending := rfl
@[simp] theorem discardReply_mem (n e : Nat) (r : Reply) (s : State) :
    (discardReply n e r s).mem = s.mem := rfl
@[simp] theorem discardReply_hlp_straps (n e : Nat) (r : Reply) (s : State) :
    (discardReply n e r s).hlp.straps = s.hlp.straps := rfl
@[simp] theorem discardReply_hlp_rate (n e : Nat) (r : Reply) (s : State) :
    (discardReply n e r s).hlp.rate = s.hlp.rate := rfl
@[simp] theorem discardReply_hlp_inbound (n e : Nat) (r : Reply) (s : State) :
    (discardReply n e r s).hlp.inbound = s.hlp.inbound := rfl
@[simp] theorem discardReply_hlp_deaf (n e : Nat) (r : Reply) (s : State) :
    (discardReply n e r s).hlp.deaf = s.hlp.deaf := rfl
@[simp] theorem discardReply_hlp_inFlight (n e : Nat) (r : Reply) (s : State) :
    (discardReply n e r s).hlp.inFlight = s.hlp.inFlight := rfl
@[simp] theorem discardReply_hlp_outbound (n e : Nat) (r : Reply) (s : State) :
    (discardReply n e r s).hlp.outbound = s.hlp.outbound := rfl
@[simp] theorem discardReply_windows (n e : Nat) (r : Reply) (s : State) :
    (discardReply n e r s).windows = s.windows := rfl
@[simp] theorem discardReply_ce (n e : Nat) (r : Reply) (s : State) :
    (discardReply n e r s).ce = s.ce := rfl
@[simp] theorem discardReply_ht (n e : Nat) (r : Reply) (s : State) :
    (discardReply n e r s).ht = s.ht := rfl
@[simp] theorem discardReply_jc (n e : Nat) (r : Reply) (s : State) :
    (discardReply n e r s).jc = s.jc := rfl
@[simp] theorem discardReply_mau (n e : Nat) (r : Reply) (s : State) :
    (discardReply n e r s).mau = s.mau := rfl
@[simp] theorem discardReply_pcu (n e : Nat) (r : Reply) (s : State) :
    (discardReply n e r s).pcu = s.pcu := rfl
@[simp] theorem discardReply_asu (n e : Nat) (r : Reply) (s : State) :
    (discardReply n e r s).asu = s.asu := rfl

@[simp] theorem joinAccrual_pending (b : JBody) (s : State) :
    (joinAccrual b s).pending = s.pending := rfl
@[simp] theorem joinAccrual_mem (b : JBody) (s : State) :
    (joinAccrual b s).mem = s.mem := rfl
@[simp] theorem joinAccrual_hlp (b : JBody) (s : State) :
    (joinAccrual b s).hlp = s.hlp := rfl
@[simp] theorem joinAccrual_lines (b : JBody) (s : State) :
    (joinAccrual b s).lines = s.lines := rfl
@[simp] theorem joinAccrual_windows (b : JBody) (s : State) :
    (joinAccrual b s).windows = s.windows := rfl
@[simp] theorem joinAccrual_ce (b : JBody) (s : State) :
    (joinAccrual b s).ce = s.ce := rfl
@[simp] theorem joinAccrual_ht (b : JBody) (s : State) :
    (joinAccrual b s).ht = s.ht := rfl
@[simp] theorem joinAccrual_jc (b : JBody) (s : State) :
    (joinAccrual b s).jc = s.jc := rfl
@[simp] theorem joinAccrual_mau_copy (b : JBody) (s : State) :
    (joinAccrual b s).mau.copy = s.mau.copy := rfl
@[simp] theorem joinAccrual_mau_accrual (b : JBody) (s : State) :
    (joinAccrual b s).mau.accrual = s.mau.accrual := rfl
@[simp] theorem joinAccrual_mau_walk (b : JBody) (s : State) :
    (joinAccrual b s).mau.walk = s.mau.walk := rfl
@[simp] theorem joinAccrual_mau_totalsBusy (b : JBody) (s : State) :
    (joinAccrual b s).mau.totalsBusy = s.mau.totalsBusy := rfl
@[simp] theorem joinAccrual_mau_totalsDue (b : JBody) (s : State) :
    (joinAccrual b s).mau.totalsDue = s.mau.totalsDue := rfl
@[simp] theorem joinAccrual_pcu (b : JBody) (s : State) :
    (joinAccrual b s).pcu = s.pcu := rfl
@[simp] theorem joinAccrual_asu (b : JBody) (s : State) :
    (joinAccrual b s).asu = s.asu := rfl

@[simp] theorem addEntry_pending (e : PayEntry) (s : State) :
    (addEntry e s).pending = s.pending := rfl
@[simp] theorem addEntry_mem (e : PayEntry) (s : State) :
    (addEntry e s).mem = s.mem := rfl
@[simp] theorem addEntry_hlp (e : PayEntry) (s : State) :
    (addEntry e s).hlp = s.hlp := rfl
@[simp] theorem addEntry_lines (e : PayEntry) (s : State) :
    (addEntry e s).lines = s.lines := rfl
@[simp] theorem addEntry_windows (e : PayEntry) (s : State) :
    (addEntry e s).windows = s.windows := rfl
@[simp] theorem addEntry_ce (e : PayEntry) (s : State) :
    (addEntry e s).ce = s.ce := rfl
@[simp] theorem addEntry_ht (e : PayEntry) (s : State) :
    (addEntry e s).ht = s.ht := rfl
@[simp] theorem addEntry_jc (e : PayEntry) (s : State) :
    (addEntry e s).jc = s.jc := rfl
@[simp] theorem addEntry_mau (e : PayEntry) (s : State) :
    (addEntry e s).mau = s.mau := rfl
@[simp] theorem addEntry_pcu_cursor (e : PayEntry) (s : State) :
    (addEntry e s).pcu.cursor = s.pcu.cursor := rfl
@[simp] theorem addEntry_pcu_state (e : PayEntry) (s : State) :
    (addEntry e s).pcu.state = s.pcu.state := rfl
@[simp] theorem addEntry_pcu_period (e : PayEntry) (s : State) :
    (addEntry e s).pcu.period = s.pcu.period := rfl
@[simp] theorem addEntry_pcu_releasing (e : PayEntry) (s : State) :
    (addEntry e s).pcu.releasing = s.pcu.releasing := rfl
@[simp] theorem addEntry_pcu_rebuild (e : PayEntry) (s : State) :
    (addEntry e s).pcu.rebuild = s.pcu.rebuild := rfl
@[simp] theorem addEntry_asu (e : PayEntry) (s : State) :
    (addEntry e s).asu = s.asu := rfl

@[simp] theorem setEntries_pending (es : List PayEntry) (s : State) :
    (setEntries es s).pending = s.pending := rfl
@[simp] theorem setEntries_mem (es : List PayEntry) (s : State) :
    (setEntries es s).mem = s.mem := rfl
@[simp] theorem setEntries_hlp (es : List PayEntry) (s : State) :
    (setEntries es s).hlp = s.hlp := rfl
@[simp] theorem setEntries_lines (es : List PayEntry) (s : State) :
    (setEntries es s).lines = s.lines := rfl
@[simp] theorem setEntries_windows (es : List PayEntry) (s : State) :
    (setEntries es s).windows = s.windows := rfl
@[simp] theorem setEntries_ce (es : List PayEntry) (s : State) :
    (setEntries es s).ce = s.ce := rfl
@[simp] theorem setEntries_ht (es : List PayEntry) (s : State) :
    (setEntries es s).ht = s.ht := rfl
@[simp] theorem setEntries_jc (es : List PayEntry) (s : State) :
    (setEntries es s).jc = s.jc := rfl
@[simp] theorem setEntries_mau (es : List PayEntry) (s : State) :
    (setEntries es s).mau = s.mau := rfl
@[simp] theorem setEntries_pcu_cursor (es : List PayEntry) (s : State) :
    (setEntries es s).pcu.cursor = s.pcu.cursor := rfl
@[simp] theorem setEntries_pcu_state (es : List PayEntry) (s : State) :
    (setEntries es s).pcu.state = s.pcu.state := rfl
@[simp] theorem setEntries_pcu_period (es : List PayEntry) (s : State) :
    (setEntries es s).pcu.period = s.pcu.period := rfl
@[simp] theorem setEntries_pcu_releasing (es : List PayEntry) (s : State) :
    (setEntries es s).pcu.releasing = s.pcu.releasing := rfl
@[simp] theorem setEntries_pcu_rebuild (es : List PayEntry) (s : State) :
    (setEntries es s).pcu.rebuild = s.pcu.rebuild := rfl
@[simp] theorem setEntries_asu (es : List PayEntry) (s : State) :
    (setEntries es s).asu = s.asu := rfl

@[simp] theorem dequeue_pending (b : JBody) (s : State) :
    (dequeue b s).pending = s.pending := rfl
@[simp] theorem dequeue_mem (b : JBody) (s : State) :
    (dequeue b s).mem = s.mem := rfl
@[simp] theorem dequeue_hlp (b : JBody) (s : State) :
    (dequeue b s).hlp = s.hlp := rfl
@[simp] theorem dequeue_lines (b : JBody) (s : State) :
    (dequeue b s).lines = s.lines := rfl
@[simp] theorem dequeue_windows (b : JBody) (s : State) :
    (dequeue b s).windows = s.windows := rfl
@[simp] theorem dequeue_ce (b : JBody) (s : State) :
    (dequeue b s).ce = s.ce := rfl
@[simp] theorem dequeue_ht (b : JBody) (s : State) :
    (dequeue b s).ht = s.ht := rfl
@[simp] theorem dequeue_jc (b : JBody) (s : State) :
    (dequeue b s).jc = s.jc := rfl
@[simp] theorem dequeue_mau_copy (b : JBody) (s : State) :
    (dequeue b s).mau.copy = s.mau.copy := rfl
@[simp] theorem dequeue_mau_accrual (b : JBody) (s : State) :
    (dequeue b s).mau.accrual = s.mau.accrual := rfl
@[simp] theorem dequeue_mau_walk (b : JBody) (s : State) :
    (dequeue b s).mau.walk = s.mau.walk := rfl
@[simp] theorem dequeue_mau_totalsBusy (b : JBody) (s : State) :
    (dequeue b s).mau.totalsBusy = s.mau.totalsBusy := rfl
@[simp] theorem dequeue_mau_totalsDue (b : JBody) (s : State) :
    (dequeue b s).mau.totalsDue = s.mau.totalsDue := rfl
@[simp] theorem dequeue_pcu (b : JBody) (s : State) :
    (dequeue b s).pcu = s.pcu := rfl
@[simp] theorem dequeue_asu (b : JBody) (s : State) :
    (dequeue b s).asu = s.asu := rfl

@[simp] theorem emptyList_pending (s : State) :
    (emptyList s).pending = s.pending := rfl
@[simp] theorem emptyList_mem (s : State) :
    (emptyList s).mem = s.mem := rfl
@[simp] theorem emptyList_hlp (s : State) :
    (emptyList s).hlp = s.hlp := rfl
@[simp] theorem emptyList_lines (s : State) :
    (emptyList s).lines = s.lines := rfl
@[simp] theorem emptyList_windows (s : State) :
    (emptyList s).windows = s.windows := rfl
@[simp] theorem emptyList_ce (s : State) :
    (emptyList s).ce = s.ce := rfl
@[simp] theorem emptyList_ht (s : State) :
    (emptyList s).ht = s.ht := rfl
@[simp] theorem emptyList_jc (s : State) :
    (emptyList s).jc = s.jc := rfl
@[simp] theorem emptyList_mau (s : State) :
    (emptyList s).mau = s.mau := rfl
@[simp] theorem emptyList_asu (s : State) :
    (emptyList s).asu = s.asu := rfl

@[simp] theorem endStart_pending (phase : Phase) (epoch recovered : Nat) (s : State) :
    (endStart phase epoch recovered s).pending = s.pending := rfl
@[simp] theorem endStart_mem (phase : Phase) (epoch recovered : Nat) (s : State) :
    (endStart phase epoch recovered s).mem = s.mem := rfl
@[simp] theorem endStart_hlp_straps (phase : Phase) (epoch recovered : Nat) (s : State) :
    (endStart phase epoch recovered s).hlp.straps = s.hlp.straps := rfl
@[simp] theorem endStart_hlp_rate (phase : Phase) (epoch recovered : Nat) (s : State) :
    (endStart phase epoch recovered s).hlp.rate = s.hlp.rate := rfl
@[simp] theorem endStart_hlp_inbound (phase : Phase) (epoch recovered : Nat) (s : State) :
    (endStart phase epoch recovered s).hlp.inbound = s.hlp.inbound := rfl
@[simp] theorem endStart_hlp_deaf (phase : Phase) (epoch recovered : Nat) (s : State) :
    (endStart phase epoch recovered s).hlp.deaf = s.hlp.deaf := rfl
@[simp] theorem endStart_hlp_inFlight (phase : Phase) (epoch recovered : Nat) (s : State) :
    (endStart phase epoch recovered s).hlp.inFlight = s.hlp.inFlight := rfl
@[simp] theorem endStart_hlp_outbound (phase : Phase) (epoch recovered : Nat) (s : State) :
    (endStart phase epoch recovered s).hlp.outbound = s.hlp.outbound := rfl
@[simp] theorem endStart_lines (phase : Phase) (epoch recovered : Nat) (s : State) :
    (endStart phase epoch recovered s).lines = s.lines := rfl
@[simp] theorem endStart_windows (phase : Phase) (epoch recovered : Nat) (s : State) :
    (endStart phase epoch recovered s).windows = s.windows := rfl
@[simp] theorem endStart_ce (phase : Phase) (epoch recovered : Nat) (s : State) :
    (endStart phase epoch recovered s).ce = s.ce := rfl
@[simp] theorem endStart_ht (phase : Phase) (epoch recovered : Nat) (s : State) :
    (endStart phase epoch recovered s).ht = s.ht := rfl
@[simp] theorem endStart_jc_cause (phase : Phase) (epoch recovered : Nat) (s : State) :
    (endStart phase epoch recovered s).jc.cause = s.jc.cause := rfl
@[simp] theorem endStart_jc_recovered (phase : Phase) (epoch recovered : Nat) (s : State) :
    (endStart phase epoch recovered s).jc.recovered = s.jc.recovered := rfl
@[simp] theorem endStart_jc_store (phase : Phase) (epoch recovered : Nat) (s : State) :
    (endStart phase epoch recovered s).jc.store = s.jc.store := rfl
@[simp] theorem endStart_jc_next (phase : Phase) (epoch recovered : Nat) (s : State) :
    (endStart phase epoch recovered s).jc.next = s.jc.next := rfl
@[simp] theorem endStart_jc_oldest (phase : Phase) (epoch recovered : Nat) (s : State) :
    (endStart phase epoch recovered s).jc.oldest = s.jc.oldest := rfl
@[simp] theorem endStart_jc_untaken (phase : Phase) (epoch recovered : Nat) (s : State) :
    (endStart phase epoch recovered s).jc.untaken = s.jc.untaken := rfl
@[simp] theorem endStart_jc_pendingCount (phase : Phase) (epoch recovered : Nat) (s : State) :
    (endStart phase epoch recovered s).jc.pendingCount = s.jc.pendingCount := rfl
@[simp] theorem endStart_jc_appendQueue (phase : Phase) (epoch recovered : Nat) (s : State) :
    (endStart phase epoch recovered s).jc.appendQueue = s.jc.appendQueue := rfl
@[simp] theorem endStart_jc_appendIssued (phase : Phase) (epoch recovered : Nat) (s : State) :
    (endStart phase epoch recovered s).jc.appendIssued = s.jc.appendIssued := rfl
@[simp] theorem endStart_jc_appendPeriod (phase : Phase) (epoch recovered : Nat) (s : State) :
    (endStart phase epoch recovered s).jc.appendPeriod = s.jc.appendPeriod := rfl
@[simp] theorem endStart_jc_admission (phase : Phase) (epoch recovered : Nat) (s : State) :
    (endStart phase epoch recovered s).jc.admission = s.jc.admission := rfl
@[simp] theorem endStart_jc_tariffs (phase : Phase) (epoch recovered : Nat) (s : State) :
    (endStart phase epoch recovered s).jc.tariffs = s.jc.tariffs := rfl
@[simp] theorem endStart_jc_serving (phase : Phase) (epoch recovered : Nat) (s : State) :
    (endStart phase epoch recovered s).jc.serving = s.jc.serving := rfl
@[simp] theorem endStart_jc_waiting (phase : Phase) (epoch recovered : Nat) (s : State) :
    (endStart phase epoch recovered s).jc.waiting = s.jc.waiting := rfl
@[simp] theorem endStart_jc_cfg (phase : Phase) (epoch recovered : Nat) (s : State) :
    (endStart phase epoch recovered s).jc.cfg = s.jc.cfg := rfl
@[simp] theorem endStart_jc_cfgWaiting (phase : Phase) (epoch recovered : Nat) (s : State) :
    (endStart phase epoch recovered s).jc.cfgWaiting = s.jc.cfgWaiting := rfl
@[simp] theorem endStart_jc_format (phase : Phase) (epoch recovered : Nat) (s : State) :
    (endStart phase epoch recovered s).jc.format = s.jc.format := rfl
@[simp] theorem endStart_jc_advice (phase : Phase) (epoch recovered : Nat) (s : State) :
    (endStart phase epoch recovered s).jc.advice = s.jc.advice := rfl
@[simp] theorem endStart_jc_adviceWaiting (phase : Phase) (epoch recovered : Nat) (s : State) :
    (endStart phase epoch recovered s).jc.adviceWaiting = s.jc.adviceWaiting := rfl
@[simp] theorem endStart_mau (phase : Phase) (epoch recovered : Nat) (s : State) :
    (endStart phase epoch recovered s).mau = s.mau := rfl
@[simp] theorem endStart_pcu (phase : Phase) (epoch recovered : Nat) (s : State) :
    (endStart phase epoch recovered s).pcu = s.pcu := rfl
@[simp] theorem endStart_asu (phase : Phase) (epoch recovered : Nat) (s : State) :
    (endStart phase epoch recovered s).asu = s.asu := rfl

@[simp] theorem setFigures_pending (next oldest period : Nat) (s : State) :
    (setFigures next oldest period s).pending = s.pending := rfl
@[simp] theorem setFigures_mem (next oldest period : Nat) (s : State) :
    (setFigures next oldest period s).mem = s.mem := rfl
@[simp] theorem setFigures_hlp (next oldest period : Nat) (s : State) :
    (setFigures next oldest period s).hlp = s.hlp := rfl
@[simp] theorem setFigures_lines (next oldest period : Nat) (s : State) :
    (setFigures next oldest period s).lines = s.lines := rfl
@[simp] theorem setFigures_windows (next oldest period : Nat) (s : State) :
    (setFigures next oldest period s).windows = s.windows := rfl
@[simp] theorem setFigures_ce (next oldest period : Nat) (s : State) :
    (setFigures next oldest period s).ce = s.ce := rfl
@[simp] theorem setFigures_ht (next oldest period : Nat) (s : State) :
    (setFigures next oldest period s).ht = s.ht := rfl
@[simp] theorem setFigures_jc_phase (next oldest period : Nat) (s : State) :
    (setFigures next oldest period s).jc.phase = s.jc.phase := rfl
@[simp] theorem setFigures_jc_stage (next oldest period : Nat) (s : State) :
    (setFigures next oldest period s).jc.stage = s.jc.stage := rfl
@[simp] theorem setFigures_jc_cause (next oldest period : Nat) (s : State) :
    (setFigures next oldest period s).jc.cause = s.jc.cause := rfl
@[simp] theorem setFigures_jc_recovered (next oldest period : Nat) (s : State) :
    (setFigures next oldest period s).jc.recovered = s.jc.recovered := rfl
@[simp] theorem setFigures_jc_store (next oldest period : Nat) (s : State) :
    (setFigures next oldest period s).jc.store = s.jc.store := rfl
@[simp] theorem setFigures_jc_appendQueue (next oldest period : Nat) (s : State) :
    (setFigures next oldest period s).jc.appendQueue = s.jc.appendQueue := rfl
@[simp] theorem setFigures_jc_appendIssued (next oldest period : Nat) (s : State) :
    (setFigures next oldest period s).jc.appendIssued = s.jc.appendIssued := rfl
@[simp] theorem setFigures_jc_admission (next oldest period : Nat) (s : State) :
    (setFigures next oldest period s).jc.admission = s.jc.admission := rfl
@[simp] theorem setFigures_jc_tariffs (next oldest period : Nat) (s : State) :
    (setFigures next oldest period s).jc.tariffs = s.jc.tariffs := rfl
@[simp] theorem setFigures_jc_serving (next oldest period : Nat) (s : State) :
    (setFigures next oldest period s).jc.serving = s.jc.serving := rfl
@[simp] theorem setFigures_jc_waiting (next oldest period : Nat) (s : State) :
    (setFigures next oldest period s).jc.waiting = s.jc.waiting := rfl
@[simp] theorem setFigures_jc_cfg (next oldest period : Nat) (s : State) :
    (setFigures next oldest period s).jc.cfg = s.jc.cfg := rfl
@[simp] theorem setFigures_jc_cfgWaiting (next oldest period : Nat) (s : State) :
    (setFigures next oldest period s).jc.cfgWaiting = s.jc.cfgWaiting := rfl
@[simp] theorem setFigures_jc_format (next oldest period : Nat) (s : State) :
    (setFigures next oldest period s).jc.format = s.jc.format := rfl
@[simp] theorem setFigures_jc_advice (next oldest period : Nat) (s : State) :
    (setFigures next oldest period s).jc.advice = s.jc.advice := rfl
@[simp] theorem setFigures_jc_adviceWaiting (next oldest period : Nat) (s : State) :
    (setFigures next oldest period s).jc.adviceWaiting = s.jc.adviceWaiting := rfl
@[simp] theorem setFigures_mau (next oldest period : Nat) (s : State) :
    (setFigures next oldest period s).mau = s.mau := rfl
@[simp] theorem setFigures_pcu (next oldest period : Nat) (s : State) :
    (setFigures next oldest period s).pcu = s.pcu := rfl
@[simp] theorem setFigures_asu (next oldest period : Nat) (s : State) :
    (setFigures next oldest period s).asu = s.asu := rfl

@[simp] theorem setScanFigures_pending (next pendingCount : Nat) (s : State) :
    (setScanFigures next pendingCount s).pending = s.pending := rfl
@[simp] theorem setScanFigures_mem (next pendingCount : Nat) (s : State) :
    (setScanFigures next pendingCount s).mem = s.mem := rfl
@[simp] theorem setScanFigures_hlp (next pendingCount : Nat) (s : State) :
    (setScanFigures next pendingCount s).hlp = s.hlp := rfl
@[simp] theorem setScanFigures_lines (next pendingCount : Nat) (s : State) :
    (setScanFigures next pendingCount s).lines = s.lines := rfl
@[simp] theorem setScanFigures_windows (next pendingCount : Nat) (s : State) :
    (setScanFigures next pendingCount s).windows = s.windows := rfl
@[simp] theorem setScanFigures_ce (next pendingCount : Nat) (s : State) :
    (setScanFigures next pendingCount s).ce = s.ce := rfl
@[simp] theorem setScanFigures_ht (next pendingCount : Nat) (s : State) :
    (setScanFigures next pendingCount s).ht = s.ht := rfl
@[simp] theorem setScanFigures_jc_phase (next pendingCount : Nat) (s : State) :
    (setScanFigures next pendingCount s).jc.phase = s.jc.phase := rfl
@[simp] theorem setScanFigures_jc_stage (next pendingCount : Nat) (s : State) :
    (setScanFigures next pendingCount s).jc.stage = s.jc.stage := rfl
@[simp] theorem setScanFigures_jc_cause (next pendingCount : Nat) (s : State) :
    (setScanFigures next pendingCount s).jc.cause = s.jc.cause := rfl
@[simp] theorem setScanFigures_jc_recovered (next pendingCount : Nat) (s : State) :
    (setScanFigures next pendingCount s).jc.recovered = s.jc.recovered := rfl
@[simp] theorem setScanFigures_jc_store (next pendingCount : Nat) (s : State) :
    (setScanFigures next pendingCount s).jc.store = s.jc.store := rfl
@[simp] theorem setScanFigures_jc_appendQueue (next pendingCount : Nat) (s : State) :
    (setScanFigures next pendingCount s).jc.appendQueue = s.jc.appendQueue := rfl
@[simp] theorem setScanFigures_jc_appendIssued (next pendingCount : Nat) (s : State) :
    (setScanFigures next pendingCount s).jc.appendIssued = s.jc.appendIssued := rfl
@[simp] theorem setScanFigures_jc_appendPeriod (next pendingCount : Nat) (s : State) :
    (setScanFigures next pendingCount s).jc.appendPeriod = s.jc.appendPeriod := rfl
@[simp] theorem setScanFigures_jc_admission (next pendingCount : Nat) (s : State) :
    (setScanFigures next pendingCount s).jc.admission = s.jc.admission := rfl
@[simp] theorem setScanFigures_jc_tariffs (next pendingCount : Nat) (s : State) :
    (setScanFigures next pendingCount s).jc.tariffs = s.jc.tariffs := rfl
@[simp] theorem setScanFigures_jc_serving (next pendingCount : Nat) (s : State) :
    (setScanFigures next pendingCount s).jc.serving = s.jc.serving := rfl
@[simp] theorem setScanFigures_jc_waiting (next pendingCount : Nat) (s : State) :
    (setScanFigures next pendingCount s).jc.waiting = s.jc.waiting := rfl
@[simp] theorem setScanFigures_jc_cfg (next pendingCount : Nat) (s : State) :
    (setScanFigures next pendingCount s).jc.cfg = s.jc.cfg := rfl
@[simp] theorem setScanFigures_jc_cfgWaiting (next pendingCount : Nat) (s : State) :
    (setScanFigures next pendingCount s).jc.cfgWaiting = s.jc.cfgWaiting := rfl
@[simp] theorem setScanFigures_jc_format (next pendingCount : Nat) (s : State) :
    (setScanFigures next pendingCount s).jc.format = s.jc.format := rfl
@[simp] theorem setScanFigures_jc_advice (next pendingCount : Nat) (s : State) :
    (setScanFigures next pendingCount s).jc.advice = s.jc.advice := rfl
@[simp] theorem setScanFigures_jc_adviceWaiting (next pendingCount : Nat) (s : State) :
    (setScanFigures next pendingCount s).jc.adviceWaiting = s.jc.adviceWaiting := rfl
@[simp] theorem setScanFigures_mau (next pendingCount : Nat) (s : State) :
    (setScanFigures next pendingCount s).mau = s.mau := rfl
@[simp] theorem setScanFigures_pcu (next pendingCount : Nat) (s : State) :
    (setScanFigures next pendingCount s).pcu = s.pcu := rfl
@[simp] theorem setScanFigures_asu (next pendingCount : Nat) (s : State) :
    (setScanFigures next pendingCount s).asu = s.asu := rfl

@[simp] theorem clearCopies_pending (s : State) :
    (clearCopies s).pending = s.pending := rfl
@[simp] theorem clearCopies_mem (s : State) :
    (clearCopies s).mem = s.mem := rfl
@[simp] theorem clearCopies_hlp (s : State) :
    (clearCopies s).hlp = s.hlp := rfl
@[simp] theorem clearCopies_ce (s : State) :
    (clearCopies s).ce = s.ce := rfl
@[simp] theorem clearCopies_ht (s : State) :
    (clearCopies s).ht = s.ht := rfl
@[simp] theorem clearCopies_jc_phase (s : State) :
    (clearCopies s).jc.phase = s.jc.phase := rfl
@[simp] theorem clearCopies_jc_stage (s : State) :
    (clearCopies s).jc.stage = s.jc.stage := rfl
@[simp] theorem clearCopies_jc_cause (s : State) :
    (clearCopies s).jc.cause = s.jc.cause := rfl
@[simp] theorem clearCopies_jc_recovered (s : State) :
    (clearCopies s).jc.recovered = s.jc.recovered := rfl
@[simp] theorem clearCopies_jc_store (s : State) :
    (clearCopies s).jc.store = s.jc.store := rfl
@[simp] theorem clearCopies_jc_next (s : State) :
    (clearCopies s).jc.next = s.jc.next := rfl
@[simp] theorem clearCopies_jc_oldest (s : State) :
    (clearCopies s).jc.oldest = s.jc.oldest := rfl
@[simp] theorem clearCopies_jc_untaken (s : State) :
    (clearCopies s).jc.untaken = s.jc.untaken := rfl
@[simp] theorem clearCopies_jc_pendingCount (s : State) :
    (clearCopies s).jc.pendingCount = s.jc.pendingCount := rfl
@[simp] theorem clearCopies_jc_appendQueue (s : State) :
    (clearCopies s).jc.appendQueue = s.jc.appendQueue := rfl
@[simp] theorem clearCopies_jc_appendIssued (s : State) :
    (clearCopies s).jc.appendIssued = s.jc.appendIssued := rfl
@[simp] theorem clearCopies_jc_appendPeriod (s : State) :
    (clearCopies s).jc.appendPeriod = s.jc.appendPeriod := rfl
@[simp] theorem clearCopies_jc_serving (s : State) :
    (clearCopies s).jc.serving = s.jc.serving := rfl
@[simp] theorem clearCopies_jc_waiting (s : State) :
    (clearCopies s).jc.waiting = s.jc.waiting := rfl
@[simp] theorem clearCopies_jc_cfg (s : State) :
    (clearCopies s).jc.cfg = s.jc.cfg := rfl
@[simp] theorem clearCopies_jc_cfgWaiting (s : State) :
    (clearCopies s).jc.cfgWaiting = s.jc.cfgWaiting := rfl
@[simp] theorem clearCopies_jc_format (s : State) :
    (clearCopies s).jc.format = s.jc.format := rfl
@[simp] theorem clearCopies_jc_advice (s : State) :
    (clearCopies s).jc.advice = s.jc.advice := rfl
@[simp] theorem clearCopies_jc_adviceWaiting (s : State) :
    (clearCopies s).jc.adviceWaiting = s.jc.adviceWaiting := rfl
@[simp] theorem clearCopies_mau (s : State) :
    (clearCopies s).mau = s.mau := rfl
@[simp] theorem clearCopies_pcu (s : State) :
    (clearCopies s).pcu = s.pcu := rfl
@[simp] theorem clearCopies_asu (s : State) :
    (clearCopies s).asu = s.asu := rfl

@[simp] theorem freshBooks_pending (job : FormatJob) (s : State) :
    (freshBooks job s).pending = s.pending := rfl
@[simp] theorem freshBooks_mem (job : FormatJob) (s : State) :
    (freshBooks job s).mem = s.mem := rfl
@[simp] theorem freshBooks_hlp (job : FormatJob) (s : State) :
    (freshBooks job s).hlp = s.hlp := rfl
@[simp] theorem freshBooks_ce (job : FormatJob) (s : State) :
    (freshBooks job s).ce = s.ce := rfl
@[simp] theorem freshBooks_ht (job : FormatJob) (s : State) :
    (freshBooks job s).ht = s.ht := rfl
@[simp] theorem freshBooks_jc_phase (job : FormatJob) (s : State) :
    (freshBooks job s).jc.phase = s.jc.phase := rfl
@[simp] theorem freshBooks_jc_stage (job : FormatJob) (s : State) :
    (freshBooks job s).jc.stage = s.jc.stage := rfl
@[simp] theorem freshBooks_jc_cause (job : FormatJob) (s : State) :
    (freshBooks job s).jc.cause = s.jc.cause := rfl
@[simp] theorem freshBooks_jc_recovered (job : FormatJob) (s : State) :
    (freshBooks job s).jc.recovered = s.jc.recovered := rfl
@[simp] theorem freshBooks_jc_store (job : FormatJob) (s : State) :
    (freshBooks job s).jc.store = s.jc.store := rfl
@[simp] theorem freshBooks_jc_appendQueue (job : FormatJob) (s : State) :
    (freshBooks job s).jc.appendQueue = s.jc.appendQueue := rfl
@[simp] theorem freshBooks_jc_appendIssued (job : FormatJob) (s : State) :
    (freshBooks job s).jc.appendIssued = s.jc.appendIssued := rfl
@[simp] theorem freshBooks_jc_serving (job : FormatJob) (s : State) :
    (freshBooks job s).jc.serving = s.jc.serving := rfl
@[simp] theorem freshBooks_jc_waiting (job : FormatJob) (s : State) :
    (freshBooks job s).jc.waiting = s.jc.waiting := rfl
@[simp] theorem freshBooks_jc_cfg (job : FormatJob) (s : State) :
    (freshBooks job s).jc.cfg = s.jc.cfg := rfl
@[simp] theorem freshBooks_jc_cfgWaiting (job : FormatJob) (s : State) :
    (freshBooks job s).jc.cfgWaiting = s.jc.cfgWaiting := rfl
@[simp] theorem freshBooks_jc_advice (job : FormatJob) (s : State) :
    (freshBooks job s).jc.advice = s.jc.advice := rfl
@[simp] theorem freshBooks_jc_adviceWaiting (job : FormatJob) (s : State) :
    (freshBooks job s).jc.adviceWaiting = s.jc.adviceWaiting := rfl
@[simp] theorem freshBooks_mau_queue (job : FormatJob) (s : State) :
    (freshBooks job s).mau.queue = s.mau.queue := rfl
@[simp] theorem freshBooks_mau_accrual (job : FormatJob) (s : State) :
    (freshBooks job s).mau.accrual = s.mau.accrual := rfl
@[simp] theorem freshBooks_mau_walk (job : FormatJob) (s : State) :
    (freshBooks job s).mau.walk = s.mau.walk := rfl
@[simp] theorem freshBooks_mau_totalsBusy (job : FormatJob) (s : State) :
    (freshBooks job s).mau.totalsBusy = s.mau.totalsBusy := rfl
@[simp] theorem freshBooks_mau_totalsDue (job : FormatJob) (s : State) :
    (freshBooks job s).mau.totalsDue = s.mau.totalsDue := rfl
@[simp] theorem freshBooks_pcu_period (job : FormatJob) (s : State) :
    (freshBooks job s).pcu.period = s.pcu.period := rfl
@[simp] theorem freshBooks_pcu_releasing (job : FormatJob) (s : State) :
    (freshBooks job s).pcu.releasing = s.pcu.releasing := rfl
@[simp] theorem freshBooks_pcu_rebuild (job : FormatJob) (s : State) :
    (freshBooks job s).pcu.rebuild = s.pcu.rebuild := rfl
@[simp] theorem freshBooks_asu (job : FormatJob) (s : State) :
    (freshBooks job s).asu = s.asu := rfl

@[simp] theorem raise_notices (f : Notices → Notices) (s : State) : (raise f s).hlp.notices = f s.hlp.notices := rfl
@[simp] theorem raise_attnLow (f : Notices → Notices) (s : State) :
    (raise f s).hlp.attnLow = (s.hlp.attnLow || decide (s.jc.phase ≠ .startup)) := rfl
@[simp] theorem setHolds_holds (s : State) (hs : List Hold) : (s.setHolds hs).ht.holds = hs := rfl
@[simp] theorem joinAccrual_queue (b : JBody) (s : State) : (joinAccrual b s).mau.queue = s.mau.queue ++ [b] := rfl
@[simp] theorem addEntry_entries (e : PayEntry) (s : State) : (addEntry e s).pcu.entries = s.pcu.entries ++ [e] := rfl
@[simp] theorem setEntries_entries (es : List PayEntry) (s : State) : (setEntries es s).pcu.entries = es := rfl
@[simp] theorem endStart_phase (phase : Phase) (epoch recovered : Nat) (s : State) :
    (endStart phase epoch recovered s).jc.phase = phase := rfl

end Sys2Proof.Machine
end

