-- ==== Sys2Proof/Laws/Ops.lean ====
section
/-! SUPPORT. What each shared operation leaves alone: one lemma for each block it does not touch, and for each field it does
not touch of a block it does. Together they say once everything the operation can do. -/

set_option Elab.async false

namespace Sys2Proof.Machine
open Sys2Proof

/-- A fold keeps what each of its steps keeps. -/
theorem foldl_keeps {α β : Type} (f : State → α → State) (g : State → β) (h : ∀ s a, g (f s a) = g s) (l : List α)
    (s : State) : g (l.foldl f s) = g s := by
  induction l generalizing s with
  | nil => rfl
  | cons a l ih => simp only [List.foldl_cons]; rw [ih, h]

@[simp] theorem sendUntagged_pending (kind tag : Nat) (r : Reply) (s : State) :
    (sendUntagged kind tag r s).pending = s.pending := by
  unfold sendUntagged; split <;> simp
@[simp] theorem sendUntagged_mem (kind tag : Nat) (r : Reply) (s : State) :
    (sendUntagged kind tag r s).mem = s.mem := by
  unfold sendUntagged; split <;> simp
@[simp] theorem sendUntagged_hlp_straps (kind tag : Nat) (r : Reply) (s : State) :
    (sendUntagged kind tag r s).hlp.straps = s.hlp.straps := by
  unfold sendUntagged; split <;> simp
@[simp] theorem sendUntagged_hlp_rate (kind tag : Nat) (r : Reply) (s : State) :
    (sendUntagged kind tag r s).hlp.rate = s.hlp.rate := by
  unfold sendUntagged; split <;> simp
@[simp] theorem sendUntagged_hlp_inbound (kind tag : Nat) (r : Reply) (s : State) :
    (sendUntagged kind tag r s).hlp.inbound = s.hlp.inbound := by
  unfold sendUntagged; split <;> simp
@[simp] theorem sendUntagged_hlp_deaf (kind tag : Nat) (r : Reply) (s : State) :
    (sendUntagged kind tag r s).hlp.deaf = s.hlp.deaf := by
  unfold sendUntagged; split <;> simp
@[simp] theorem sendUntagged_hlp_inFlight (kind tag : Nat) (r : Reply) (s : State) :
    (sendUntagged kind tag r s).hlp.inFlight = s.hlp.inFlight := by
  unfold sendUntagged; split <;> simp
@[simp] theorem sendUntagged_hlp_notices (kind tag : Nat) (r : Reply) (s : State) :
    (sendUntagged kind tag r s).hlp.notices = s.hlp.notices := by
  unfold sendUntagged; split <;> simp
@[simp] theorem sendUntagged_hlp_attnLow (kind tag : Nat) (r : Reply) (s : State) :
    (sendUntagged kind tag r s).hlp.attnLow = s.hlp.attnLow := by
  unfold sendUntagged; split <;> simp
@[simp] theorem sendUntagged_lines (kind tag : Nat) (r : Reply) (s : State) :
    (sendUntagged kind tag r s).lines = s.lines := by
  unfold sendUntagged; split <;> simp
@[simp] theorem sendUntagged_windows (kind tag : Nat) (r : Reply) (s : State) :
    (sendUntagged kind tag r s).windows = s.windows := by
  unfold sendUntagged; split <;> simp
@[simp] theorem sendUntagged_ce (kind tag : Nat) (r : Reply) (s : State) :
    (sendUntagged kind tag r s).ce = s.ce := by
  unfold sendUntagged; split <;> simp
@[simp] theorem sendUntagged_ht (kind tag : Nat) (r : Reply) (s : State) :
    (sendUntagged kind tag r s).ht = s.ht := by
  unfold sendUntagged; split <;> simp
@[simp] theorem sendUntagged_jc (kind tag : Nat) (r : Reply) (s : State) :
    (sendUntagged kind tag r s).jc = s.jc := by
  unfold sendUntagged; split <;> simp
@[simp] theorem sendUntagged_mau (kind tag : Nat) (r : Reply) (s : State) :
    (sendUntagged kind tag r s).mau = s.mau := by
  unfold sendUntagged; split <;> simp
@[simp] theorem sendUntagged_pcu (kind tag : Nat) (r : Reply) (s : State) :
    (sendUntagged kind tag r s).pcu = s.pcu := by
  unfold sendUntagged; split <;> simp
@[simp] theorem sendUntagged_asu (kind tag : Nat) (r : Reply) (s : State) :
    (sendUntagged kind tag r s).asu = s.asu := by
  unfold sendUntagged; split <;> simp

@[simp] theorem sendStation_pending (n e : Nat) (r : Reply) (s : State) :
    (sendStation n e r s).pending = s.pending := by
  unfold sendStation; split <;> simp
@[simp] theorem sendStation_mem (n e : Nat) (r : Reply) (s : State) :
    (sendStation n e r s).mem = s.mem := by
  unfold sendStation; split <;> simp
@[simp] theorem sendStation_hlp_straps (n e : Nat) (r : Reply) (s : State) :
    (sendStation n e r s).hlp.straps = s.hlp.straps := by
  unfold sendStation; split <;> simp
@[simp] theorem sendStation_hlp_rate (n e : Nat) (r : Reply) (s : State) :
    (sendStation n e r s).hlp.rate = s.hlp.rate := by
  unfold sendStation; split <;> simp
@[simp] theorem sendStation_hlp_inbound (n e : Nat) (r : Reply) (s : State) :
    (sendStation n e r s).hlp.inbound = s.hlp.inbound := by
  unfold sendStation; split <;> simp
@[simp] theorem sendStation_hlp_deaf (n e : Nat) (r : Reply) (s : State) :
    (sendStation n e r s).hlp.deaf = s.hlp.deaf := by
  unfold sendStation; split <;> simp
@[simp] theorem sendStation_hlp_inFlight (n e : Nat) (r : Reply) (s : State) :
    (sendStation n e r s).hlp.inFlight = s.hlp.inFlight := by
  unfold sendStation; split <;> simp
@[simp] theorem sendStation_hlp_outbound (n e : Nat) (r : Reply) (s : State) :
    (sendStation n e r s).hlp.outbound = s.hlp.outbound := by
  unfold sendStation; split <;> simp
@[simp] theorem sendStation_windows (n e : Nat) (r : Reply) (s : State) :
    (sendStation n e r s).windows = s.windows := by
  unfold sendStation; split <;> simp
@[simp] theorem sendStation_ce (n e : Nat) (r : Reply) (s : State) :
    (sendStation n e r s).ce = s.ce := by
  unfold sendStation; split <;> simp
@[simp] theorem sendStation_ht (n e : Nat) (r : Reply) (s : State) :
    (sendStation n e r s).ht = s.ht := by
  unfold sendStation; split <;> simp
@[simp] theorem sendStation_jc (n e : Nat) (r : Reply) (s : State) :
    (sendStation n e r s).jc = s.jc := by
  unfold sendStation; split <;> simp
@[simp] theorem sendStation_mau (n e : Nat) (r : Reply) (s : State) :
    (sendStation n e r s).mau = s.mau := by
  unfold sendStation; split <;> simp
@[simp] theorem sendStation_pcu (n e : Nat) (r : Reply) (s : State) :
    (sendStation n e r s).pcu = s.pcu := by
  unfold sendStation; split <;> simp
@[simp] theorem sendStation_asu (n e : Nat) (r : Reply) (s : State) :
    (sendStation n e r s).asu = s.asu := by
  unfold sendStation; split <;> simp

@[simp] theorem sendReply_pending (o : Origin) (r : Reply) (s : State) :
    (sendReply o r s).pending = s.pending := by
  unfold sendReply; split <;> simp
@[simp] theorem sendReply_mem (o : Origin) (r : Reply) (s : State) :
    (sendReply o r s).mem = s.mem := by
  unfold sendReply; split <;> simp
@[simp] theorem sendReply_hlp_straps (o : Origin) (r : Reply) (s : State) :
    (sendReply o r s).hlp.straps = s.hlp.straps := by
  unfold sendReply; split <;> simp
@[simp] theorem sendReply_hlp_rate (o : Origin) (r : Reply) (s : State) :
    (sendReply o r s).hlp.rate = s.hlp.rate := by
  unfold sendReply; split <;> simp
@[simp] theorem sendReply_hlp_inbound (o : Origin) (r : Reply) (s : State) :
    (sendReply o r s).hlp.inbound = s.hlp.inbound := by
  unfold sendReply; split <;> simp
@[simp] theorem sendReply_hlp_deaf (o : Origin) (r : Reply) (s : State) :
    (sendReply o r s).hlp.deaf = s.hlp.deaf := by
  unfold sendReply; split <;> simp
@[simp] theorem sendReply_hlp_inFlight (o : Origin) (r : Reply) (s : State) :
    (sendReply o r s).hlp.inFlight = s.hlp.inFlight := by
  unfold sendReply; split <;> simp
@[simp] theorem sendReply_windows (o : Origin) (r : Reply) (s : State) :
    (sendReply o r s).windows = s.windows := by
  unfold sendReply; split <;> simp
@[simp] theorem sendReply_ce (o : Origin) (r : Reply) (s : State) :
    (sendReply o r s).ce = s.ce := by
  unfold sendReply; split <;> simp
@[simp] theorem sendReply_ht (o : Origin) (r : Reply) (s : State) :
    (sendReply o r s).ht = s.ht := by
  unfold sendReply; split <;> simp
@[simp] theorem sendReply_jc (o : Origin) (r : Reply) (s : State) :
    (sendReply o r s).jc = s.jc := by
  unfold sendReply; split <;> simp
@[simp] theorem sendReply_mau (o : Origin) (r : Reply) (s : State) :
    (sendReply o r s).mau = s.mau := by
  unfold sendReply; split <;> simp
@[simp] theorem sendReply_pcu (o : Origin) (r : Reply) (s : State) :
    (sendReply o r s).pcu = s.pcu := by
  unfold sendReply; split <;> simp
@[simp] theorem sendReply_asu (o : Origin) (r : Reply) (s : State) :
    (sendReply o r s).asu = s.asu := by
  unfold sendReply; split <;> simp

@[simp] theorem issue_pending (op : PortOp) (s : State) :
    (issue op s).pending = s.pending := by
  unfold issue; split <;> rfl
@[simp] theorem issue_mem (op : PortOp) (s : State) :
    (issue op s).mem = s.mem := by
  unfold issue; split <;> rfl
@[simp] theorem issue_hlp (op : PortOp) (s : State) :
    (issue op s).hlp = s.hlp := by
  unfold issue; split <;> rfl
@[simp] theorem issue_lines (op : PortOp) (s : State) :
    (issue op s).lines = s.lines := by
  unfold issue; split <;> rfl
@[simp] theorem issue_windows (op : PortOp) (s : State) :
    (issue op s).windows = s.windows := by
  unfold issue; split <;> rfl
@[simp] theorem issue_ce (op : PortOp) (s : State) :
    (issue op s).ce = s.ce := by
  unfold issue; split <;> rfl
@[simp] theorem issue_ht (op : PortOp) (s : State) :
    (issue op s).ht = s.ht := by
  unfold issue; split <;> rfl
@[simp] theorem issue_jc_phase (op : PortOp) (s : State) :
    (issue op s).jc.phase = s.jc.phase := by
  unfold issue; split <;> rfl
@[simp] theorem issue_jc_stage (op : PortOp) (s : State) :
    (issue op s).jc.stage = s.jc.stage := by
  unfold issue; split <;> rfl
@[simp] theorem issue_jc_cause (op : PortOp) (s : State) :
    (issue op s).jc.cause = s.jc.cause := by
  unfold issue; split <;> rfl
@[simp] theorem issue_jc_recovered (op : PortOp) (s : State) :
    (issue op s).jc.recovered = s.jc.recovered := by
  unfold issue; split <;> rfl
@[simp] theorem issue_jc_store (op : PortOp) (s : State) :
    (issue op s).jc.store = s.jc.store := by
  unfold issue; split <;> rfl
@[simp] theorem issue_jc_next (op : PortOp) (s : State) :
    (issue op s).jc.next = s.jc.next := by
  unfold issue; split <;> rfl
@[simp] theorem issue_jc_oldest (op : PortOp) (s : State) :
    (issue op s).jc.oldest = s.jc.oldest := by
  unfold issue; split <;> rfl
@[simp] theorem issue_jc_untaken (op : PortOp) (s : State) :
    (issue op s).jc.untaken = s.jc.untaken := by
  unfold issue; split <;> rfl
@[simp] theorem issue_jc_pendingCount (op : PortOp) (s : State) :
    (issue op s).jc.pendingCount = s.jc.pendingCount := by
  unfold issue; split <;> rfl
@[simp] theorem issue_jc_appendQueue (op : PortOp) (s : State) :
    (issue op s).jc.appendQueue = s.jc.appendQueue := by
  unfold issue; split <;> rfl
@[simp] theorem issue_jc_appendIssued (op : PortOp) (s : State) :
    (issue op s).jc.appendIssued = s.jc.appendIssued := by
  unfold issue; split <;> rfl
@[simp] theorem issue_jc_appendPeriod (op : PortOp) (s : State) :
    (issue op s).jc.appendPeriod = s.jc.appendPeriod := by
  unfold issue; split <;> rfl
@[simp] theorem issue_jc_admission (op : PortOp) (s : State) :
    (issue op s).jc.admission = s.jc.admission := by
  unfold issue; split <;> rfl
@[simp] theorem issue_jc_tariffs (op : PortOp) (s : State) :
    (issue op s).jc.tariffs = s.jc.tariffs := by
  unfold issue; split <;> rfl
@[simp] theorem issue_jc_cfg (op : PortOp) (s : State) :
    (issue op s).jc.cfg = s.jc.cfg := by
  unfold issue; split <;> rfl
@[simp] theorem issue_jc_cfgWaiting (op : PortOp) (s : State) :
    (issue op s).jc.cfgWaiting = s.jc.cfgWaiting := by
  unfold issue; split <;> rfl
@[simp] theorem issue_jc_format (op : PortOp) (s : State) :
    (issue op s).jc.format = s.jc.format := by
  unfold issue; split <;> rfl
@[simp] theorem issue_jc_advice (op : PortOp) (s : State) :
    (issue op s).jc.advice = s.jc.advice := by
  unfold issue; split <;> rfl
@[simp] theorem issue_jc_adviceWaiting (op : PortOp) (s : State) :
    (issue op s).jc.adviceWaiting = s.jc.adviceWaiting := by
  unfold issue; split <;> rfl
@[simp] theorem issue_mau (op : PortOp) (s : State) :
    (issue op s).mau = s.mau := by
  unfold issue; split <;> rfl
@[simp] theorem issue_pcu (op : PortOp) (s : State) :
    (issue op s).pcu = s.pcu := by
  unfold issue; split <;> rfl
@[simp] theorem issue_asu (op : PortOp) (s : State) :
    (issue op s).asu = s.asu := by
  unfold issue; split <;> rfl

@[simp] theorem storeOp_pending (op : PortOp) (s : State) :
    (storeOp op s).pending = s.pending := by
  unfold storeOp; split <;> rfl
@[simp] theorem storeOp_hlp (op : PortOp) (s : State) :
    (storeOp op s).hlp = s.hlp := by
  unfold storeOp; split <;> rfl
@[simp] theorem storeOp_lines (op : PortOp) (s : State) :
    (storeOp op s).lines = s.lines := by
  unfold storeOp; split <;> rfl
@[simp] theorem storeOp_windows (op : PortOp) (s : State) :
    (storeOp op s).windows = s.windows := by
  unfold storeOp; split <;> rfl
@[simp] theorem storeOp_ce (op : PortOp) (s : State) :
    (storeOp op s).ce = s.ce := by
  unfold storeOp; split <;> rfl
@[simp] theorem storeOp_ht (op : PortOp) (s : State) :
    (storeOp op s).ht = s.ht := by
  unfold storeOp; split <;> rfl
@[simp] theorem storeOp_jc (op : PortOp) (s : State) :
    (storeOp op s).jc = s.jc := by
  unfold storeOp; split <;> rfl
@[simp] theorem storeOp_mau (op : PortOp) (s : State) :
    (storeOp op s).mau = s.mau := by
  unfold storeOp; split <;> rfl
@[simp] theorem storeOp_pcu (op : PortOp) (s : State) :
    (storeOp op s).pcu = s.pcu := by
  unfold storeOp; split <;> rfl
@[simp] theorem storeOp_asu (op : PortOp) (s : State) :
    (storeOp op s).asu = s.asu := by
  unfold storeOp; split <;> rfl

@[simp] theorem leaveOp_pending (op : PortOp) (left : Residue) (s : State) :
    (leaveOp op left s).pending = s.pending := by
  unfold leaveOp; split <;> rfl
@[simp] theorem leaveOp_hlp (op : PortOp) (left : Residue) (s : State) :
    (leaveOp op left s).hlp = s.hlp := by
  unfold leaveOp; split <;> rfl
@[simp] theorem leaveOp_lines (op : PortOp) (left : Residue) (s : State) :
    (leaveOp op left s).lines = s.lines := by
  unfold leaveOp; split <;> rfl
@[simp] theorem leaveOp_windows (op : PortOp) (left : Residue) (s : State) :
    (leaveOp op left s).windows = s.windows := by
  unfold leaveOp; split <;> rfl
@[simp] theorem leaveOp_ce (op : PortOp) (left : Residue) (s : State) :
    (leaveOp op left s).ce = s.ce := by
  unfold leaveOp; split <;> rfl
@[simp] theorem leaveOp_ht (op : PortOp) (left : Residue) (s : State) :
    (leaveOp op left s).ht = s.ht := by
  unfold leaveOp; split <;> rfl
@[simp] theorem leaveOp_jc (op : PortOp) (left : Residue) (s : State) :
    (leaveOp op left s).jc = s.jc := by
  unfold leaveOp; split <;> rfl
@[simp] theorem leaveOp_mau (op : PortOp) (left : Residue) (s : State) :
    (leaveOp op left s).mau = s.mau := by
  unfold leaveOp; split <;> rfl
@[simp] theorem leaveOp_pcu (op : PortOp) (left : Residue) (s : State) :
    (leaveOp op left s).pcu = s.pcu := by
  unfold leaveOp; split <;> rfl
@[simp] theorem leaveOp_asu (op : PortOp) (left : Residue) (s : State) :
    (leaveOp op left s).asu = s.asu := by
  unfold leaveOp; split <;> rfl

@[simp] theorem grantLock_pending (k : Nat) (req : CardReq) (ws : List CardReq) (s : State) :
    (grantLock k req ws s).pending = s.pending := by
  simp [grantLock]
@[simp] theorem grantLock_mem (k : Nat) (req : CardReq) (ws : List CardReq) (s : State) :
    (grantLock k req ws s).mem = s.mem := by
  simp [grantLock]
@[simp] theorem grantLock_hlp (k : Nat) (req : CardReq) (ws : List CardReq) (s : State) :
    (grantLock k req ws s).hlp = s.hlp := by
  simp [grantLock]
@[simp] theorem grantLock_lines (k : Nat) (req : CardReq) (ws : List CardReq) (s : State) :
    (grantLock k req ws s).lines = s.lines := by
  simp [grantLock]
@[simp] theorem grantLock_windows (k : Nat) (req : CardReq) (ws : List CardReq) (s : State) :
    (grantLock k req ws s).windows = s.windows := by
  simp [grantLock]
@[simp] theorem grantLock_ce_ring (k : Nat) (req : CardReq) (ws : List CardReq) (s : State) :
    (grantLock k req ws s).ce.ring = s.ce.ring := by
  simp [grantLock]
@[simp] theorem grantLock_ht (k : Nat) (req : CardReq) (ws : List CardReq) (s : State) :
    (grantLock k req ws s).ht = s.ht := by
  simp [grantLock]
@[simp] theorem grantLock_jc_phase (k : Nat) (req : CardReq) (ws : List CardReq) (s : State) :
    (grantLock k req ws s).jc.phase = s.jc.phase := by
  simp [grantLock]
@[simp] theorem grantLock_jc_stage (k : Nat) (req : CardReq) (ws : List CardReq) (s : State) :
    (grantLock k req ws s).jc.stage = s.jc.stage := by
  simp [grantLock]
@[simp] theorem grantLock_jc_cause (k : Nat) (req : CardReq) (ws : List CardReq) (s : State) :
    (grantLock k req ws s).jc.cause = s.jc.cause := by
  simp [grantLock]
@[simp] theorem grantLock_jc_recovered (k : Nat) (req : CardReq) (ws : List CardReq) (s : State) :
    (grantLock k req ws s).jc.recovered = s.jc.recovered := by
  simp [grantLock]
@[simp] theorem grantLock_jc_store (k : Nat) (req : CardReq) (ws : List CardReq) (s : State) :
    (grantLock k req ws s).jc.store = s.jc.store := by
  simp [grantLock]
@[simp] theorem grantLock_jc_next (k : Nat) (req : CardReq) (ws : List CardReq) (s : State) :
    (grantLock k req ws s).jc.next = s.jc.next := by
  simp [grantLock]
@[simp] theorem grantLock_jc_oldest (k : Nat) (req : CardReq) (ws : List CardReq) (s : State) :
    (grantLock k req ws s).jc.oldest = s.jc.oldest := by
  simp [grantLock]
@[simp] theorem grantLock_jc_untaken (k : Nat) (req : CardReq) (ws : List CardReq) (s : State) :
    (grantLock k req ws s).jc.untaken = s.jc.untaken := by
  simp [grantLock]
@[simp] theorem grantLock_jc_pendingCount (k : Nat) (req : CardReq) (ws : List CardReq) (s : State) :
    (grantLock k req ws s).jc.pendingCount = s.jc.pendingCount := by
  simp [grantLock]
@[simp] theorem grantLock_jc_appendQueue (k : Nat) (req : CardReq) (ws : List CardReq) (s : State) :
    (grantLock k req ws s).jc.appendQueue = s.jc.appendQueue := by
  simp [grantLock]
@[simp] theorem grantLock_jc_appendIssued (k : Nat) (req : CardReq) (ws : List CardReq) (s : State) :
    (grantLock k req ws s).jc.appendIssued = s.jc.appendIssued := by
  simp [grantLock]
@[simp] theorem grantLock_jc_appendPeriod (k : Nat) (req : CardReq) (ws : List CardReq) (s : State) :
    (grantLock k req ws s).jc.appendPeriod = s.jc.appendPeriod := by
  simp [grantLock]
@[simp] theorem grantLock_jc_admission (k : Nat) (req : CardReq) (ws : List CardReq) (s : State) :
    (grantLock k req ws s).jc.admission = s.jc.admission := by
  simp [grantLock]
@[simp] theorem grantLock_jc_tariffs (k : Nat) (req : CardReq) (ws : List CardReq) (s : State) :
    (grantLock k req ws s).jc.tariffs = s.jc.tariffs := by
  simp [grantLock]
@[simp] theorem grantLock_jc_cfg (k : Nat) (req : CardReq) (ws : List CardReq) (s : State) :
    (grantLock k req ws s).jc.cfg = s.jc.cfg := by
  simp [grantLock]
@[simp] theorem grantLock_jc_cfgWaiting (k : Nat) (req : CardReq) (ws : List CardReq) (s : State) :
    (grantLock k req ws s).jc.cfgWaiting = s.jc.cfgWaiting := by
  simp [grantLock]
@[simp] theorem grantLock_jc_format (k : Nat) (req : CardReq) (ws : List CardReq) (s : State) :
    (grantLock k req ws s).jc.format = s.jc.format := by
  simp [grantLock]
@[simp] theorem grantLock_jc_advice (k : Nat) (req : CardReq) (ws : List CardReq) (s : State) :
    (grantLock k req ws s).jc.advice = s.jc.advice := by
  simp [grantLock]
@[simp] theorem grantLock_jc_adviceWaiting (k : Nat) (req : CardReq) (ws : List CardReq) (s : State) :
    (grantLock k req ws s).jc.adviceWaiting = s.jc.adviceWaiting := by
  simp [grantLock]
@[simp] theorem grantLock_mau (k : Nat) (req : CardReq) (ws : List CardReq) (s : State) :
    (grantLock k req ws s).mau = s.mau := by
  simp [grantLock]
@[simp] theorem grantLock_pcu (k : Nat) (req : CardReq) (ws : List CardReq) (s : State) :
    (grantLock k req ws s).pcu = s.pcu := by
  simp [grantLock]
@[simp] theorem grantLock_asu (k : Nat) (req : CardReq) (ws : List CardReq) (s : State) :
    (grantLock k req ws s).asu = s.asu := by
  simp [grantLock]

@[simp] theorem seekLock_pending (req : CardReq) (s : State) :
    (seekLock req s).pending = s.pending := by
  unfold seekLock; (repeat' split) <;> simp
@[simp] theorem seekLock_mem (req : CardReq) (s : State) :
    (seekLock req s).mem = s.mem := by
  unfold seekLock; (repeat' split) <;> simp
@[simp] theorem seekLock_hlp_straps (req : CardReq) (s : State) :
    (seekLock req s).hlp.straps = s.hlp.straps := by
  unfold seekLock; (repeat' split) <;> simp
@[simp] theorem seekLock_hlp_rate (req : CardReq) (s : State) :
    (seekLock req s).hlp.rate = s.hlp.rate := by
  unfold seekLock; (repeat' split) <;> simp
@[simp] theorem seekLock_hlp_inbound (req : CardReq) (s : State) :
    (seekLock req s).hlp.inbound = s.hlp.inbound := by
  unfold seekLock; (repeat' split) <;> simp
@[simp] theorem seekLock_hlp_deaf (req : CardReq) (s : State) :
    (seekLock req s).hlp.deaf = s.hlp.deaf := by
  unfold seekLock; (repeat' split) <;> simp
@[simp] theorem seekLock_hlp_inFlight (req : CardReq) (s : State) :
    (seekLock req s).hlp.inFlight = s.hlp.inFlight := by
  unfold seekLock; (repeat' split) <;> simp
@[simp] theorem seekLock_windows (req : CardReq) (s : State) :
    (seekLock req s).windows = s.windows := by
  unfold seekLock; (repeat' split) <;> simp
@[simp] theorem seekLock_ce_ring (req : CardReq) (s : State) :
    (seekLock req s).ce.ring = s.ce.ring := by
  unfold seekLock; (repeat' split) <;> simp
@[simp] theorem seekLock_ht (req : CardReq) (s : State) :
    (seekLock req s).ht = s.ht := by
  unfold seekLock; (repeat' split) <;> simp
@[simp] theorem seekLock_jc_phase (req : CardReq) (s : State) :
    (seekLock req s).jc.phase = s.jc.phase := by
  unfold seekLock; (repeat' split) <;> simp
@[simp] theorem seekLock_jc_stage (req : CardReq) (s : State) :
    (seekLock req s).jc.stage = s.jc.stage := by
  unfold seekLock; (repeat' split) <;> simp
@[simp] theorem seekLock_jc_cause (req : CardReq) (s : State) :
    (seekLock req s).jc.cause = s.jc.cause := by
  unfold seekLock; (repeat' split) <;> simp
@[simp] theorem seekLock_jc_recovered (req : CardReq) (s : State) :
    (seekLock req s).jc.recovered = s.jc.recovered := by
  unfold seekLock; (repeat' split) <;> simp
@[simp] theorem seekLock_jc_store (req : CardReq) (s : State) :
    (seekLock req s).jc.store = s.jc.store := by
  unfold seekLock; (repeat' split) <;> simp
@[simp] theorem seekLock_jc_next (req : CardReq) (s : State) :
    (seekLock req s).jc.next = s.jc.next := by
  unfold seekLock; (repeat' split) <;> simp
@[simp] theorem seekLock_jc_oldest (req : CardReq) (s : State) :
    (seekLock req s).jc.oldest = s.jc.oldest := by
  unfold seekLock; (repeat' split) <;> simp
@[simp] theorem seekLock_jc_untaken (req : CardReq) (s : State) :
    (seekLock req s).jc.untaken = s.jc.untaken := by
  unfold seekLock; (repeat' split) <;> simp
@[simp] theorem seekLock_jc_pendingCount (req : CardReq) (s : State) :
    (seekLock req s).jc.pendingCount = s.jc.pendingCount := by
  unfold seekLock; (repeat' split) <;> simp
@[simp] theorem seekLock_jc_appendQueue (req : CardReq) (s : State) :
    (seekLock req s).jc.appendQueue = s.jc.appendQueue := by
  unfold seekLock; (repeat' split) <;> simp
@[simp] theorem seekLock_jc_appendIssued (req : CardReq) (s : State) :
    (seekLock req s).jc.appendIssued = s.jc.appendIssued := by
  unfold seekLock; (repeat' split) <;> simp
@[simp] theorem seekLock_jc_appendPeriod (req : CardReq) (s : State) :
    (seekLock req s).jc.appendPeriod = s.jc.appendPeriod := by
  unfold seekLock; (repeat' split) <;> simp
@[simp] theorem seekLock_jc_admission (req : CardReq) (s : State) :
    (seekLock req s).jc.admission = s.jc.admission := by
  unfold seekLock; (repeat' split) <;> simp
@[simp] theorem seekLock_jc_tariffs (req : CardReq) (s : State) :
    (seekLock req s).jc.tariffs = s.jc.tariffs := by
  unfold seekLock; (repeat' split) <;> simp
@[simp] theorem seekLock_jc_cfg (req : CardReq) (s : State) :
    (seekLock req s).jc.cfg = s.jc.cfg := by
  unfold seekLock; (repeat' split) <;> simp
@[simp] theorem seekLock_jc_cfgWaiting (req : CardReq) (s : State) :
    (seekLock req s).jc.cfgWaiting = s.jc.cfgWaiting := by
  unfold seekLock; (repeat' split) <;> simp
@[simp] theorem seekLock_jc_format (req : CardReq) (s : State) :
    (seekLock req s).jc.format = s.jc.format := by
  unfold seekLock; (repeat' split) <;> simp
@[simp] theorem seekLock_jc_advice (req : CardReq) (s : State) :
    (seekLock req s).jc.advice = s.jc.advice := by
  unfold seekLock; (repeat' split) <;> simp
@[simp] theorem seekLock_jc_adviceWaiting (req : CardReq) (s : State) :
    (seekLock req s).jc.adviceWaiting = s.jc.adviceWaiting := by
  unfold seekLock; (repeat' split) <;> simp
@[simp] theorem seekLock_mau (req : CardReq) (s : State) :
    (seekLock req s).mau = s.mau := by
  unfold seekLock; (repeat' split) <;> simp
@[simp] theorem seekLock_pcu (req : CardReq) (s : State) :
    (seekLock req s).pcu = s.pcu := by
  unfold seekLock; (repeat' split) <;> simp
@[simp] theorem seekLock_asu (req : CardReq) (s : State) :
    (seekLock req s).asu = s.asu := by
  unfold seekLock; (repeat' split) <;> simp

@[simp] theorem releaseLock_pending (k : Nat) (s : State) :
    (releaseLock k s).pending = s.pending := by
  unfold releaseLock; (repeat' split) <;> simp
@[simp] theorem releaseLock_mem (k : Nat) (s : State) :
    (releaseLock k s).mem = s.mem := by
  unfold releaseLock; (repeat' split) <;> simp
@[simp] theorem releaseLock_hlp (k : Nat) (s : State) :
    (releaseLock k s).hlp = s.hlp := by
  unfold releaseLock; (repeat' split) <;> simp
@[simp] theorem releaseLock_lines (k : Nat) (s : State) :
    (releaseLock k s).lines = s.lines := by
  unfold releaseLock; (repeat' split) <;> simp
@[simp] theorem releaseLock_windows (k : Nat) (s : State) :
    (releaseLock k s).windows = s.windows := by
  unfold releaseLock; (repeat' split) <;> simp
@[simp] theorem releaseLock_ce_ring (k : Nat) (s : State) :
    (releaseLock k s).ce.ring = s.ce.ring := by
  unfold releaseLock; (repeat' split) <;> simp
@[simp] theorem releaseLock_ht (k : Nat) (s : State) :
    (releaseLock k s).ht = s.ht := by
  unfold releaseLock; (repeat' split) <;> simp
@[simp] theorem releaseLock_jc_phase (k : Nat) (s : State) :
    (releaseLock k s).jc.phase = s.jc.phase := by
  unfold releaseLock; (repeat' split) <;> simp
@[simp] theorem releaseLock_jc_stage (k : Nat) (s : State) :
    (releaseLock k s).jc.stage = s.jc.stage := by
  unfold releaseLock; (repeat' split) <;> simp
@[simp] theorem releaseLock_jc_cause (k : Nat) (s : State) :
    (releaseLock k s).jc.cause = s.jc.cause := by
  unfold releaseLock; (repeat' split) <;> simp
@[simp] theorem releaseLock_jc_recovered (k : Nat) (s : State) :
    (releaseLock k s).jc.recovered = s.jc.recovered := by
  unfold releaseLock; (repeat' split) <;> simp
@[simp] theorem releaseLock_jc_store (k : Nat) (s : State) :
    (releaseLock k s).jc.store = s.jc.store := by
  unfold releaseLock; (repeat' split) <;> simp
@[simp] theorem releaseLock_jc_next (k : Nat) (s : State) :
    (releaseLock k s).jc.next = s.jc.next := by
  unfold releaseLock; (repeat' split) <;> simp
@[simp] theorem releaseLock_jc_oldest (k : Nat) (s : State) :
    (releaseLock k s).jc.oldest = s.jc.oldest := by
  unfold releaseLock; (repeat' split) <;> simp
@[simp] theorem releaseLock_jc_untaken (k : Nat) (s : State) :
    (releaseLock k s).jc.untaken = s.jc.untaken := by
  unfold releaseLock; (repeat' split) <;> simp
@[simp] theorem releaseLock_jc_pendingCount (k : Nat) (s : State) :
    (releaseLock k s).jc.pendingCount = s.jc.pendingCount := by
  unfold releaseLock; (repeat' split) <;> simp
@[simp] theorem releaseLock_jc_appendQueue (k : Nat) (s : State) :
    (releaseLock k s).jc.appendQueue = s.jc.appendQueue := by
  unfold releaseLock; (repeat' split) <;> simp
@[simp] theorem releaseLock_jc_appendIssued (k : Nat) (s : State) :
    (releaseLock k s).jc.appendIssued = s.jc.appendIssued := by
  unfold releaseLock; (repeat' split) <;> simp
@[simp] theorem releaseLock_jc_appendPeriod (k : Nat) (s : State) :
    (releaseLock k s).jc.appendPeriod = s.jc.appendPeriod := by
  unfold releaseLock; (repeat' split) <;> simp
@[simp] theorem releaseLock_jc_admission (k : Nat) (s : State) :
    (releaseLock k s).jc.admission = s.jc.admission := by
  unfold releaseLock; (repeat' split) <;> simp
@[simp] theorem releaseLock_jc_tariffs (k : Nat) (s : State) :
    (releaseLock k s).jc.tariffs = s.jc.tariffs := by
  unfold releaseLock; (repeat' split) <;> simp
@[simp] theorem releaseLock_jc_cfg (k : Nat) (s : State) :
    (releaseLock k s).jc.cfg = s.jc.cfg := by
  unfold releaseLock; (repeat' split) <;> simp
@[simp] theorem releaseLock_jc_cfgWaiting (k : Nat) (s : State) :
    (releaseLock k s).jc.cfgWaiting = s.jc.cfgWaiting := by
  unfold releaseLock; (repeat' split) <;> simp
@[simp] theorem releaseLock_jc_format (k : Nat) (s : State) :
    (releaseLock k s).jc.format = s.jc.format := by
  unfold releaseLock; (repeat' split) <;> simp
@[simp] theorem releaseLock_jc_advice (k : Nat) (s : State) :
    (releaseLock k s).jc.advice = s.jc.advice := by
  unfold releaseLock; (repeat' split) <;> simp
@[simp] theorem releaseLock_jc_adviceWaiting (k : Nat) (s : State) :
    (releaseLock k s).jc.adviceWaiting = s.jc.adviceWaiting := by
  unfold releaseLock; (repeat' split) <;> simp
@[simp] theorem releaseLock_mau (k : Nat) (s : State) :
    (releaseLock k s).mau = s.mau := by
  unfold releaseLock; (repeat' split) <;> simp
@[simp] theorem releaseLock_pcu (k : Nat) (s : State) :
    (releaseLock k s).pcu = s.pcu := by
  unfold releaseLock; (repeat' split) <;> simp
@[simp] theorem releaseLock_asu (k : Nat) (s : State) :
    (releaseLock k s).asu = s.asu := by
  unfold releaseLock; (repeat' split) <;> simp

@[simp] theorem answerOwner_pending (k : Nat) (req : CardReq) (r : Reply) (s : State) :
    (answerOwner k req r s).pending = s.pending := by
  simp [answerOwner]
@[simp] theorem answerOwner_mem (k : Nat) (req : CardReq) (r : Reply) (s : State) :
    (answerOwner k req r s).mem = s.mem := by
  simp [answerOwner]
@[simp] theorem answerOwner_hlp_straps (k : Nat) (req : CardReq) (r : Reply) (s : State) :
    (answerOwner k req r s).hlp.straps = s.hlp.straps := by
  simp [answerOwner]
@[simp] theorem answerOwner_hlp_rate (k : Nat) (req : CardReq) (r : Reply) (s : State) :
    (answerOwner k req r s).hlp.rate = s.hlp.rate := by
  simp [answerOwner]
@[simp] theorem answerOwner_hlp_inbound (k : Nat) (req : CardReq) (r : Reply) (s : State) :
    (answerOwner k req r s).hlp.inbound = s.hlp.inbound := by
  simp [answerOwner]
@[simp] theorem answerOwner_hlp_deaf (k : Nat) (req : CardReq) (r : Reply) (s : State) :
    (answerOwner k req r s).hlp.deaf = s.hlp.deaf := by
  simp [answerOwner]
@[simp] theorem answerOwner_hlp_inFlight (k : Nat) (req : CardReq) (r : Reply) (s : State) :
    (answerOwner k req r s).hlp.inFlight = s.hlp.inFlight := by
  simp [answerOwner]
@[simp] theorem answerOwner_windows (k : Nat) (req : CardReq) (r : Reply) (s : State) :
    (answerOwner k req r s).windows = s.windows := by
  simp [answerOwner]
@[simp] theorem answerOwner_ce_ring (k : Nat) (req : CardReq) (r : Reply) (s : State) :
    (answerOwner k req r s).ce.ring = s.ce.ring := by
  simp [answerOwner]
@[simp] theorem answerOwner_ht (k : Nat) (req : CardReq) (r : Reply) (s : State) :
    (answerOwner k req r s).ht = s.ht := by
  simp [answerOwner]
@[simp] theorem answerOwner_jc_phase (k : Nat) (req : CardReq) (r : Reply) (s : State) :
    (answerOwner k req r s).jc.phase = s.jc.phase := by
  simp [answerOwner]
@[simp] theorem answerOwner_jc_stage (k : Nat) (req : CardReq) (r : Reply) (s : State) :
    (answerOwner k req r s).jc.stage = s.jc.stage := by
  simp [answerOwner]
@[simp] theorem answerOwner_jc_cause (k : Nat) (req : CardReq) (r : Reply) (s : State) :
    (answerOwner k req r s).jc.cause = s.jc.cause := by
  simp [answerOwner]
@[simp] theorem answerOwner_jc_recovered (k : Nat) (req : CardReq) (r : Reply) (s : State) :
    (answerOwner k req r s).jc.recovered = s.jc.recovered := by
  simp [answerOwner]
@[simp] theorem answerOwner_jc_store (k : Nat) (req : CardReq) (r : Reply) (s : State) :
    (answerOwner k req r s).jc.store = s.jc.store := by
  simp [answerOwner]
@[simp] theorem answerOwner_jc_next (k : Nat) (req : CardReq) (r : Reply) (s : State) :
    (answerOwner k req r s).jc.next = s.jc.next := by
  simp [answerOwner]
@[simp] theorem answerOwner_jc_oldest (k : Nat) (req : CardReq) (r : Reply) (s : State) :
    (answerOwner k req r s).jc.oldest = s.jc.oldest := by
  simp [answerOwner]
@[simp] theorem answerOwner_jc_untaken (k : Nat) (req : CardReq) (r : Reply) (s : State) :
    (answerOwner k req r s).jc.untaken = s.jc.untaken := by
  simp [answerOwner]
@[simp] theorem answerOwner_jc_pendingCount (k : Nat) (req : CardReq) (r : Reply) (s : State) :
    (answerOwner k req r s).jc.pendingCount = s.jc.pendingCount := by
  simp [answerOwner]
@[simp] theorem answerOwner_jc_appendQueue (k : Nat) (req : CardReq) (r : Reply) (s : State) :
    (answerOwner k req r s).jc.appendQueue = s.jc.appendQueue := by
  simp [answerOwner]
@[simp] theorem answerOwner_jc_appendIssued (k : Nat) (req : CardReq) (r : Reply) (s : State) :
    (answerOwner k req r s).jc.appendIssued = s.jc.appendIssued := by
  simp [answerOwner]
@[simp] theorem answerOwner_jc_appendPeriod (k : Nat) (req : CardReq) (r : Reply) (s : State) :
    (answerOwner k req r s).jc.appendPeriod = s.jc.appendPeriod := by
  simp [answerOwner]
@[simp] theorem answerOwner_jc_admission (k : Nat) (req : CardReq) (r : Reply) (s : State) :
    (answerOwner k req r s).jc.admission = s.jc.admission := by
  simp [answerOwner]
@[simp] theorem answerOwner_jc_tariffs (k : Nat) (req : CardReq) (r : Reply) (s : State) :
    (answerOwner k req r s).jc.tariffs = s.jc.tariffs := by
  simp [answerOwner]
@[simp] theorem answerOwner_jc_cfg (k : Nat) (req : CardReq) (r : Reply) (s : State) :
    (answerOwner k req r s).jc.cfg = s.jc.cfg := by
  simp [answerOwner]
@[simp] theorem answerOwner_jc_cfgWaiting (k : Nat) (req : CardReq) (r : Reply) (s : State) :
    (answerOwner k req r s).jc.cfgWaiting = s.jc.cfgWaiting := by
  simp [answerOwner]
@[simp] theorem answerOwner_jc_format (k : Nat) (req : CardReq) (r : Reply) (s : State) :
    (answerOwner k req r s).jc.format = s.jc.format := by
  simp [answerOwner]
@[simp] theorem answerOwner_jc_advice (k : Nat) (req : CardReq) (r : Reply) (s : State) :
    (answerOwner k req r s).jc.advice = s.jc.advice := by
  simp [answerOwner]
@[simp] theorem answerOwner_jc_adviceWaiting (k : Nat) (req : CardReq) (r : Reply) (s : State) :
    (answerOwner k req r s).jc.adviceWaiting = s.jc.adviceWaiting := by
  simp [answerOwner]
@[simp] theorem answerOwner_mau (k : Nat) (req : CardReq) (r : Reply) (s : State) :
    (answerOwner k req r s).mau = s.mau := by
  simp [answerOwner]
@[simp] theorem answerOwner_pcu (k : Nat) (req : CardReq) (r : Reply) (s : State) :
    (answerOwner k req r s).pcu = s.pcu := by
  simp [answerOwner]
@[simp] theorem answerOwner_asu (k : Nat) (req : CardReq) (r : Reply) (s : State) :
    (answerOwner k req r s).asu = s.asu := by
  simp [answerOwner]

@[simp] theorem setDoing_pending (k : Nat) (d : Deciding) (s : State) :
    (setDoing k d s).pending = s.pending := by
  unfold setDoing; split <;> simp
@[simp] theorem setDoing_mem (k : Nat) (d : Deciding) (s : State) :
    (setDoing k d s).mem = s.mem := by
  unfold setDoing; split <;> simp
@[simp] theorem setDoing_hlp (k : Nat) (d : Deciding) (s : State) :
    (setDoing k d s).hlp = s.hlp := by
  unfold setDoing; split <;> simp
@[simp] theorem setDoing_lines (k : Nat) (d : Deciding) (s : State) :
    (setDoing k d s).lines = s.lines := by
  unfold setDoing; split <;> simp
@[simp] theorem setDoing_windows (k : Nat) (d : Deciding) (s : State) :
    (setDoing k d s).windows = s.windows := by
  unfold setDoing; split <;> simp
@[simp] theorem setDoing_ce_ring (k : Nat) (d : Deciding) (s : State) :
    (setDoing k d s).ce.ring = s.ce.ring := by
  unfold setDoing; split <;> simp
@[simp] theorem setDoing_ht (k : Nat) (d : Deciding) (s : State) :
    (setDoing k d s).ht = s.ht := by
  unfold setDoing; split <;> simp
@[simp] theorem setDoing_jc (k : Nat) (d : Deciding) (s : State) :
    (setDoing k d s).jc = s.jc := by
  unfold setDoing; split <;> simp
@[simp] theorem setDoing_mau (k : Nat) (d : Deciding) (s : State) :
    (setDoing k d s).mau = s.mau := by
  unfold setDoing; split <;> simp
@[simp] theorem setDoing_pcu (k : Nat) (d : Deciding) (s : State) :
    (setDoing k d s).pcu = s.pcu := by
  unfold setDoing; split <;> simp
@[simp] theorem setDoing_asu (k : Nat) (d : Deciding) (s : State) :
    (setDoing k d s).asu = s.asu := by
  unfold setDoing; split <;> simp

@[simp] theorem takeCardRequest_pending (req : CardReq) (s : State) :
    (takeCardRequest req s).pending = s.pending := by
  unfold takeCardRequest; split <;> simp
@[simp] theorem takeCardRequest_mem (req : CardReq) (s : State) :
    (takeCardRequest req s).mem = s.mem := by
  unfold takeCardRequest; split <;> simp
@[simp] theorem takeCardRequest_hlp_straps (req : CardReq) (s : State) :
    (takeCardRequest req s).hlp.straps = s.hlp.straps := by
  unfold takeCardRequest; split <;> simp
@[simp] theorem takeCardRequest_hlp_rate (req : CardReq) (s : State) :
    (takeCardRequest req s).hlp.rate = s.hlp.rate := by
  unfold takeCardRequest; split <;> simp
@[simp] theorem takeCardRequest_hlp_inbound (req : CardReq) (s : State) :
    (takeCardRequest req s).hlp.inbound = s.hlp.inbound := by
  unfold takeCardRequest; split <;> simp
@[simp] theorem takeCardRequest_hlp_deaf (req : CardReq) (s : State) :
    (takeCardRequest req s).hlp.deaf = s.hlp.deaf := by
  unfold takeCardRequest; split <;> simp
@[simp] theorem takeCardRequest_hlp_inFlight (req : CardReq) (s : State) :
    (takeCardRequest req s).hlp.inFlight = s.hlp.inFlight := by
  unfold takeCardRequest; split <;> simp
@[simp] theorem takeCardRequest_windows (req : CardReq) (s : State) :
    (takeCardRequest req s).windows = s.windows := by
  unfold takeCardRequest; split <;> simp
@[simp] theorem takeCardRequest_ce_ring (req : CardReq) (s : State) :
    (takeCardRequest req s).ce.ring = s.ce.ring := by
  unfold takeCardRequest; split <;> simp
@[simp] theorem takeCardRequest_ht (req : CardReq) (s : State) :
    (takeCardRequest req s).ht = s.ht := by
  unfold takeCardRequest; split <;> simp
@[simp] theorem takeCardRequest_jc_phase (req : CardReq) (s : State) :
    (takeCardRequest req s).jc.phase = s.jc.phase := by
  unfold takeCardRequest; split <;> simp
@[simp] theorem takeCardRequest_jc_stage (req : CardReq) (s : State) :
    (takeCardRequest req s).jc.stage = s.jc.stage := by
  unfold takeCardRequest; split <;> simp
@[simp] theorem takeCardRequest_jc_cause (req : CardReq) (s : State) :
    (takeCardRequest req s).jc.cause = s.jc.cause := by
  unfold takeCardRequest; split <;> simp
@[simp] theorem takeCardRequest_jc_recovered (req : CardReq) (s : State) :
    (takeCardRequest req s).jc.recovered = s.jc.recovered := by
  unfold takeCardRequest; split <;> simp
@[simp] theorem takeCardRequest_jc_store (req : CardReq) (s : State) :
    (takeCardRequest req s).jc.store = s.jc.store := by
  unfold takeCardRequest; split <;> simp
@[simp] theorem takeCardRequest_jc_next (req : CardReq) (s : State) :
    (takeCardRequest req s).jc.next = s.jc.next := by
  unfold takeCardRequest; split <;> simp
@[simp] theorem takeCardRequest_jc_oldest (req : CardReq) (s : State) :
    (takeCardRequest req s).jc.oldest = s.jc.oldest := by
  unfold takeCardRequest; split <;> simp
@[simp] theorem takeCardRequest_jc_untaken (req : CardReq) (s : State) :
    (takeCardRequest req s).jc.untaken = s.jc.untaken := by
  unfold takeCardRequest; split <;> simp
@[simp] theorem takeCardRequest_jc_pendingCount (req : CardReq) (s : State) :
    (takeCardRequest req s).jc.pendingCount = s.jc.pendingCount := by
  unfold takeCardRequest; split <;> simp
@[simp] theorem takeCardRequest_jc_appendQueue (req : CardReq) (s : State) :
    (takeCardRequest req s).jc.appendQueue = s.jc.appendQueue := by
  unfold takeCardRequest; split <;> simp
@[simp] theorem takeCardRequest_jc_appendIssued (req : CardReq) (s : State) :
    (takeCardRequest req s).jc.appendIssued = s.jc.appendIssued := by
  unfold takeCardRequest; split <;> simp
@[simp] theorem takeCardRequest_jc_appendPeriod (req : CardReq) (s : State) :
    (takeCardRequest req s).jc.appendPeriod = s.jc.appendPeriod := by
  unfold takeCardRequest; split <;> simp
@[simp] theorem takeCardRequest_jc_admission (req : CardReq) (s : State) :
    (takeCardRequest req s).jc.admission = s.jc.admission := by
  unfold takeCardRequest; split <;> simp
@[simp] theorem takeCardRequest_jc_tariffs (req : CardReq) (s : State) :
    (takeCardRequest req s).jc.tariffs = s.jc.tariffs := by
  unfold takeCardRequest; split <;> simp
@[simp] theorem takeCardRequest_jc_cfg (req : CardReq) (s : State) :
    (takeCardRequest req s).jc.cfg = s.jc.cfg := by
  unfold takeCardRequest; split <;> simp
@[simp] theorem takeCardRequest_jc_cfgWaiting (req : CardReq) (s : State) :
    (takeCardRequest req s).jc.cfgWaiting = s.jc.cfgWaiting := by
  unfold takeCardRequest; split <;> simp
@[simp] theorem takeCardRequest_jc_format (req : CardReq) (s : State) :
    (takeCardRequest req s).jc.format = s.jc.format := by
  unfold takeCardRequest; split <;> simp
@[simp] theorem takeCardRequest_jc_advice (req : CardReq) (s : State) :
    (takeCardRequest req s).jc.advice = s.jc.advice := by
  unfold takeCardRequest; split <;> simp
@[simp] theorem takeCardRequest_jc_adviceWaiting (req : CardReq) (s : State) :
    (takeCardRequest req s).jc.adviceWaiting = s.jc.adviceWaiting := by
  unfold takeCardRequest; split <;> simp
@[simp] theorem takeCardRequest_mau (req : CardReq) (s : State) :
    (takeCardRequest req s).mau = s.mau := by
  unfold takeCardRequest; split <;> simp
@[simp] theorem takeCardRequest_pcu (req : CardReq) (s : State) :
    (takeCardRequest req s).pcu = s.pcu := by
  unfold takeCardRequest; split <;> simp
@[simp] theorem takeCardRequest_asu (req : CardReq) (s : State) :
    (takeCardRequest req s).asu = s.asu := by
  unfold takeCardRequest; split <;> simp

@[simp] theorem abortSweep_pending (s : State) :
    (abortSweep s).pending = s.pending := by
  unfold abortSweep; split <;> simp
@[simp] theorem abortSweep_mem (s : State) :
    (abortSweep s).mem = s.mem := by
  unfold abortSweep; split <;> simp
@[simp] theorem abortSweep_hlp_straps (s : State) :
    (abortSweep s).hlp.straps = s.hlp.straps := by
  unfold abortSweep; split <;> simp
@[simp] theorem abortSweep_hlp_rate (s : State) :
    (abortSweep s).hlp.rate = s.hlp.rate := by
  unfold abortSweep; split <;> simp
@[simp] theorem abortSweep_hlp_inbound (s : State) :
    (abortSweep s).hlp.inbound = s.hlp.inbound := by
  unfold abortSweep; split <;> simp
@[simp] theorem abortSweep_hlp_deaf (s : State) :
    (abortSweep s).hlp.deaf = s.hlp.deaf := by
  unfold abortSweep; split <;> simp
@[simp] theorem abortSweep_hlp_inFlight (s : State) :
    (abortSweep s).hlp.inFlight = s.hlp.inFlight := by
  unfold abortSweep; split <;> simp
@[simp] theorem abortSweep_hlp_outbound (s : State) :
    (abortSweep s).hlp.outbound = s.hlp.outbound := by
  unfold abortSweep; split <;> simp
@[simp] theorem abortSweep_lines (s : State) :
    (abortSweep s).lines = s.lines := by
  unfold abortSweep; split <;> simp
@[simp] theorem abortSweep_windows (s : State) :
    (abortSweep s).windows = s.windows := by
  unfold abortSweep; split <;> simp
@[simp] theorem abortSweep_ce (s : State) :
    (abortSweep s).ce = s.ce := by
  unfold abortSweep; split <;> simp
@[simp] theorem abortSweep_ht (s : State) :
    (abortSweep s).ht = s.ht := by
  unfold abortSweep; split <;> simp
@[simp] theorem abortSweep_jc (s : State) :
    (abortSweep s).jc = s.jc := by
  unfold abortSweep; split <;> simp
@[simp] theorem abortSweep_mau (s : State) :
    (abortSweep s).mau = s.mau := by
  unfold abortSweep; split <;> simp
@[simp] theorem abortSweep_pcu (s : State) :
    (abortSweep s).pcu = s.pcu := by
  unfold abortSweep; split <;> simp
@[simp] theorem abortSweep_asu_cursor (s : State) :
    (abortSweep s).asu.cursor = s.asu.cursor := by
  unfold abortSweep; split <;> simp
@[simp] theorem abortSweep_asu_paid (s : State) :
    (abortSweep s).asu.paid = s.asu.paid := by
  unfold abortSweep; split <;> simp
@[simp] theorem abortSweep_asu_bonus (s : State) :
    (abortSweep s).asu.bonus = s.asu.bonus := by
  unfold abortSweep; split <;> simp
@[simp] theorem abortSweep_asu_unreadable (s : State) :
    (abortSweep s).asu.unreadable = s.asu.unreadable := by
  unfold abortSweep; split <;> simp
@[simp] theorem abortSweep_asu_outstanding (s : State) :
    (abortSweep s).asu.outstanding = s.asu.outstanding := by
  unfold abortSweep; split <;> simp

@[simp] theorem returnClaim_pending (m : Movement) (s : State) :
    (returnClaim m s).pending = s.pending := by
  unfold returnClaim; split <;> simp
@[simp] theorem returnClaim_mem (m : Movement) (s : State) :
    (returnClaim m s).mem = s.mem := by
  unfold returnClaim; split <;> simp
@[simp] theorem returnClaim_hlp (m : Movement) (s : State) :
    (returnClaim m s).hlp = s.hlp := by
  unfold returnClaim; split <;> simp
@[simp] theorem returnClaim_lines (m : Movement) (s : State) :
    (returnClaim m s).lines = s.lines := by
  unfold returnClaim; split <;> simp
@[simp] theorem returnClaim_windows (m : Movement) (s : State) :
    (returnClaim m s).windows = s.windows := by
  unfold returnClaim; split <;> simp
@[simp] theorem returnClaim_ce (m : Movement) (s : State) :
    (returnClaim m s).ce = s.ce := by
  unfold returnClaim; split <;> simp
@[simp] theorem returnClaim_ht_serial (m : Movement) (s : State) :
    (returnClaim m s).ht.serial = s.ht.serial := by
  unfold returnClaim; split <;> simp
@[simp] theorem returnClaim_ht_epoch (m : Movement) (s : State) :
    (returnClaim m s).ht.epoch = s.ht.epoch := by
  unfold returnClaim; split <;> simp
@[simp] theorem returnClaim_ht_seconds (m : Movement) (s : State) :
    (returnClaim m s).ht.seconds = s.ht.seconds := by
  unfold returnClaim; split <;> simp
@[simp] theorem returnClaim_ht_timeSet (m : Movement) (s : State) :
    (returnClaim m s).ht.timeSet = s.ht.timeSet := by
  unfold returnClaim; split <;> simp
@[simp] theorem returnClaim_jc (m : Movement) (s : State) :
    (returnClaim m s).jc = s.jc := by
  unfold returnClaim; split <;> simp
@[simp] theorem returnClaim_mau (m : Movement) (s : State) :
    (returnClaim m s).mau = s.mau := by
  unfold returnClaim; split <;> simp
@[simp] theorem returnClaim_pcu (m : Movement) (s : State) :
    (returnClaim m s).pcu = s.pcu := by
  unfold returnClaim; split <;> simp
@[simp] theorem returnClaim_asu (m : Movement) (s : State) :
    (returnClaim m s).asu = s.asu := by
  unfold returnClaim; split <;> simp

@[simp] theorem refuseItem_pending (i : AppendItem) (st : Status) (reason : Nat) (extra : List Byte) (journal : Nat) (s : State) :
    (refuseItem i st reason extra journal s).pending = s.pending := by
  unfold refuseItem; split <;> simp
@[simp] theorem refuseItem_mem (i : AppendItem) (st : Status) (reason : Nat) (extra : List Byte) (journal : Nat) (s : State) :
    (refuseItem i st reason extra journal s).mem = s.mem := by
  unfold refuseItem; split <;> simp
@[simp] theorem refuseItem_hlp_straps (i : AppendItem) (st : Status) (reason : Nat) (extra : List Byte) (journal : Nat) (s : State) :
    (refuseItem i st reason extra journal s).hlp.straps = s.hlp.straps := by
  unfold refuseItem; split <;> simp
@[simp] theorem refuseItem_hlp_rate (i : AppendItem) (st : Status) (reason : Nat) (extra : List Byte) (journal : Nat) (s : State) :
    (refuseItem i st reason extra journal s).hlp.rate = s.hlp.rate := by
  unfold refuseItem; split <;> simp
@[simp] theorem refuseItem_hlp_inbound (i : AppendItem) (st : Status) (reason : Nat) (extra : List Byte) (journal : Nat) (s : State) :
    (refuseItem i st reason extra journal s).hlp.inbound = s.hlp.inbound := by
  unfold refuseItem; split <;> simp
@[simp] theorem refuseItem_hlp_deaf (i : AppendItem) (st : Status) (reason : Nat) (extra : List Byte) (journal : Nat) (s : State) :
    (refuseItem i st reason extra journal s).hlp.deaf = s.hlp.deaf := by
  unfold refuseItem; split <;> simp
@[simp] theorem refuseItem_hlp_inFlight (i : AppendItem) (st : Status) (reason : Nat) (extra : List Byte) (journal : Nat) (s : State) :
    (refuseItem i st reason extra journal s).hlp.inFlight = s.hlp.inFlight := by
  unfold refuseItem; split <;> simp
@[simp] theorem refuseItem_windows (i : AppendItem) (st : Status) (reason : Nat) (extra : List Byte) (journal : Nat) (s : State) :
    (refuseItem i st reason extra journal s).windows = s.windows := by
  unfold refuseItem; split <;> simp
@[simp] theorem refuseItem_ce_ring (i : AppendItem) (st : Status) (reason : Nat) (extra : List Byte) (journal : Nat) (s : State) :
    (refuseItem i st reason extra journal s).ce.ring = s.ce.ring := by
  unfold refuseItem; split <;> simp
@[simp] theorem refuseItem_ht_serial (i : AppendItem) (st : Status) (reason : Nat) (extra : List Byte) (journal : Nat) (s : State) :
    (refuseItem i st reason extra journal s).ht.serial = s.ht.serial := by
  unfold refuseItem; split <;> simp
@[simp] theorem refuseItem_ht_epoch (i : AppendItem) (st : Status) (reason : Nat) (extra : List Byte) (journal : Nat) (s : State) :
    (refuseItem i st reason extra journal s).ht.epoch = s.ht.epoch := by
  unfold refuseItem; split <;> simp
@[simp] theorem refuseItem_ht_seconds (i : AppendItem) (st : Status) (reason : Nat) (extra : List Byte) (journal : Nat) (s : State) :
    (refuseItem i st reason extra journal s).ht.seconds = s.ht.seconds := by
  unfold refuseItem; split <;> simp
@[simp] theorem refuseItem_ht_timeSet (i : AppendItem) (st : Status) (reason : Nat) (extra : List Byte) (journal : Nat) (s : State) :
    (refuseItem i st reason extra journal s).ht.timeSet = s.ht.timeSet := by
  unfold refuseItem; split <;> simp
@[simp] theorem refuseItem_jc_phase (i : AppendItem) (st : Status) (reason : Nat) (extra : List Byte) (journal : Nat) (s : State) :
    (refuseItem i st reason extra journal s).jc.phase = s.jc.phase := by
  unfold refuseItem; split <;> simp
@[simp] theorem refuseItem_jc_stage (i : AppendItem) (st : Status) (reason : Nat) (extra : List Byte) (journal : Nat) (s : State) :
    (refuseItem i st reason extra journal s).jc.stage = s.jc.stage := by
  unfold refuseItem; split <;> simp
@[simp] theorem refuseItem_jc_cause (i : AppendItem) (st : Status) (reason : Nat) (extra : List Byte) (journal : Nat) (s : State) :
    (refuseItem i st reason extra journal s).jc.cause = s.jc.cause := by
  unfold refuseItem; split <;> simp
@[simp] theorem refuseItem_jc_recovered (i : AppendItem) (st : Status) (reason : Nat) (extra : List Byte) (journal : Nat) (s : State) :
    (refuseItem i st reason extra journal s).jc.recovered = s.jc.recovered := by
  unfold refuseItem; split <;> simp
@[simp] theorem refuseItem_jc_store (i : AppendItem) (st : Status) (reason : Nat) (extra : List Byte) (journal : Nat) (s : State) :
    (refuseItem i st reason extra journal s).jc.store = s.jc.store := by
  unfold refuseItem; split <;> simp
@[simp] theorem refuseItem_jc_next (i : AppendItem) (st : Status) (reason : Nat) (extra : List Byte) (journal : Nat) (s : State) :
    (refuseItem i st reason extra journal s).jc.next = s.jc.next := by
  unfold refuseItem; split <;> simp
@[simp] theorem refuseItem_jc_oldest (i : AppendItem) (st : Status) (reason : Nat) (extra : List Byte) (journal : Nat) (s : State) :
    (refuseItem i st reason extra journal s).jc.oldest = s.jc.oldest := by
  unfold refuseItem; split <;> simp
@[simp] theorem refuseItem_jc_untaken (i : AppendItem) (st : Status) (reason : Nat) (extra : List Byte) (journal : Nat) (s : State) :
    (refuseItem i st reason extra journal s).jc.untaken = s.jc.untaken := by
  unfold refuseItem; split <;> simp
@[simp] theorem refuseItem_jc_pendingCount (i : AppendItem) (st : Status) (reason : Nat) (extra : List Byte) (journal : Nat) (s : State) :
    (refuseItem i st reason extra journal s).jc.pendingCount = s.jc.pendingCount := by
  unfold refuseItem; split <;> simp
@[simp] theorem refuseItem_jc_appendQueue (i : AppendItem) (st : Status) (reason : Nat) (extra : List Byte) (journal : Nat) (s : State) :
    (refuseItem i st reason extra journal s).jc.appendQueue = s.jc.appendQueue := by
  unfold refuseItem; split <;> simp
@[simp] theorem refuseItem_jc_appendIssued (i : AppendItem) (st : Status) (reason : Nat) (extra : List Byte) (journal : Nat) (s : State) :
    (refuseItem i st reason extra journal s).jc.appendIssued = s.jc.appendIssued := by
  unfold refuseItem; split <;> simp
@[simp] theorem refuseItem_jc_appendPeriod (i : AppendItem) (st : Status) (reason : Nat) (extra : List Byte) (journal : Nat) (s : State) :
    (refuseItem i st reason extra journal s).jc.appendPeriod = s.jc.appendPeriod := by
  unfold refuseItem; split <;> simp
@[simp] theorem refuseItem_jc_admission (i : AppendItem) (st : Status) (reason : Nat) (extra : List Byte) (journal : Nat) (s : State) :
    (refuseItem i st reason extra journal s).jc.admission = s.jc.admission := by
  unfold refuseItem; split <;> simp
@[simp] theorem refuseItem_jc_tariffs (i : AppendItem) (st : Status) (reason : Nat) (extra : List Byte) (journal : Nat) (s : State) :
    (refuseItem i st reason extra journal s).jc.tariffs = s.jc.tariffs := by
  unfold refuseItem; split <;> simp
@[simp] theorem refuseItem_jc_cfg (i : AppendItem) (st : Status) (reason : Nat) (extra : List Byte) (journal : Nat) (s : State) :
    (refuseItem i st reason extra journal s).jc.cfg = s.jc.cfg := by
  unfold refuseItem; split <;> simp
@[simp] theorem refuseItem_jc_cfgWaiting (i : AppendItem) (st : Status) (reason : Nat) (extra : List Byte) (journal : Nat) (s : State) :
    (refuseItem i st reason extra journal s).jc.cfgWaiting = s.jc.cfgWaiting := by
  unfold refuseItem; split <;> simp
@[simp] theorem refuseItem_jc_format (i : AppendItem) (st : Status) (reason : Nat) (extra : List Byte) (journal : Nat) (s : State) :
    (refuseItem i st reason extra journal s).jc.format = s.jc.format := by
  unfold refuseItem; split <;> simp
@[simp] theorem refuseItem_jc_advice (i : AppendItem) (st : Status) (reason : Nat) (extra : List Byte) (journal : Nat) (s : State) :
    (refuseItem i st reason extra journal s).jc.advice = s.jc.advice := by
  unfold refuseItem; split <;> simp
@[simp] theorem refuseItem_jc_adviceWaiting (i : AppendItem) (st : Status) (reason : Nat) (extra : List Byte) (journal : Nat) (s : State) :
    (refuseItem i st reason extra journal s).jc.adviceWaiting = s.jc.adviceWaiting := by
  unfold refuseItem; split <;> simp
@[simp] theorem refuseItem_mau (i : AppendItem) (st : Status) (reason : Nat) (extra : List Byte) (journal : Nat) (s : State) :
    (refuseItem i st reason extra journal s).mau = s.mau := by
  unfold refuseItem; split <;> simp
@[simp] theorem refuseItem_pcu (i : AppendItem) (st : Status) (reason : Nat) (extra : List Byte) (journal : Nat) (s : State) :
    (refuseItem i st reason extra journal s).pcu = s.pcu := by
  unfold refuseItem; split <;> simp
@[simp] theorem refuseItem_asu (i : AppendItem) (st : Status) (reason : Nat) (extra : List Byte) (journal : Nat) (s : State) :
    (refuseItem i st reason extra journal s).asu = s.asu := by
  unfold refuseItem; split <;> simp

@[simp] theorem queueAppend_pending (s : State) :
    (queueAppend s).pending = s.pending := by
  unfold queueAppend; split <;> rfl
@[simp] theorem queueAppend_mem (s : State) :
    (queueAppend s).mem = s.mem := by
  unfold queueAppend; split <;> rfl
@[simp] theorem queueAppend_hlp (s : State) :
    (queueAppend s).hlp = s.hlp := by
  unfold queueAppend; split <;> rfl
@[simp] theorem queueAppend_lines (s : State) :
    (queueAppend s).lines = s.lines := by
  unfold queueAppend; split <;> rfl
@[simp] theorem queueAppend_windows (s : State) :
    (queueAppend s).windows = s.windows := by
  unfold queueAppend; split <;> rfl
@[simp] theorem queueAppend_ce (s : State) :
    (queueAppend s).ce = s.ce := by
  unfold queueAppend; split <;> rfl
@[simp] theorem queueAppend_ht (s : State) :
    (queueAppend s).ht = s.ht := by
  unfold queueAppend; split <;> rfl
@[simp] theorem queueAppend_jc_phase (s : State) :
    (queueAppend s).jc.phase = s.jc.phase := by
  unfold queueAppend; split <;> rfl
@[simp] theorem queueAppend_jc_stage (s : State) :
    (queueAppend s).jc.stage = s.jc.stage := by
  unfold queueAppend; split <;> rfl
@[simp] theorem queueAppend_jc_cause (s : State) :
    (queueAppend s).jc.cause = s.jc.cause := by
  unfold queueAppend; split <;> rfl
@[simp] theorem queueAppend_jc_recovered (s : State) :
    (queueAppend s).jc.recovered = s.jc.recovered := by
  unfold queueAppend; split <;> rfl
@[simp] theorem queueAppend_jc_store (s : State) :
    (queueAppend s).jc.store = s.jc.store := by
  unfold queueAppend; split <;> rfl
@[simp] theorem queueAppend_jc_next (s : State) :
    (queueAppend s).jc.next = s.jc.next := by
  unfold queueAppend; split <;> rfl
@[simp] theorem queueAppend_jc_oldest (s : State) :
    (queueAppend s).jc.oldest = s.jc.oldest := by
  unfold queueAppend; split <;> rfl
@[simp] theorem queueAppend_jc_untaken (s : State) :
    (queueAppend s).jc.untaken = s.jc.untaken := by
  unfold queueAppend; split <;> rfl
@[simp] theorem queueAppend_jc_pendingCount (s : State) :
    (queueAppend s).jc.pendingCount = s.jc.pendingCount := by
  unfold queueAppend; split <;> rfl
@[simp] theorem queueAppend_jc_appendQueue (s : State) :
    (queueAppend s).jc.appendQueue = s.jc.appendQueue := by
  unfold queueAppend; split <;> rfl
@[simp] theorem queueAppend_jc_appendPeriod (s : State) :
    (queueAppend s).jc.appendPeriod = s.jc.appendPeriod := by
  unfold queueAppend; split <;> rfl
@[simp] theorem queueAppend_jc_admission (s : State) :
    (queueAppend s).jc.admission = s.jc.admission := by
  unfold queueAppend; split <;> rfl
@[simp] theorem queueAppend_jc_tariffs (s : State) :
    (queueAppend s).jc.tariffs = s.jc.tariffs := by
  unfold queueAppend; split <;> rfl
@[simp] theorem queueAppend_jc_serving (s : State) :
    (queueAppend s).jc.serving = s.jc.serving := by
  unfold queueAppend; split <;> rfl
@[simp] theorem queueAppend_jc_cfg (s : State) :
    (queueAppend s).jc.cfg = s.jc.cfg := by
  unfold queueAppend; split <;> rfl
@[simp] theorem queueAppend_jc_cfgWaiting (s : State) :
    (queueAppend s).jc.cfgWaiting = s.jc.cfgWaiting := by
  unfold queueAppend; split <;> rfl
@[simp] theorem queueAppend_jc_format (s : State) :
    (queueAppend s).jc.format = s.jc.format := by
  unfold queueAppend; split <;> rfl
@[simp] theorem queueAppend_jc_advice (s : State) :
    (queueAppend s).jc.advice = s.jc.advice := by
  unfold queueAppend; split <;> rfl
@[simp] theorem queueAppend_jc_adviceWaiting (s : State) :
    (queueAppend s).jc.adviceWaiting = s.jc.adviceWaiting := by
  unfold queueAppend; split <;> rfl
@[simp] theorem queueAppend_mau (s : State) :
    (queueAppend s).mau = s.mau := by
  unfold queueAppend; split <;> rfl
@[simp] theorem queueAppend_pcu (s : State) :
    (queueAppend s).pcu = s.pcu := by
  unfold queueAppend; split <;> rfl
@[simp] theorem queueAppend_asu (s : State) :
    (queueAppend s).asu = s.asu := by
  unfold queueAppend; split <;> rfl

@[simp] theorem portLoop_pending (fuel : Nat) (s : State) :
    (portLoop fuel s).pending = s.pending := by
  induction fuel generalizing s with
  | zero => rfl
  | succ fuel ih =>
    simp only [portLoop]
    (repeat' split) <;> simp [ih]
@[simp] theorem portLoop_mem (fuel : Nat) (s : State) :
    (portLoop fuel s).mem = s.mem := by
  induction fuel generalizing s with
  | zero => rfl
  | succ fuel ih =>
    simp only [portLoop]
    (repeat' split) <;> simp [ih]
@[simp] theorem portLoop_hlp_straps (fuel : Nat) (s : State) :
    (portLoop fuel s).hlp.straps = s.hlp.straps := by
  induction fuel generalizing s with
  | zero => rfl
  | succ fuel ih =>
    simp only [portLoop]
    (repeat' split) <;> simp [ih]
@[simp] theorem portLoop_hlp_rate (fuel : Nat) (s : State) :
    (portLoop fuel s).hlp.rate = s.hlp.rate := by
  induction fuel generalizing s with
  | zero => rfl
  | succ fuel ih =>
    simp only [portLoop]
    (repeat' split) <;> simp [ih]
@[simp] theorem portLoop_hlp_inbound (fuel : Nat) (s : State) :
    (portLoop fuel s).hlp.inbound = s.hlp.inbound := by
  induction fuel generalizing s with
  | zero => rfl
  | succ fuel ih =>
    simp only [portLoop]
    (repeat' split) <;> simp [ih]
@[simp] theorem portLoop_hlp_deaf (fuel : Nat) (s : State) :
    (portLoop fuel s).hlp.deaf = s.hlp.deaf := by
  induction fuel generalizing s with
  | zero => rfl
  | succ fuel ih =>
    simp only [portLoop]
    (repeat' split) <;> simp [ih]
@[simp] theorem portLoop_hlp_inFlight (fuel : Nat) (s : State) :
    (portLoop fuel s).hlp.inFlight = s.hlp.inFlight := by
  induction fuel generalizing s with
  | zero => rfl
  | succ fuel ih =>
    simp only [portLoop]
    (repeat' split) <;> simp [ih]
@[simp] theorem portLoop_windows (fuel : Nat) (s : State) :
    (portLoop fuel s).windows = s.windows := by
  induction fuel generalizing s with
  | zero => rfl
  | succ fuel ih =>
    simp only [portLoop]
    (repeat' split) <;> simp [ih]
@[simp] theorem portLoop_ce_ring (fuel : Nat) (s : State) :
    (portLoop fuel s).ce.ring = s.ce.ring := by
  induction fuel generalizing s with
  | zero => rfl
  | succ fuel ih =>
    simp only [portLoop]
    (repeat' split) <;> simp [ih]
@[simp] theorem portLoop_ht_serial (fuel : Nat) (s : State) :
    (portLoop fuel s).ht.serial = s.ht.serial := by
  induction fuel generalizing s with
  | zero => rfl
  | succ fuel ih =>
    simp only [portLoop]
    (repeat' split) <;> simp [ih]
@[simp] theorem portLoop_ht_epoch (fuel : Nat) (s : State) :
    (portLoop fuel s).ht.epoch = s.ht.epoch := by
  induction fuel generalizing s with
  | zero => rfl
  | succ fuel ih =>
    simp only [portLoop]
    (repeat' split) <;> simp [ih]
@[simp] theorem portLoop_ht_seconds (fuel : Nat) (s : State) :
    (portLoop fuel s).ht.seconds = s.ht.seconds := by
  induction fuel generalizing s with
  | zero => rfl
  | succ fuel ih =>
    simp only [portLoop]
    (repeat' split) <;> simp [ih]
@[simp] theorem portLoop_ht_timeSet (fuel : Nat) (s : State) :
    (portLoop fuel s).ht.timeSet = s.ht.timeSet := by
  induction fuel generalizing s with
  | zero => rfl
  | succ fuel ih =>
    simp only [portLoop]
    (repeat' split) <;> simp [ih]
@[simp] theorem portLoop_jc_phase (fuel : Nat) (s : State) :
    (portLoop fuel s).jc.phase = s.jc.phase := by
  induction fuel generalizing s with
  | zero => rfl
  | succ fuel ih =>
    simp only [portLoop]
    (repeat' split) <;> simp [ih]
@[simp] theorem portLoop_jc_stage (fuel : Nat) (s : State) :
    (portLoop fuel s).jc.stage = s.jc.stage := by
  induction fuel generalizing s with
  | zero => rfl
  | succ fuel ih =>
    simp only [portLoop]
    (repeat' split) <;> simp [ih]
@[simp] theorem portLoop_jc_cause (fuel : Nat) (s : State) :
    (portLoop fuel s).jc.cause = s.jc.cause := by
  induction fuel generalizing s with
  | zero => rfl
  | succ fuel ih =>
    simp only [portLoop]
    (repeat' split) <;> simp [ih]
@[simp] theorem portLoop_jc_recovered (fuel : Nat) (s : State) :
    (portLoop fuel s).jc.recovered = s.jc.recovered := by
  induction fuel generalizing s with
  | zero => rfl
  | succ fuel ih =>
    simp only [portLoop]
    (repeat' split) <;> simp [ih]
@[simp] theorem portLoop_jc_store (fuel : Nat) (s : State) :
    (portLoop fuel s).jc.store = s.jc.store := by
  induction fuel generalizing s with
  | zero => rfl
  | succ fuel ih =>
    simp only [portLoop]
    (repeat' split) <;> simp [ih]
@[simp] theorem portLoop_jc_next (fuel : Nat) (s : State) :
    (portLoop fuel s).jc.next = s.jc.next := by
  induction fuel generalizing s with
  | zero => rfl
  | succ fuel ih =>
    simp only [portLoop]
    (repeat' split) <;> simp [ih]
@[simp] theorem portLoop_jc_oldest (fuel : Nat) (s : State) :
    (portLoop fuel s).jc.oldest = s.jc.oldest := by
  induction fuel generalizing s with
  | zero => rfl
  | succ fuel ih =>
    simp only [portLoop]
    (repeat' split) <;> simp [ih]
@[simp] theorem portLoop_jc_untaken (fuel : Nat) (s : State) :
    (portLoop fuel s).jc.untaken = s.jc.untaken := by
  induction fuel generalizing s with
  | zero => rfl
  | succ fuel ih =>
    simp only [portLoop]
    (repeat' split) <;> simp [ih]
@[simp] theorem portLoop_jc_pendingCount (fuel : Nat) (s : State) :
    (portLoop fuel s).jc.pendingCount = s.jc.pendingCount := by
  induction fuel generalizing s with
  | zero => rfl
  | succ fuel ih =>
    simp only [portLoop]
    (repeat' split) <;> simp [ih]
@[simp] theorem portLoop_jc_appendPeriod (fuel : Nat) (s : State) :
    (portLoop fuel s).jc.appendPeriod = s.jc.appendPeriod := by
  induction fuel generalizing s with
  | zero => rfl
  | succ fuel ih =>
    simp only [portLoop]
    (repeat' split) <;> simp [ih]
@[simp] theorem portLoop_jc_admission (fuel : Nat) (s : State) :
    (portLoop fuel s).jc.admission = s.jc.admission := by
  induction fuel generalizing s with
  | zero => rfl
  | succ fuel ih =>
    simp only [portLoop]
    (repeat' split) <;> simp [ih]
@[simp] theorem portLoop_jc_tariffs (fuel : Nat) (s : State) :
    (portLoop fuel s).jc.tariffs = s.jc.tariffs := by
  induction fuel generalizing s with
  | zero => rfl
  | succ fuel ih =>
    simp only [portLoop]
    (repeat' split) <;> simp [ih]
@[simp] theorem portLoop_jc_cfg (fuel : Nat) (s : State) :
    (portLoop fuel s).jc.cfg = s.jc.cfg := by
  induction fuel generalizing s with
  | zero => rfl
  | succ fuel ih =>
    simp only [portLoop]
    (repeat' split) <;> simp [ih]
@[simp] theorem portLoop_jc_cfgWaiting (fuel : Nat) (s : State) :
    (portLoop fuel s).jc.cfgWaiting = s.jc.cfgWaiting := by
  induction fuel generalizing s with
  | zero => rfl
  | succ fuel ih =>
    simp only [portLoop]
    (repeat' split) <;> simp [ih]
@[simp] theorem portLoop_jc_format (fuel : Nat) (s : State) :
    (portLoop fuel s).jc.format = s.jc.format := by
  induction fuel generalizing s with
  | zero => rfl
  | succ fuel ih =>
    simp only [portLoop]
    (repeat' split) <;> simp [ih]
@[simp] theorem portLoop_jc_advice (fuel : Nat) (s : State) :
    (portLoop fuel s).jc.advice = s.jc.advice := by
  induction fuel generalizing s with
  | zero => rfl
  | succ fuel ih =>
    simp only [portLoop]
    (repeat' split) <;> simp [ih]
@[simp] theorem portLoop_jc_adviceWaiting (fuel : Nat) (s : State) :
    (portLoop fuel s).jc.adviceWaiting = s.jc.adviceWaiting := by
  induction fuel generalizing s with
  | zero => rfl
  | succ fuel ih =>
    simp only [portLoop]
    (repeat' split) <;> simp [ih]
@[simp] theorem portLoop_mau (fuel : Nat) (s : State) :
    (portLoop fuel s).mau = s.mau := by
  induction fuel generalizing s with
  | zero => rfl
  | succ fuel ih =>
    simp only [portLoop]
    (repeat' split) <;> simp [ih]
@[simp] theorem portLoop_pcu (fuel : Nat) (s : State) :
    (portLoop fuel s).pcu = s.pcu := by
  induction fuel generalizing s with
  | zero => rfl
  | succ fuel ih =>
    simp only [portLoop]
    (repeat' split) <;> simp [ih]
@[simp] theorem portLoop_asu (fuel : Nat) (s : State) :
    (portLoop fuel s).asu = s.asu := by
  induction fuel generalizing s with
  | zero => rfl
  | succ fuel ih =>
    simp only [portLoop]
    (repeat' split) <;> simp [ih]

@[simp] theorem portNext_pending (spare : Nat) (s : State) :
    (portNext spare s).pending = s.pending := by
  simp [portNext]
@[simp] theorem portNext_mem (spare : Nat) (s : State) :
    (portNext spare s).mem = s.mem := by
  simp [portNext]
@[simp] theorem portNext_hlp_straps (spare : Nat) (s : State) :
    (portNext spare s).hlp.straps = s.hlp.straps := by
  simp [portNext]
@[simp] theorem portNext_hlp_rate (spare : Nat) (s : State) :
    (portNext spare s).hlp.rate = s.hlp.rate := by
  simp [portNext]
@[simp] theorem portNext_hlp_inbound (spare : Nat) (s : State) :
    (portNext spare s).hlp.inbound = s.hlp.inbound := by
  simp [portNext]
@[simp] theorem portNext_hlp_deaf (spare : Nat) (s : State) :
    (portNext spare s).hlp.deaf = s.hlp.deaf := by
  simp [portNext]
@[simp] theorem portNext_hlp_inFlight (spare : Nat) (s : State) :
    (portNext spare s).hlp.inFlight = s.hlp.inFlight := by
  simp [portNext]
@[simp] theorem portNext_windows (spare : Nat) (s : State) :
    (portNext spare s).windows = s.windows := by
  simp [portNext]
@[simp] theorem portNext_ce_ring (spare : Nat) (s : State) :
    (portNext spare s).ce.ring = s.ce.ring := by
  simp [portNext]
@[simp] theorem portNext_ht_serial (spare : Nat) (s : State) :
    (portNext spare s).ht.serial = s.ht.serial := by
  simp [portNext]
@[simp] theorem portNext_ht_epoch (spare : Nat) (s : State) :
    (portNext spare s).ht.epoch = s.ht.epoch := by
  simp [portNext]
@[simp] theorem portNext_ht_seconds (spare : Nat) (s : State) :
    (portNext spare s).ht.seconds = s.ht.seconds := by
  simp [portNext]
@[simp] theorem portNext_ht_timeSet (spare : Nat) (s : State) :
    (portNext spare s).ht.timeSet = s.ht.timeSet := by
  simp [portNext]
@[simp] theorem portNext_jc_phase (spare : Nat) (s : State) :
    (portNext spare s).jc.phase = s.jc.phase := by
  simp [portNext]
@[simp] theorem portNext_jc_stage (spare : Nat) (s : State) :
    (portNext spare s).jc.stage = s.jc.stage := by
  simp [portNext]
@[simp] theorem portNext_jc_cause (spare : Nat) (s : State) :
    (portNext spare s).jc.cause = s.jc.cause := by
  simp [portNext]
@[simp] theorem portNext_jc_recovered (spare : Nat) (s : State) :
    (portNext spare s).jc.recovered = s.jc.recovered := by
  simp [portNext]
@[simp] theorem portNext_jc_store (spare : Nat) (s : State) :
    (portNext spare s).jc.store = s.jc.store := by
  simp [portNext]
@[simp] theorem portNext_jc_next (spare : Nat) (s : State) :
    (portNext spare s).jc.next = s.jc.next := by
  simp [portNext]
@[simp] theorem portNext_jc_oldest (spare : Nat) (s : State) :
    (portNext spare s).jc.oldest = s.jc.oldest := by
  simp [portNext]
@[simp] theorem portNext_jc_untaken (spare : Nat) (s : State) :
    (portNext spare s).jc.untaken = s.jc.untaken := by
  simp [portNext]
@[simp] theorem portNext_jc_pendingCount (spare : Nat) (s : State) :
    (portNext spare s).jc.pendingCount = s.jc.pendingCount := by
  simp [portNext]
@[simp] theorem portNext_jc_appendPeriod (spare : Nat) (s : State) :
    (portNext spare s).jc.appendPeriod = s.jc.appendPeriod := by
  simp [portNext]
@[simp] theorem portNext_jc_admission (spare : Nat) (s : State) :
    (portNext spare s).jc.admission = s.jc.admission := by
  simp [portNext]
@[simp] theorem portNext_jc_tariffs (spare : Nat) (s : State) :
    (portNext spare s).jc.tariffs = s.jc.tariffs := by
  simp [portNext]
@[simp] theorem portNext_jc_cfg (spare : Nat) (s : State) :
    (portNext spare s).jc.cfg = s.jc.cfg := by
  simp [portNext]
@[simp] theorem portNext_jc_cfgWaiting (spare : Nat) (s : State) :
    (portNext spare s).jc.cfgWaiting = s.jc.cfgWaiting := by
  simp [portNext]
@[simp] theorem portNext_jc_format (spare : Nat) (s : State) :
    (portNext spare s).jc.format = s.jc.format := by
  simp [portNext]
@[simp] theorem portNext_jc_advice (spare : Nat) (s : State) :
    (portNext spare s).jc.advice = s.jc.advice := by
  simp [portNext]
@[simp] theorem portNext_jc_adviceWaiting (spare : Nat) (s : State) :
    (portNext spare s).jc.adviceWaiting = s.jc.adviceWaiting := by
  simp [portNext]
@[simp] theorem portNext_mau (spare : Nat) (s : State) :
    (portNext spare s).mau = s.mau := by
  simp [portNext]
@[simp] theorem portNext_pcu (spare : Nat) (s : State) :
    (portNext spare s).pcu = s.pcu := by
  simp [portNext]
@[simp] theorem portNext_asu (spare : Nat) (s : State) :
    (portNext spare s).asu = s.asu := by
  simp [portNext]

@[simp] theorem issueDue_pending (s : State) :
    (issueDue s).pending = s.pending := by
  unfold issueDue; (repeat' split) <;> simp
@[simp] theorem issueDue_mem (s : State) :
    (issueDue s).mem = s.mem := by
  unfold issueDue; (repeat' split) <;> simp
@[simp] theorem issueDue_hlp_straps (s : State) :
    (issueDue s).hlp.straps = s.hlp.straps := by
  unfold issueDue; (repeat' split) <;> simp
@[simp] theorem issueDue_hlp_rate (s : State) :
    (issueDue s).hlp.rate = s.hlp.rate := by
  unfold issueDue; (repeat' split) <;> simp
@[simp] theorem issueDue_hlp_inbound (s : State) :
    (issueDue s).hlp.inbound = s.hlp.inbound := by
  unfold issueDue; (repeat' split) <;> simp
@[simp] theorem issueDue_hlp_deaf (s : State) :
    (issueDue s).hlp.deaf = s.hlp.deaf := by
  unfold issueDue; (repeat' split) <;> simp
@[simp] theorem issueDue_hlp_inFlight (s : State) :
    (issueDue s).hlp.inFlight = s.hlp.inFlight := by
  unfold issueDue; (repeat' split) <;> simp
@[simp] theorem issueDue_windows (s : State) :
    (issueDue s).windows = s.windows := by
  unfold issueDue; (repeat' split) <;> simp
@[simp] theorem issueDue_ce_ring (s : State) :
    (issueDue s).ce.ring = s.ce.ring := by
  unfold issueDue; (repeat' split) <;> simp
@[simp] theorem issueDue_ht_serial (s : State) :
    (issueDue s).ht.serial = s.ht.serial := by
  unfold issueDue; (repeat' split) <;> simp
@[simp] theorem issueDue_ht_epoch (s : State) :
    (issueDue s).ht.epoch = s.ht.epoch := by
  unfold issueDue; (repeat' split) <;> simp
@[simp] theorem issueDue_ht_seconds (s : State) :
    (issueDue s).ht.seconds = s.ht.seconds := by
  unfold issueDue; (repeat' split) <;> simp
@[simp] theorem issueDue_ht_timeSet (s : State) :
    (issueDue s).ht.timeSet = s.ht.timeSet := by
  unfold issueDue; (repeat' split) <;> simp
@[simp] theorem issueDue_jc_phase (s : State) :
    (issueDue s).jc.phase = s.jc.phase := by
  unfold issueDue; (repeat' split) <;> simp
@[simp] theorem issueDue_jc_stage (s : State) :
    (issueDue s).jc.stage = s.jc.stage := by
  unfold issueDue; (repeat' split) <;> simp
@[simp] theorem issueDue_jc_cause (s : State) :
    (issueDue s).jc.cause = s.jc.cause := by
  unfold issueDue; (repeat' split) <;> simp
@[simp] theorem issueDue_jc_recovered (s : State) :
    (issueDue s).jc.recovered = s.jc.recovered := by
  unfold issueDue; (repeat' split) <;> simp
@[simp] theorem issueDue_jc_store (s : State) :
    (issueDue s).jc.store = s.jc.store := by
  unfold issueDue; (repeat' split) <;> simp
@[simp] theorem issueDue_jc_next (s : State) :
    (issueDue s).jc.next = s.jc.next := by
  unfold issueDue; (repeat' split) <;> simp
@[simp] theorem issueDue_jc_oldest (s : State) :
    (issueDue s).jc.oldest = s.jc.oldest := by
  unfold issueDue; (repeat' split) <;> simp
@[simp] theorem issueDue_jc_untaken (s : State) :
    (issueDue s).jc.untaken = s.jc.untaken := by
  unfold issueDue; (repeat' split) <;> simp
@[simp] theorem issueDue_jc_pendingCount (s : State) :
    (issueDue s).jc.pendingCount = s.jc.pendingCount := by
  unfold issueDue; (repeat' split) <;> simp
@[simp] theorem issueDue_jc_appendPeriod (s : State) :
    (issueDue s).jc.appendPeriod = s.jc.appendPeriod := by
  unfold issueDue; (repeat' split) <;> simp
@[simp] theorem issueDue_jc_admission (s : State) :
    (issueDue s).jc.admission = s.jc.admission := by
  unfold issueDue; (repeat' split) <;> simp
@[simp] theorem issueDue_jc_tariffs (s : State) :
    (issueDue s).jc.tariffs = s.jc.tariffs := by
  unfold issueDue; (repeat' split) <;> simp
@[simp] theorem issueDue_jc_cfg (s : State) :
    (issueDue s).jc.cfg = s.jc.cfg := by
  unfold issueDue; (repeat' split) <;> simp
@[simp] theorem issueDue_jc_cfgWaiting (s : State) :
    (issueDue s).jc.cfgWaiting = s.jc.cfgWaiting := by
  unfold issueDue; (repeat' split) <;> simp
@[simp] theorem issueDue_jc_format (s : State) :
    (issueDue s).jc.format = s.jc.format := by
  unfold issueDue; (repeat' split) <;> simp
@[simp] theorem issueDue_jc_advice (s : State) :
    (issueDue s).jc.advice = s.jc.advice := by
  unfold issueDue; (repeat' split) <;> simp
@[simp] theorem issueDue_jc_adviceWaiting (s : State) :
    (issueDue s).jc.adviceWaiting = s.jc.adviceWaiting := by
  unfold issueDue; (repeat' split) <;> simp
@[simp] theorem issueDue_mau (s : State) :
    (issueDue s).mau = s.mau := by
  unfold issueDue; (repeat' split) <;> simp
@[simp] theorem issueDue_pcu (s : State) :
    (issueDue s).pcu = s.pcu := by
  unfold issueDue; (repeat' split) <;> simp
@[simp] theorem issueDue_asu (s : State) :
    (issueDue s).asu = s.asu := by
  unfold issueDue; (repeat' split) <;> simp

@[simp] theorem joinAppend_pending (i : AppendItem) (s : State) :
    (joinAppend i s).pending = s.pending := by
  unfold joinAppend; split <;> simp
@[simp] theorem joinAppend_mem (i : AppendItem) (s : State) :
    (joinAppend i s).mem = s.mem := by
  unfold joinAppend; split <;> simp
@[simp] theorem joinAppend_hlp_straps (i : AppendItem) (s : State) :
    (joinAppend i s).hlp.straps = s.hlp.straps := by
  unfold joinAppend; split <;> simp
@[simp] theorem joinAppend_hlp_rate (i : AppendItem) (s : State) :
    (joinAppend i s).hlp.rate = s.hlp.rate := by
  unfold joinAppend; split <;> simp
@[simp] theorem joinAppend_hlp_inbound (i : AppendItem) (s : State) :
    (joinAppend i s).hlp.inbound = s.hlp.inbound := by
  unfold joinAppend; split <;> simp
@[simp] theorem joinAppend_hlp_deaf (i : AppendItem) (s : State) :
    (joinAppend i s).hlp.deaf = s.hlp.deaf := by
  unfold joinAppend; split <;> simp
@[simp] theorem joinAppend_hlp_inFlight (i : AppendItem) (s : State) :
    (joinAppend i s).hlp.inFlight = s.hlp.inFlight := by
  unfold joinAppend; split <;> simp
@[simp] theorem joinAppend_windows (i : AppendItem) (s : State) :
    (joinAppend i s).windows = s.windows := by
  unfold joinAppend; split <;> simp
@[simp] theorem joinAppend_ce_ring (i : AppendItem) (s : State) :
    (joinAppend i s).ce.ring = s.ce.ring := by
  unfold joinAppend; split <;> simp
@[simp] theorem joinAppend_ht_serial (i : AppendItem) (s : State) :
    (joinAppend i s).ht.serial = s.ht.serial := by
  unfold joinAppend; split <;> simp
@[simp] theorem joinAppend_ht_epoch (i : AppendItem) (s : State) :
    (joinAppend i s).ht.epoch = s.ht.epoch := by
  unfold joinAppend; split <;> simp
@[simp] theorem joinAppend_ht_seconds (i : AppendItem) (s : State) :
    (joinAppend i s).ht.seconds = s.ht.seconds := by
  unfold joinAppend; split <;> simp
@[simp] theorem joinAppend_ht_timeSet (i : AppendItem) (s : State) :
    (joinAppend i s).ht.timeSet = s.ht.timeSet := by
  unfold joinAppend; split <;> simp
@[simp] theorem joinAppend_jc_phase (i : AppendItem) (s : State) :
    (joinAppend i s).jc.phase = s.jc.phase := by
  unfold joinAppend; split <;> simp
@[simp] theorem joinAppend_jc_stage (i : AppendItem) (s : State) :
    (joinAppend i s).jc.stage = s.jc.stage := by
  unfold joinAppend; split <;> simp
@[simp] theorem joinAppend_jc_cause (i : AppendItem) (s : State) :
    (joinAppend i s).jc.cause = s.jc.cause := by
  unfold joinAppend; split <;> simp
@[simp] theorem joinAppend_jc_recovered (i : AppendItem) (s : State) :
    (joinAppend i s).jc.recovered = s.jc.recovered := by
  unfold joinAppend; split <;> simp
@[simp] theorem joinAppend_jc_store (i : AppendItem) (s : State) :
    (joinAppend i s).jc.store = s.jc.store := by
  unfold joinAppend; split <;> simp
@[simp] theorem joinAppend_jc_next (i : AppendItem) (s : State) :
    (joinAppend i s).jc.next = s.jc.next := by
  unfold joinAppend; split <;> simp
@[simp] theorem joinAppend_jc_oldest (i : AppendItem) (s : State) :
    (joinAppend i s).jc.oldest = s.jc.oldest := by
  unfold joinAppend; split <;> simp
@[simp] theorem joinAppend_jc_untaken (i : AppendItem) (s : State) :
    (joinAppend i s).jc.untaken = s.jc.untaken := by
  unfold joinAppend; split <;> simp
@[simp] theorem joinAppend_jc_pendingCount (i : AppendItem) (s : State) :
    (joinAppend i s).jc.pendingCount = s.jc.pendingCount := by
  unfold joinAppend; split <;> simp
@[simp] theorem joinAppend_jc_appendPeriod (i : AppendItem) (s : State) :
    (joinAppend i s).jc.appendPeriod = s.jc.appendPeriod := by
  unfold joinAppend; split <;> simp
@[simp] theorem joinAppend_jc_admission (i : AppendItem) (s : State) :
    (joinAppend i s).jc.admission = s.jc.admission := by
  unfold joinAppend; split <;> simp
@[simp] theorem joinAppend_jc_tariffs (i : AppendItem) (s : State) :
    (joinAppend i s).jc.tariffs = s.jc.tariffs := by
  unfold joinAppend; split <;> simp
@[simp] theorem joinAppend_jc_cfg (i : AppendItem) (s : State) :
    (joinAppend i s).jc.cfg = s.jc.cfg := by
  unfold joinAppend; split <;> simp
@[simp] theorem joinAppend_jc_cfgWaiting (i : AppendItem) (s : State) :
    (joinAppend i s).jc.cfgWaiting = s.jc.cfgWaiting := by
  unfold joinAppend; split <;> simp
@[simp] theorem joinAppend_jc_format (i : AppendItem) (s : State) :
    (joinAppend i s).jc.format = s.jc.format := by
  unfold joinAppend; split <;> simp
@[simp] theorem joinAppend_jc_advice (i : AppendItem) (s : State) :
    (joinAppend i s).jc.advice = s.jc.advice := by
  unfold joinAppend; split <;> simp
@[simp] theorem joinAppend_jc_adviceWaiting (i : AppendItem) (s : State) :
    (joinAppend i s).jc.adviceWaiting = s.jc.adviceWaiting := by
  unfold joinAppend; split <;> simp
@[simp] theorem joinAppend_mau (i : AppendItem) (s : State) :
    (joinAppend i s).mau = s.mau := by
  unfold joinAppend; split <;> simp
@[simp] theorem joinAppend_pcu (i : AppendItem) (s : State) :
    (joinAppend i s).pcu = s.pcu := by
  unfold joinAppend; split <;> simp
@[simp] theorem joinAppend_asu (i : AppendItem) (s : State) :
    (joinAppend i s).asu = s.asu := by
  unfold joinAppend; split <;> simp

@[simp] theorem issueTotals_pending (job : TotalsJob) (s : State) :
    (issueTotals job s).pending = s.pending := by
  simp [issueTotals]
@[simp] theorem issueTotals_mem (job : TotalsJob) (s : State) :
    (issueTotals job s).mem = s.mem := by
  simp [issueTotals]
@[simp] theorem issueTotals_hlp (job : TotalsJob) (s : State) :
    (issueTotals job s).hlp = s.hlp := by
  simp [issueTotals]
@[simp] theorem issueTotals_lines (job : TotalsJob) (s : State) :
    (issueTotals job s).lines = s.lines := by
  simp [issueTotals]
@[simp] theorem issueTotals_windows (job : TotalsJob) (s : State) :
    (issueTotals job s).windows = s.windows := by
  simp [issueTotals]
@[simp] theorem issueTotals_ce (job : TotalsJob) (s : State) :
    (issueTotals job s).ce = s.ce := by
  simp [issueTotals]
@[simp] theorem issueTotals_ht (job : TotalsJob) (s : State) :
    (issueTotals job s).ht = s.ht := by
  simp [issueTotals]
@[simp] theorem issueTotals_jc_phase (job : TotalsJob) (s : State) :
    (issueTotals job s).jc.phase = s.jc.phase := by
  simp [issueTotals]
@[simp] theorem issueTotals_jc_stage (job : TotalsJob) (s : State) :
    (issueTotals job s).jc.stage = s.jc.stage := by
  simp [issueTotals]
@[simp] theorem issueTotals_jc_cause (job : TotalsJob) (s : State) :
    (issueTotals job s).jc.cause = s.jc.cause := by
  simp [issueTotals]
@[simp] theorem issueTotals_jc_recovered (job : TotalsJob) (s : State) :
    (issueTotals job s).jc.recovered = s.jc.recovered := by
  simp [issueTotals]
@[simp] theorem issueTotals_jc_store (job : TotalsJob) (s : State) :
    (issueTotals job s).jc.store = s.jc.store := by
  simp [issueTotals]
@[simp] theorem issueTotals_jc_next (job : TotalsJob) (s : State) :
    (issueTotals job s).jc.next = s.jc.next := by
  simp [issueTotals]
@[simp] theorem issueTotals_jc_oldest (job : TotalsJob) (s : State) :
    (issueTotals job s).jc.oldest = s.jc.oldest := by
  simp [issueTotals]
@[simp] theorem issueTotals_jc_untaken (job : TotalsJob) (s : State) :
    (issueTotals job s).jc.untaken = s.jc.untaken := by
  simp [issueTotals]
@[simp] theorem issueTotals_jc_pendingCount (job : TotalsJob) (s : State) :
    (issueTotals job s).jc.pendingCount = s.jc.pendingCount := by
  simp [issueTotals]
@[simp] theorem issueTotals_jc_appendQueue (job : TotalsJob) (s : State) :
    (issueTotals job s).jc.appendQueue = s.jc.appendQueue := by
  simp [issueTotals]
@[simp] theorem issueTotals_jc_appendIssued (job : TotalsJob) (s : State) :
    (issueTotals job s).jc.appendIssued = s.jc.appendIssued := by
  simp [issueTotals]
@[simp] theorem issueTotals_jc_appendPeriod (job : TotalsJob) (s : State) :
    (issueTotals job s).jc.appendPeriod = s.jc.appendPeriod := by
  simp [issueTotals]
@[simp] theorem issueTotals_jc_admission (job : TotalsJob) (s : State) :
    (issueTotals job s).jc.admission = s.jc.admission := by
  simp [issueTotals]
@[simp] theorem issueTotals_jc_tariffs (job : TotalsJob) (s : State) :
    (issueTotals job s).jc.tariffs = s.jc.tariffs := by
  simp [issueTotals]
@[simp] theorem issueTotals_jc_cfg (job : TotalsJob) (s : State) :
    (issueTotals job s).jc.cfg = s.jc.cfg := by
  simp [issueTotals]
@[simp] theorem issueTotals_jc_cfgWaiting (job : TotalsJob) (s : State) :
    (issueTotals job s).jc.cfgWaiting = s.jc.cfgWaiting := by
  simp [issueTotals]
@[simp] theorem issueTotals_jc_format (job : TotalsJob) (s : State) :
    (issueTotals job s).jc.format = s.jc.format := by
  simp [issueTotals]
@[simp] theorem issueTotals_jc_advice (job : TotalsJob) (s : State) :
    (issueTotals job s).jc.advice = s.jc.advice := by
  simp [issueTotals]
@[simp] theorem issueTotals_jc_adviceWaiting (job : TotalsJob) (s : State) :
    (issueTotals job s).jc.adviceWaiting = s.jc.adviceWaiting := by
  simp [issueTotals]
@[simp] theorem issueTotals_mau_queue (job : TotalsJob) (s : State) :
    (issueTotals job s).mau.queue = s.mau.queue := by
  simp [issueTotals]
@[simp] theorem issueTotals_mau_accrual (job : TotalsJob) (s : State) :
    (issueTotals job s).mau.accrual = s.mau.accrual := by
  simp [issueTotals]
@[simp] theorem issueTotals_mau_walk (job : TotalsJob) (s : State) :
    (issueTotals job s).mau.walk = s.mau.walk := by
  simp [issueTotals]
@[simp] theorem issueTotals_mau_totalsDue (job : TotalsJob) (s : State) :
    (issueTotals job s).mau.totalsDue = s.mau.totalsDue := by
  simp [issueTotals]
@[simp] theorem issueTotals_pcu (job : TotalsJob) (s : State) :
    (issueTotals job s).pcu = s.pcu := by
  simp [issueTotals]
@[simp] theorem issueTotals_asu (job : TotalsJob) (s : State) :
    (issueTotals job s).asu = s.asu := by
  simp [issueTotals]

@[simp] theorem requestTotals_pending (job : TotalsJob) (s : State) :
    (requestTotals job s).pending = s.pending := by
  unfold requestTotals; split <;> simp
@[simp] theorem requestTotals_mem (job : TotalsJob) (s : State) :
    (requestTotals job s).mem = s.mem := by
  unfold requestTotals; split <;> simp
@[simp] theorem requestTotals_hlp (job : TotalsJob) (s : State) :
    (requestTotals job s).hlp = s.hlp := by
  unfold requestTotals; split <;> simp
@[simp] theorem requestTotals_lines (job : TotalsJob) (s : State) :
    (requestTotals job s).lines = s.lines := by
  unfold requestTotals; split <;> simp
@[simp] theorem requestTotals_windows (job : TotalsJob) (s : State) :
    (requestTotals job s).windows = s.windows := by
  unfold requestTotals; split <;> simp
@[simp] theorem requestTotals_ce (job : TotalsJob) (s : State) :
    (requestTotals job s).ce = s.ce := by
  unfold requestTotals; split <;> simp
@[simp] theorem requestTotals_ht (job : TotalsJob) (s : State) :
    (requestTotals job s).ht = s.ht := by
  unfold requestTotals; split <;> simp
@[simp] theorem requestTotals_jc_phase (job : TotalsJob) (s : State) :
    (requestTotals job s).jc.phase = s.jc.phase := by
  unfold requestTotals; split <;> simp
@[simp] theorem requestTotals_jc_stage (job : TotalsJob) (s : State) :
    (requestTotals job s).jc.stage = s.jc.stage := by
  unfold requestTotals; split <;> simp
@[simp] theorem requestTotals_jc_cause (job : TotalsJob) (s : State) :
    (requestTotals job s).jc.cause = s.jc.cause := by
  unfold requestTotals; split <;> simp
@[simp] theorem requestTotals_jc_recovered (job : TotalsJob) (s : State) :
    (requestTotals job s).jc.recovered = s.jc.recovered := by
  unfold requestTotals; split <;> simp
@[simp] theorem requestTotals_jc_store (job : TotalsJob) (s : State) :
    (requestTotals job s).jc.store = s.jc.store := by
  unfold requestTotals; split <;> simp
@[simp] theorem requestTotals_jc_next (job : TotalsJob) (s : State) :
    (requestTotals job s).jc.next = s.jc.next := by
  unfold requestTotals; split <;> simp
@[simp] theorem requestTotals_jc_oldest (job : TotalsJob) (s : State) :
    (requestTotals job s).jc.oldest = s.jc.oldest := by
  unfold requestTotals; split <;> simp
@[simp] theorem requestTotals_jc_untaken (job : TotalsJob) (s : State) :
    (requestTotals job s).jc.untaken = s.jc.untaken := by
  unfold requestTotals; split <;> simp
@[simp] theorem requestTotals_jc_pendingCount (job : TotalsJob) (s : State) :
    (requestTotals job s).jc.pendingCount = s.jc.pendingCount := by
  unfold requestTotals; split <;> simp
@[simp] theorem requestTotals_jc_appendQueue (job : TotalsJob) (s : State) :
    (requestTotals job s).jc.appendQueue = s.jc.appendQueue := by
  unfold requestTotals; split <;> simp
@[simp] theorem requestTotals_jc_appendIssued (job : TotalsJob) (s : State) :
    (requestTotals job s).jc.appendIssued = s.jc.appendIssued := by
  unfold requestTotals; split <;> simp
@[simp] theorem requestTotals_jc_appendPeriod (job : TotalsJob) (s : State) :
    (requestTotals job s).jc.appendPeriod = s.jc.appendPeriod := by
  unfold requestTotals; split <;> simp
@[simp] theorem requestTotals_jc_admission (job : TotalsJob) (s : State) :
    (requestTotals job s).jc.admission = s.jc.admission := by
  unfold requestTotals; split <;> simp
@[simp] theorem requestTotals_jc_tariffs (job : TotalsJob) (s : State) :
    (requestTotals job s).jc.tariffs = s.jc.tariffs := by
  unfold requestTotals; split <;> simp
@[simp] theorem requestTotals_jc_cfg (job : TotalsJob) (s : State) :
    (requestTotals job s).jc.cfg = s.jc.cfg := by
  unfold requestTotals; split <;> simp
@[simp] theorem requestTotals_jc_cfgWaiting (job : TotalsJob) (s : State) :
    (requestTotals job s).jc.cfgWaiting = s.jc.cfgWaiting := by
  unfold requestTotals; split <;> simp
@[simp] theorem requestTotals_jc_format (job : TotalsJob) (s : State) :
    (requestTotals job s).jc.format = s.jc.format := by
  unfold requestTotals; split <;> simp
@[simp] theorem requestTotals_jc_advice (job : TotalsJob) (s : State) :
    (requestTotals job s).jc.advice = s.jc.advice := by
  unfold requestTotals; split <;> simp
@[simp] theorem requestTotals_jc_adviceWaiting (job : TotalsJob) (s : State) :
    (requestTotals job s).jc.adviceWaiting = s.jc.adviceWaiting := by
  unfold requestTotals; split <;> simp
@[simp] theorem requestTotals_mau_queue (job : TotalsJob) (s : State) :
    (requestTotals job s).mau.queue = s.mau.queue := by
  unfold requestTotals; split <;> simp
@[simp] theorem requestTotals_mau_accrual (job : TotalsJob) (s : State) :
    (requestTotals job s).mau.accrual = s.mau.accrual := by
  unfold requestTotals; split <;> simp
@[simp] theorem requestTotals_mau_walk (job : TotalsJob) (s : State) :
    (requestTotals job s).mau.walk = s.mau.walk := by
  unfold requestTotals; split <;> simp
@[simp] theorem requestTotals_pcu (job : TotalsJob) (s : State) :
    (requestTotals job s).pcu = s.pcu := by
  unfold requestTotals; split <;> simp
@[simp] theorem requestTotals_asu (job : TotalsJob) (s : State) :
    (requestTotals job s).asu = s.asu := by
  unfold requestTotals; split <;> simp

@[simp] theorem nextTotals_pending (s : State) :
    (nextTotals s).pending = s.pending := by
  unfold nextTotals; split <;> simp
@[simp] theorem nextTotals_mem (s : State) :
    (nextTotals s).mem = s.mem := by
  unfold nextTotals; split <;> simp
@[simp] theorem nextTotals_hlp (s : State) :
    (nextTotals s).hlp = s.hlp := by
  unfold nextTotals; split <;> simp
@[simp] theorem nextTotals_lines (s : State) :
    (nextTotals s).lines = s.lines := by
  unfold nextTotals; split <;> simp
@[simp] theorem nextTotals_windows (s : State) :
    (nextTotals s).windows = s.windows := by
  unfold nextTotals; split <;> simp
@[simp] theorem nextTotals_ce (s : State) :
    (nextTotals s).ce = s.ce := by
  unfold nextTotals; split <;> simp
@[simp] theorem nextTotals_ht (s : State) :
    (nextTotals s).ht = s.ht := by
  unfold nextTotals; split <;> simp
@[simp] theorem nextTotals_jc_phase (s : State) :
    (nextTotals s).jc.phase = s.jc.phase := by
  unfold nextTotals; split <;> simp
@[simp] theorem nextTotals_jc_stage (s : State) :
    (nextTotals s).jc.stage = s.jc.stage := by
  unfold nextTotals; split <;> simp
@[simp] theorem nextTotals_jc_cause (s : State) :
    (nextTotals s).jc.cause = s.jc.cause := by
  unfold nextTotals; split <;> simp
@[simp] theorem nextTotals_jc_recovered (s : State) :
    (nextTotals s).jc.recovered = s.jc.recovered := by
  unfold nextTotals; split <;> simp
@[simp] theorem nextTotals_jc_store (s : State) :
    (nextTotals s).jc.store = s.jc.store := by
  unfold nextTotals; split <;> simp
@[simp] theorem nextTotals_jc_next (s : State) :
    (nextTotals s).jc.next = s.jc.next := by
  unfold nextTotals; split <;> simp
@[simp] theorem nextTotals_jc_oldest (s : State) :
    (nextTotals s).jc.oldest = s.jc.oldest := by
  unfold nextTotals; split <;> simp
@[simp] theorem nextTotals_jc_untaken (s : State) :
    (nextTotals s).jc.untaken = s.jc.untaken := by
  unfold nextTotals; split <;> simp
@[simp] theorem nextTotals_jc_pendingCount (s : State) :
    (nextTotals s).jc.pendingCount = s.jc.pendingCount := by
  unfold nextTotals; split <;> simp
@[simp] theorem nextTotals_jc_appendQueue (s : State) :
    (nextTotals s).jc.appendQueue = s.jc.appendQueue := by
  unfold nextTotals; split <;> simp
@[simp] theorem nextTotals_jc_appendIssued (s : State) :
    (nextTotals s).jc.appendIssued = s.jc.appendIssued := by
  unfold nextTotals; split <;> simp
@[simp] theorem nextTotals_jc_appendPeriod (s : State) :
    (nextTotals s).jc.appendPeriod = s.jc.appendPeriod := by
  unfold nextTotals; split <;> simp
@[simp] theorem nextTotals_jc_admission (s : State) :
    (nextTotals s).jc.admission = s.jc.admission := by
  unfold nextTotals; split <;> simp
@[simp] theorem nextTotals_jc_tariffs (s : State) :
    (nextTotals s).jc.tariffs = s.jc.tariffs := by
  unfold nextTotals; split <;> simp
@[simp] theorem nextTotals_jc_cfg (s : State) :
    (nextTotals s).jc.cfg = s.jc.cfg := by
  unfold nextTotals; split <;> simp
@[simp] theorem nextTotals_jc_cfgWaiting (s : State) :
    (nextTotals s).jc.cfgWaiting = s.jc.cfgWaiting := by
  unfold nextTotals; split <;> simp
@[simp] theorem nextTotals_jc_format (s : State) :
    (nextTotals s).jc.format = s.jc.format := by
  unfold nextTotals; split <;> simp
@[simp] theorem nextTotals_jc_advice (s : State) :
    (nextTotals s).jc.advice = s.jc.advice := by
  unfold nextTotals; split <;> simp
@[simp] theorem nextTotals_jc_adviceWaiting (s : State) :
    (nextTotals s).jc.adviceWaiting = s.jc.adviceWaiting := by
  unfold nextTotals; split <;> simp
@[simp] theorem nextTotals_mau_queue (s : State) :
    (nextTotals s).mau.queue = s.mau.queue := by
  unfold nextTotals; split <;> simp
@[simp] theorem nextTotals_mau_accrual (s : State) :
    (nextTotals s).mau.accrual = s.mau.accrual := by
  unfold nextTotals; split <;> simp
@[simp] theorem nextTotals_mau_walk (s : State) :
    (nextTotals s).mau.walk = s.mau.walk := by
  unfold nextTotals; split <;> simp
@[simp] theorem nextTotals_pcu (s : State) :
    (nextTotals s).pcu = s.pcu := by
  unfold nextTotals; split <;> simp
@[simp] theorem nextTotals_asu (s : State) :
    (nextTotals s).asu = s.asu := by
  unfold nextTotals; split <;> simp

@[simp] theorem runAdvice_pending (l : List (Nat × Nat)) (s : State) :
    (runAdvice l s).pending = s.pending := by
  induction l generalizing s with
  | nil => rfl
  | cons c rest ih =>
    obtain ⟨tag, count⟩ := c
    simp only [runAdvice]
    split
    · rw [ih]; rfl
    · split
      · simp
      · rw [ih]; rfl
@[simp] theorem runAdvice_mem (l : List (Nat × Nat)) (s : State) :
    (runAdvice l s).mem = s.mem := by
  induction l generalizing s with
  | nil => rfl
  | cons c rest ih =>
    obtain ⟨tag, count⟩ := c
    simp only [runAdvice]
    split
    · rw [ih]; rfl
    · split
      · simp
      · rw [ih]; rfl
@[simp] theorem runAdvice_hlp_straps (l : List (Nat × Nat)) (s : State) :
    (runAdvice l s).hlp.straps = s.hlp.straps := by
  induction l generalizing s with
  | nil => rfl
  | cons c rest ih =>
    obtain ⟨tag, count⟩ := c
    simp only [runAdvice]
    split
    · rw [ih]; rfl
    · split
      · simp
      · rw [ih]; rfl
@[simp] theorem runAdvice_hlp_rate (l : List (Nat × Nat)) (s : State) :
    (runAdvice l s).hlp.rate = s.hlp.rate := by
  induction l generalizing s with
  | nil => rfl
  | cons c rest ih =>
    obtain ⟨tag, count⟩ := c
    simp only [runAdvice]
    split
    · rw [ih]; rfl
    · split
      · simp
      · rw [ih]; rfl
@[simp] theorem runAdvice_hlp_inbound (l : List (Nat × Nat)) (s : State) :
    (runAdvice l s).hlp.inbound = s.hlp.inbound := by
  induction l generalizing s with
  | nil => rfl
  | cons c rest ih =>
    obtain ⟨tag, count⟩ := c
    simp only [runAdvice]
    split
    · rw [ih]; rfl
    · split
      · simp
      · rw [ih]; rfl
@[simp] theorem runAdvice_hlp_deaf (l : List (Nat × Nat)) (s : State) :
    (runAdvice l s).hlp.deaf = s.hlp.deaf := by
  induction l generalizing s with
  | nil => rfl
  | cons c rest ih =>
    obtain ⟨tag, count⟩ := c
    simp only [runAdvice]
    split
    · rw [ih]; rfl
    · split
      · simp
      · rw [ih]; rfl
@[simp] theorem runAdvice_hlp_inFlight (l : List (Nat × Nat)) (s : State) :
    (runAdvice l s).hlp.inFlight = s.hlp.inFlight := by
  induction l generalizing s with
  | nil => rfl
  | cons c rest ih =>
    obtain ⟨tag, count⟩ := c
    simp only [runAdvice]
    split
    · rw [ih]; rfl
    · split
      · simp
      · rw [ih]; rfl
@[simp] theorem runAdvice_hlp_notices (l : List (Nat × Nat)) (s : State) :
    (runAdvice l s).hlp.notices = s.hlp.notices := by
  induction l generalizing s with
  | nil => rfl
  | cons c rest ih =>
    obtain ⟨tag, count⟩ := c
    simp only [runAdvice]
    split
    · rw [ih]; rfl
    · split
      · simp
      · rw [ih]; rfl
@[simp] theorem runAdvice_hlp_attnLow (l : List (Nat × Nat)) (s : State) :
    (runAdvice l s).hlp.attnLow = s.hlp.attnLow := by
  induction l generalizing s with
  | nil => rfl
  | cons c rest ih =>
    obtain ⟨tag, count⟩ := c
    simp only [runAdvice]
    split
    · rw [ih]; rfl
    · split
      · simp
      · rw [ih]; rfl
@[simp] theorem runAdvice_lines (l : List (Nat × Nat)) (s : State) :
    (runAdvice l s).lines = s.lines := by
  induction l generalizing s with
  | nil => rfl
  | cons c rest ih =>
    obtain ⟨tag, count⟩ := c
    simp only [runAdvice]
    split
    · rw [ih]; rfl
    · split
      · simp
      · rw [ih]; rfl
@[simp] theorem runAdvice_windows (l : List (Nat × Nat)) (s : State) :
    (runAdvice l s).windows = s.windows := by
  induction l generalizing s with
  | nil => rfl
  | cons c rest ih =>
    obtain ⟨tag, count⟩ := c
    simp only [runAdvice]
    split
    · rw [ih]; rfl
    · split
      · simp
      · rw [ih]; rfl
@[simp] theorem runAdvice_ce (l : List (Nat × Nat)) (s : State) :
    (runAdvice l s).ce = s.ce := by
  induction l generalizing s with
  | nil => rfl
  | cons c rest ih =>
    obtain ⟨tag, count⟩ := c
    simp only [runAdvice]
    split
    · rw [ih]; rfl
    · split
      · simp
      · rw [ih]; rfl
@[simp] theorem runAdvice_ht (l : List (Nat × Nat)) (s : State) :
    (runAdvice l s).ht = s.ht := by
  induction l generalizing s with
  | nil => rfl
  | cons c rest ih =>
    obtain ⟨tag, count⟩ := c
    simp only [runAdvice]
    split
    · rw [ih]; rfl
    · split
      · simp
      · rw [ih]; rfl
@[simp] theorem runAdvice_jc_phase (l : List (Nat × Nat)) (s : State) :
    (runAdvice l s).jc.phase = s.jc.phase := by
  induction l generalizing s with
  | nil => rfl
  | cons c rest ih =>
    obtain ⟨tag, count⟩ := c
    simp only [runAdvice]
    split
    · rw [ih]; rfl
    · split
      · simp
      · rw [ih]; rfl
@[simp] theorem runAdvice_jc_stage (l : List (Nat × Nat)) (s : State) :
    (runAdvice l s).jc.stage = s.jc.stage := by
  induction l generalizing s with
  | nil => rfl
  | cons c rest ih =>
    obtain ⟨tag, count⟩ := c
    simp only [runAdvice]
    split
    · rw [ih]; rfl
    · split
      · simp
      · rw [ih]; rfl
@[simp] theorem runAdvice_jc_cause (l : List (Nat × Nat)) (s : State) :
    (runAdvice l s).jc.cause = s.jc.cause := by
  induction l generalizing s with
  | nil => rfl
  | cons c rest ih =>
    obtain ⟨tag, count⟩ := c
    simp only [runAdvice]
    split
    · rw [ih]; rfl
    · split
      · simp
      · rw [ih]; rfl
@[simp] theorem runAdvice_jc_recovered (l : List (Nat × Nat)) (s : State) :
    (runAdvice l s).jc.recovered = s.jc.recovered := by
  induction l generalizing s with
  | nil => rfl
  | cons c rest ih =>
    obtain ⟨tag, count⟩ := c
    simp only [runAdvice]
    split
    · rw [ih]; rfl
    · split
      · simp
      · rw [ih]; rfl
@[simp] theorem runAdvice_jc_store (l : List (Nat × Nat)) (s : State) :
    (runAdvice l s).jc.store = s.jc.store := by
  induction l generalizing s with
  | nil => rfl
  | cons c rest ih =>
    obtain ⟨tag, count⟩ := c
    simp only [runAdvice]
    split
    · rw [ih]; rfl
    · split
      · simp
      · rw [ih]; rfl
@[simp] theorem runAdvice_jc_next (l : List (Nat × Nat)) (s : State) :
    (runAdvice l s).jc.next = s.jc.next := by
  induction l generalizing s with
  | nil => rfl
  | cons c rest ih =>
    obtain ⟨tag, count⟩ := c
    simp only [runAdvice]
    split
    · rw [ih]; rfl
    · split
      · simp
      · rw [ih]; rfl
@[simp] theorem runAdvice_jc_oldest (l : List (Nat × Nat)) (s : State) :
    (runAdvice l s).jc.oldest = s.jc.oldest := by
  induction l generalizing s with
  | nil => rfl
  | cons c rest ih =>
    obtain ⟨tag, count⟩ := c
    simp only [runAdvice]
    split
    · rw [ih]; rfl
    · split
      · simp
      · rw [ih]; rfl
@[simp] theorem runAdvice_jc_untaken (l : List (Nat × Nat)) (s : State) :
    (runAdvice l s).jc.untaken = s.jc.untaken := by
  induction l generalizing s with
  | nil => rfl
  | cons c rest ih =>
    obtain ⟨tag, count⟩ := c
    simp only [runAdvice]
    split
    · rw [ih]; rfl
    · split
      · simp
      · rw [ih]; rfl
@[simp] theorem runAdvice_jc_pendingCount (l : List (Nat × Nat)) (s : State) :
    (runAdvice l s).jc.pendingCount = s.jc.pendingCount := by
  induction l generalizing s with
  | nil => rfl
  | cons c rest ih =>
    obtain ⟨tag, count⟩ := c
    simp only [runAdvice]
    split
    · rw [ih]; rfl
    · split
      · simp
      · rw [ih]; rfl
@[simp] theorem runAdvice_jc_appendQueue (l : List (Nat × Nat)) (s : State) :
    (runAdvice l s).jc.appendQueue = s.jc.appendQueue := by
  induction l generalizing s with
  | nil => rfl
  | cons c rest ih =>
    obtain ⟨tag, count⟩ := c
    simp only [runAdvice]
    split
    · rw [ih]; rfl
    · split
      · simp
      · rw [ih]; rfl
@[simp] theorem runAdvice_jc_appendIssued (l : List (Nat × Nat)) (s : State) :
    (runAdvice l s).jc.appendIssued = s.jc.appendIssued := by
  induction l generalizing s with
  | nil => rfl
  | cons c rest ih =>
    obtain ⟨tag, count⟩ := c
    simp only [runAdvice]
    split
    · rw [ih]; rfl
    · split
      · simp
      · rw [ih]; rfl
@[simp] theorem runAdvice_jc_appendPeriod (l : List (Nat × Nat)) (s : State) :
    (runAdvice l s).jc.appendPeriod = s.jc.appendPeriod := by
  induction l generalizing s with
  | nil => rfl
  | cons c rest ih =>
    obtain ⟨tag, count⟩ := c
    simp only [runAdvice]
    split
    · rw [ih]; rfl
    · split
      · simp
      · rw [ih]; rfl
@[simp] theorem runAdvice_jc_admission (l : List (Nat × Nat)) (s : State) :
    (runAdvice l s).jc.admission = s.jc.admission := by
  induction l generalizing s with
  | nil => rfl
  | cons c rest ih =>
    obtain ⟨tag, count⟩ := c
    simp only [runAdvice]
    split
    · rw [ih]; rfl
    · split
      · simp
      · rw [ih]; rfl
@[simp] theorem runAdvice_jc_tariffs (l : List (Nat × Nat)) (s : State) :
    (runAdvice l s).jc.tariffs = s.jc.tariffs := by
  induction l generalizing s with
  | nil => rfl
  | cons c rest ih =>
    obtain ⟨tag, count⟩ := c
    simp only [runAdvice]
    split
    · rw [ih]; rfl
    · split
      · simp
      · rw [ih]; rfl
@[simp] theorem runAdvice_jc_cfg (l : List (Nat × Nat)) (s : State) :
    (runAdvice l s).jc.cfg = s.jc.cfg := by
  induction l generalizing s with
  | nil => rfl
  | cons c rest ih =>
    obtain ⟨tag, count⟩ := c
    simp only [runAdvice]
    split
    · rw [ih]; rfl
    · split
      · simp
      · rw [ih]; rfl
@[simp] theorem runAdvice_jc_cfgWaiting (l : List (Nat × Nat)) (s : State) :
    (runAdvice l s).jc.cfgWaiting = s.jc.cfgWaiting := by
  induction l generalizing s with
  | nil => rfl
  | cons c rest ih =>
    obtain ⟨tag, count⟩ := c
    simp only [runAdvice]
    split
    · rw [ih]; rfl
    · split
      · simp
      · rw [ih]; rfl
@[simp] theorem runAdvice_jc_format (l : List (Nat × Nat)) (s : State) :
    (runAdvice l s).jc.format = s.jc.format := by
  induction l generalizing s with
  | nil => rfl
  | cons c rest ih =>
    obtain ⟨tag, count⟩ := c
    simp only [runAdvice]
    split
    · rw [ih]; rfl
    · split
      · simp
      · rw [ih]; rfl
@[simp] theorem runAdvice_mau (l : List (Nat × Nat)) (s : State) :
    (runAdvice l s).mau = s.mau := by
  induction l generalizing s with
  | nil => rfl
  | cons c rest ih =>
    obtain ⟨tag, count⟩ := c
    simp only [runAdvice]
    split
    · rw [ih]; rfl
    · split
      · simp
      · rw [ih]; rfl
@[simp] theorem runAdvice_pcu (l : List (Nat × Nat)) (s : State) :
    (runAdvice l s).pcu = s.pcu := by
  induction l generalizing s with
  | nil => rfl
  | cons c rest ih =>
    obtain ⟨tag, count⟩ := c
    simp only [runAdvice]
    split
    · rw [ih]; rfl
    · split
      · simp
      · rw [ih]; rfl
@[simp] theorem runAdvice_asu (l : List (Nat × Nat)) (s : State) :
    (runAdvice l s).asu = s.asu := by
  induction l generalizing s with
  | nil => rfl
  | cons c rest ih =>
    obtain ⟨tag, count⟩ := c
    simp only [runAdvice]
    split
    · rw [ih]; rfl
    · split
      · simp
      · rw [ih]; rfl

@[simp] theorem answerAdvice_pending (tag : Nat) (r : Reply) (s : State) :
    (answerAdvice tag r s).pending = s.pending := by
  simp [answerAdvice]
@[simp] theorem answerAdvice_mem (tag : Nat) (r : Reply) (s : State) :
    (answerAdvice tag r s).mem = s.mem := by
  simp [answerAdvice]
@[simp] theorem answerAdvice_hlp_straps (tag : Nat) (r : Reply) (s : State) :
    (answerAdvice tag r s).hlp.straps = s.hlp.straps := by
  simp [answerAdvice]
@[simp] theorem answerAdvice_hlp_rate (tag : Nat) (r : Reply) (s : State) :
    (answerAdvice tag r s).hlp.rate = s.hlp.rate := by
  simp [answerAdvice]
@[simp] theorem answerAdvice_hlp_inbound (tag : Nat) (r : Reply) (s : State) :
    (answerAdvice tag r s).hlp.inbound = s.hlp.inbound := by
  simp [answerAdvice]
@[simp] theorem answerAdvice_hlp_deaf (tag : Nat) (r : Reply) (s : State) :
    (answerAdvice tag r s).hlp.deaf = s.hlp.deaf := by
  simp [answerAdvice]
@[simp] theorem answerAdvice_hlp_inFlight (tag : Nat) (r : Reply) (s : State) :
    (answerAdvice tag r s).hlp.inFlight = s.hlp.inFlight := by
  simp [answerAdvice]
@[simp] theorem answerAdvice_hlp_notices (tag : Nat) (r : Reply) (s : State) :
    (answerAdvice tag r s).hlp.notices = s.hlp.notices := by
  simp [answerAdvice]
@[simp] theorem answerAdvice_hlp_attnLow (tag : Nat) (r : Reply) (s : State) :
    (answerAdvice tag r s).hlp.attnLow = s.hlp.attnLow := by
  simp [answerAdvice]
@[simp] theorem answerAdvice_lines (tag : Nat) (r : Reply) (s : State) :
    (answerAdvice tag r s).lines = s.lines := by
  simp [answerAdvice]
@[simp] theorem answerAdvice_windows (tag : Nat) (r : Reply) (s : State) :
    (answerAdvice tag r s).windows = s.windows := by
  simp [answerAdvice]
@[simp] theorem answerAdvice_ce (tag : Nat) (r : Reply) (s : State) :
    (answerAdvice tag r s).ce = s.ce := by
  simp [answerAdvice]
@[simp] theorem answerAdvice_ht (tag : Nat) (r : Reply) (s : State) :
    (answerAdvice tag r s).ht = s.ht := by
  simp [answerAdvice]
@[simp] theorem answerAdvice_jc_phase (tag : Nat) (r : Reply) (s : State) :
    (answerAdvice tag r s).jc.phase = s.jc.phase := by
  simp [answerAdvice]
@[simp] theorem answerAdvice_jc_stage (tag : Nat) (r : Reply) (s : State) :
    (answerAdvice tag r s).jc.stage = s.jc.stage := by
  simp [answerAdvice]
@[simp] theorem answerAdvice_jc_cause (tag : Nat) (r : Reply) (s : State) :
    (answerAdvice tag r s).jc.cause = s.jc.cause := by
  simp [answerAdvice]
@[simp] theorem answerAdvice_jc_recovered (tag : Nat) (r : Reply) (s : State) :
    (answerAdvice tag r s).jc.recovered = s.jc.recovered := by
  simp [answerAdvice]
@[simp] theorem answerAdvice_jc_store (tag : Nat) (r : Reply) (s : State) :
    (answerAdvice tag r s).jc.store = s.jc.store := by
  simp [answerAdvice]
@[simp] theorem answerAdvice_jc_next (tag : Nat) (r : Reply) (s : State) :
    (answerAdvice tag r s).jc.next = s.jc.next := by
  simp [answerAdvice]
@[simp] theorem answerAdvice_jc_oldest (tag : Nat) (r : Reply) (s : State) :
    (answerAdvice tag r s).jc.oldest = s.jc.oldest := by
  simp [answerAdvice]
@[simp] theorem answerAdvice_jc_untaken (tag : Nat) (r : Reply) (s : State) :
    (answerAdvice tag r s).jc.untaken = s.jc.untaken := by
  simp [answerAdvice]
@[simp] theorem answerAdvice_jc_pendingCount (tag : Nat) (r : Reply) (s : State) :
    (answerAdvice tag r s).jc.pendingCount = s.jc.pendingCount := by
  simp [answerAdvice]
@[simp] theorem answerAdvice_jc_appendQueue (tag : Nat) (r : Reply) (s : State) :
    (answerAdvice tag r s).jc.appendQueue = s.jc.appendQueue := by
  simp [answerAdvice]
@[simp] theorem answerAdvice_jc_appendIssued (tag : Nat) (r : Reply) (s : State) :
    (answerAdvice tag r s).jc.appendIssued = s.jc.appendIssued := by
  simp [answerAdvice]
@[simp] theorem answerAdvice_jc_appendPeriod (tag : Nat) (r : Reply) (s : State) :
    (answerAdvice tag r s).jc.appendPeriod = s.jc.appendPeriod := by
  simp [answerAdvice]
@[simp] theorem answerAdvice_jc_admission (tag : Nat) (r : Reply) (s : State) :
    (answerAdvice tag r s).jc.admission = s.jc.admission := by
  simp [answerAdvice]
@[simp] theorem answerAdvice_jc_tariffs (tag : Nat) (r : Reply) (s : State) :
    (answerAdvice tag r s).jc.tariffs = s.jc.tariffs := by
  simp [answerAdvice]
@[simp] theorem answerAdvice_jc_cfg (tag : Nat) (r : Reply) (s : State) :
    (answerAdvice tag r s).jc.cfg = s.jc.cfg := by
  simp [answerAdvice]
@[simp] theorem answerAdvice_jc_cfgWaiting (tag : Nat) (r : Reply) (s : State) :
    (answerAdvice tag r s).jc.cfgWaiting = s.jc.cfgWaiting := by
  simp [answerAdvice]
@[simp] theorem answerAdvice_jc_format (tag : Nat) (r : Reply) (s : State) :
    (answerAdvice tag r s).jc.format = s.jc.format := by
  simp [answerAdvice]
@[simp] theorem answerAdvice_mau (tag : Nat) (r : Reply) (s : State) :
    (answerAdvice tag r s).mau = s.mau := by
  simp [answerAdvice]
@[simp] theorem answerAdvice_pcu (tag : Nat) (r : Reply) (s : State) :
    (answerAdvice tag r s).pcu = s.pcu := by
  simp [answerAdvice]
@[simp] theorem answerAdvice_asu (tag : Nat) (r : Reply) (s : State) :
    (answerAdvice tag r s).asu = s.asu := by
  simp [answerAdvice]

@[simp] theorem dropJob_pending (s : State) (job : TotalsJob) :
    (dropJob s job).pending = s.pending := by
  unfold dropJob; split <;> simp
@[simp] theorem dropJob_mem (s : State) (job : TotalsJob) :
    (dropJob s job).mem = s.mem := by
  unfold dropJob; split <;> simp
@[simp] theorem dropJob_hlp_straps (s : State) (job : TotalsJob) :
    (dropJob s job).hlp.straps = s.hlp.straps := by
  unfold dropJob; split <;> simp
@[simp] theorem dropJob_hlp_rate (s : State) (job : TotalsJob) :
    (dropJob s job).hlp.rate = s.hlp.rate := by
  unfold dropJob; split <;> simp
@[simp] theorem dropJob_hlp_inbound (s : State) (job : TotalsJob) :
    (dropJob s job).hlp.inbound = s.hlp.inbound := by
  unfold dropJob; split <;> simp
@[simp] theorem dropJob_hlp_deaf (s : State) (job : TotalsJob) :
    (dropJob s job).hlp.deaf = s.hlp.deaf := by
  unfold dropJob; split <;> simp
@[simp] theorem dropJob_hlp_inFlight (s : State) (job : TotalsJob) :
    (dropJob s job).hlp.inFlight = s.hlp.inFlight := by
  unfold dropJob; split <;> simp
@[simp] theorem dropJob_hlp_notices (s : State) (job : TotalsJob) :
    (dropJob s job).hlp.notices = s.hlp.notices := by
  unfold dropJob; split <;> simp
@[simp] theorem dropJob_hlp_attnLow (s : State) (job : TotalsJob) :
    (dropJob s job).hlp.attnLow = s.hlp.attnLow := by
  unfold dropJob; split <;> simp
@[simp] theorem dropJob_lines (s : State) (job : TotalsJob) :
    (dropJob s job).lines = s.lines := by
  unfold dropJob; split <;> simp
@[simp] theorem dropJob_windows (s : State) (job : TotalsJob) :
    (dropJob s job).windows = s.windows := by
  unfold dropJob; split <;> simp
@[simp] theorem dropJob_ce (s : State) (job : TotalsJob) :
    (dropJob s job).ce = s.ce := by
  unfold dropJob; split <;> simp
@[simp] theorem dropJob_ht (s : State) (job : TotalsJob) :
    (dropJob s job).ht = s.ht := by
  unfold dropJob; split <;> simp
@[simp] theorem dropJob_jc_phase (s : State) (job : TotalsJob) :
    (dropJob s job).jc.phase = s.jc.phase := by
  unfold dropJob; split <;> simp
@[simp] theorem dropJob_jc_stage (s : State) (job : TotalsJob) :
    (dropJob s job).jc.stage = s.jc.stage := by
  unfold dropJob; split <;> simp
@[simp] theorem dropJob_jc_cause (s : State) (job : TotalsJob) :
    (dropJob s job).jc.cause = s.jc.cause := by
  unfold dropJob; split <;> simp
@[simp] theorem dropJob_jc_recovered (s : State) (job : TotalsJob) :
    (dropJob s job).jc.recovered = s.jc.recovered := by
  unfold dropJob; split <;> simp
@[simp] theorem dropJob_jc_store (s : State) (job : TotalsJob) :
    (dropJob s job).jc.store = s.jc.store := by
  unfold dropJob; split <;> simp
@[simp] theorem dropJob_jc_next (s : State) (job : TotalsJob) :
    (dropJob s job).jc.next = s.jc.next := by
  unfold dropJob; split <;> simp
@[simp] theorem dropJob_jc_oldest (s : State) (job : TotalsJob) :
    (dropJob s job).jc.oldest = s.jc.oldest := by
  unfold dropJob; split <;> simp
@[simp] theorem dropJob_jc_untaken (s : State) (job : TotalsJob) :
    (dropJob s job).jc.untaken = s.jc.untaken := by
  unfold dropJob; split <;> simp
@[simp] theorem dropJob_jc_pendingCount (s : State) (job : TotalsJob) :
    (dropJob s job).jc.pendingCount = s.jc.pendingCount := by
  unfold dropJob; split <;> simp
@[simp] theorem dropJob_jc_appendQueue (s : State) (job : TotalsJob) :
    (dropJob s job).jc.appendQueue = s.jc.appendQueue := by
  unfold dropJob; split <;> simp
@[simp] theorem dropJob_jc_appendIssued (s : State) (job : TotalsJob) :
    (dropJob s job).jc.appendIssued = s.jc.appendIssued := by
  unfold dropJob; split <;> simp
@[simp] theorem dropJob_jc_appendPeriod (s : State) (job : TotalsJob) :
    (dropJob s job).jc.appendPeriod = s.jc.appendPeriod := by
  unfold dropJob; split <;> simp
@[simp] theorem dropJob_jc_admission (s : State) (job : TotalsJob) :
    (dropJob s job).jc.admission = s.jc.admission := by
  unfold dropJob; split <;> simp
@[simp] theorem dropJob_jc_tariffs (s : State) (job : TotalsJob) :
    (dropJob s job).jc.tariffs = s.jc.tariffs := by
  unfold dropJob; split <;> simp
@[simp] theorem dropJob_jc_cfg (s : State) (job : TotalsJob) :
    (dropJob s job).jc.cfg = s.jc.cfg := by
  unfold dropJob; split <;> simp
@[simp] theorem dropJob_jc_cfgWaiting (s : State) (job : TotalsJob) :
    (dropJob s job).jc.cfgWaiting = s.jc.cfgWaiting := by
  unfold dropJob; split <;> simp
@[simp] theorem dropJob_jc_format (s : State) (job : TotalsJob) :
    (dropJob s job).jc.format = s.jc.format := by
  unfold dropJob; split <;> simp
@[simp] theorem dropJob_mau_copy (s : State) (job : TotalsJob) :
    (dropJob s job).mau.copy = s.mau.copy := by
  unfold dropJob; split <;> simp
@[simp] theorem dropJob_mau_queue (s : State) (job : TotalsJob) :
    (dropJob s job).mau.queue = s.mau.queue := by
  unfold dropJob; split <;> simp
@[simp] theorem dropJob_mau_totalsBusy (s : State) (job : TotalsJob) :
    (dropJob s job).mau.totalsBusy = s.mau.totalsBusy := by
  unfold dropJob; split <;> simp
@[simp] theorem dropJob_mau_totalsDue (s : State) (job : TotalsJob) :
    (dropJob s job).mau.totalsDue = s.mau.totalsDue := by
  unfold dropJob; split <;> simp
@[simp] theorem dropJob_pcu_entries (s : State) (job : TotalsJob) :
    (dropJob s job).pcu.entries = s.pcu.entries := by
  unfold dropJob; split <;> simp
@[simp] theorem dropJob_pcu_cursor (s : State) (job : TotalsJob) :
    (dropJob s job).pcu.cursor = s.pcu.cursor := by
  unfold dropJob; split <;> simp
@[simp] theorem dropJob_pcu_state (s : State) (job : TotalsJob) :
    (dropJob s job).pcu.state = s.pcu.state := by
  unfold dropJob; split <;> simp
@[simp] theorem dropJob_pcu_period (s : State) (job : TotalsJob) :
    (dropJob s job).pcu.period = s.pcu.period := by
  unfold dropJob; split <;> simp
@[simp] theorem dropJob_pcu_rebuild (s : State) (job : TotalsJob) :
    (dropJob s job).pcu.rebuild = s.pcu.rebuild := by
  unfold dropJob; split <;> simp
@[simp] theorem dropJob_asu (s : State) (job : TotalsJob) :
    (dropJob s job).asu = s.asu := by
  unfold dropJob; split <;> simp

@[simp] theorem dropDue_pending (s : State) :
    (dropDue s).pending = s.pending := by
  unfold dropDue
  exact foldl_keeps _ (fun s => s.pending) (fun s a => dropJob_pending s a) _ _
@[simp] theorem dropDue_mem (s : State) :
    (dropDue s).mem = s.mem := by
  unfold dropDue
  exact foldl_keeps _ (fun s => s.mem) (fun s a => dropJob_mem s a) _ _
@[simp] theorem dropDue_hlp_straps (s : State) :
    (dropDue s).hlp.straps = s.hlp.straps := by
  unfold dropDue
  exact foldl_keeps _ (fun s => s.hlp.straps) (fun s a => dropJob_hlp_straps s a) _ _
@[simp] theorem dropDue_hlp_rate (s : State) :
    (dropDue s).hlp.rate = s.hlp.rate := by
  unfold dropDue
  exact foldl_keeps _ (fun s => s.hlp.rate) (fun s a => dropJob_hlp_rate s a) _ _
@[simp] theorem dropDue_hlp_inbound (s : State) :
    (dropDue s).hlp.inbound = s.hlp.inbound := by
  unfold dropDue
  exact foldl_keeps _ (fun s => s.hlp.inbound) (fun s a => dropJob_hlp_inbound s a) _ _
@[simp] theorem dropDue_hlp_deaf (s : State) :
    (dropDue s).hlp.deaf = s.hlp.deaf := by
  unfold dropDue
  exact foldl_keeps _ (fun s => s.hlp.deaf) (fun s a => dropJob_hlp_deaf s a) _ _
@[simp] theorem dropDue_hlp_inFlight (s : State) :
    (dropDue s).hlp.inFlight = s.hlp.inFlight := by
  unfold dropDue
  exact foldl_keeps _ (fun s => s.hlp.inFlight) (fun s a => dropJob_hlp_inFlight s a) _ _
@[simp] theorem dropDue_hlp_notices (s : State) :
    (dropDue s).hlp.notices = s.hlp.notices := by
  unfold dropDue
  exact foldl_keeps _ (fun s => s.hlp.notices) (fun s a => dropJob_hlp_notices s a) _ _
@[simp] theorem dropDue_hlp_attnLow (s : State) :
    (dropDue s).hlp.attnLow = s.hlp.attnLow := by
  unfold dropDue
  exact foldl_keeps _ (fun s => s.hlp.attnLow) (fun s a => dropJob_hlp_attnLow s a) _ _
@[simp] theorem dropDue_lines (s : State) :
    (dropDue s).lines = s.lines := by
  unfold dropDue
  exact foldl_keeps _ (fun s => s.lines) (fun s a => dropJob_lines s a) _ _
@[simp] theorem dropDue_windows (s : State) :
    (dropDue s).windows = s.windows := by
  unfold dropDue
  exact foldl_keeps _ (fun s => s.windows) (fun s a => dropJob_windows s a) _ _
@[simp] theorem dropDue_ce (s : State) :
    (dropDue s).ce = s.ce := by
  unfold dropDue
  exact foldl_keeps _ (fun s => s.ce) (fun s a => dropJob_ce s a) _ _
@[simp] theorem dropDue_ht (s : State) :
    (dropDue s).ht = s.ht := by
  unfold dropDue
  exact foldl_keeps _ (fun s => s.ht) (fun s a => dropJob_ht s a) _ _
@[simp] theorem dropDue_jc_phase (s : State) :
    (dropDue s).jc.phase = s.jc.phase := by
  unfold dropDue
  exact foldl_keeps _ (fun s => s.jc.phase) (fun s a => dropJob_jc_phase s a) _ _
@[simp] theorem dropDue_jc_stage (s : State) :
    (dropDue s).jc.stage = s.jc.stage := by
  unfold dropDue
  exact foldl_keeps _ (fun s => s.jc.stage) (fun s a => dropJob_jc_stage s a) _ _
@[simp] theorem dropDue_jc_cause (s : State) :
    (dropDue s).jc.cause = s.jc.cause := by
  unfold dropDue
  exact foldl_keeps _ (fun s => s.jc.cause) (fun s a => dropJob_jc_cause s a) _ _
@[simp] theorem dropDue_jc_recovered (s : State) :
    (dropDue s).jc.recovered = s.jc.recovered := by
  unfold dropDue
  exact foldl_keeps _ (fun s => s.jc.recovered) (fun s a => dropJob_jc_recovered s a) _ _
@[simp] theorem dropDue_jc_store (s : State) :
    (dropDue s).jc.store = s.jc.store := by
  unfold dropDue
  exact foldl_keeps _ (fun s => s.jc.store) (fun s a => dropJob_jc_store s a) _ _
@[simp] theorem dropDue_jc_next (s : State) :
    (dropDue s).jc.next = s.jc.next := by
  unfold dropDue
  exact foldl_keeps _ (fun s => s.jc.next) (fun s a => dropJob_jc_next s a) _ _
@[simp] theorem dropDue_jc_oldest (s : State) :
    (dropDue s).jc.oldest = s.jc.oldest := by
  unfold dropDue
  exact foldl_keeps _ (fun s => s.jc.oldest) (fun s a => dropJob_jc_oldest s a) _ _
@[simp] theorem dropDue_jc_untaken (s : State) :
    (dropDue s).jc.untaken = s.jc.untaken := by
  unfold dropDue
  exact foldl_keeps _ (fun s => s.jc.untaken) (fun s a => dropJob_jc_untaken s a) _ _
@[simp] theorem dropDue_jc_pendingCount (s : State) :
    (dropDue s).jc.pendingCount = s.jc.pendingCount := by
  unfold dropDue
  exact foldl_keeps _ (fun s => s.jc.pendingCount) (fun s a => dropJob_jc_pendingCount s a) _ _
@[simp] theorem dropDue_jc_appendQueue (s : State) :
    (dropDue s).jc.appendQueue = s.jc.appendQueue := by
  unfold dropDue
  exact foldl_keeps _ (fun s => s.jc.appendQueue) (fun s a => dropJob_jc_appendQueue s a) _ _
@[simp] theorem dropDue_jc_appendIssued (s : State) :
    (dropDue s).jc.appendIssued = s.jc.appendIssued := by
  unfold dropDue
  exact foldl_keeps _ (fun s => s.jc.appendIssued) (fun s a => dropJob_jc_appendIssued s a) _ _
@[simp] theorem dropDue_jc_appendPeriod (s : State) :
    (dropDue s).jc.appendPeriod = s.jc.appendPeriod := by
  unfold dropDue
  exact foldl_keeps _ (fun s => s.jc.appendPeriod) (fun s a => dropJob_jc_appendPeriod s a) _ _
@[simp] theorem dropDue_jc_admission (s : State) :
    (dropDue s).jc.admission = s.jc.admission := by
  unfold dropDue
  exact foldl_keeps _ (fun s => s.jc.admission) (fun s a => dropJob_jc_admission s a) _ _
@[simp] theorem dropDue_jc_tariffs (s : State) :
    (dropDue s).jc.tariffs = s.jc.tariffs := by
  unfold dropDue
  exact foldl_keeps _ (fun s => s.jc.tariffs) (fun s a => dropJob_jc_tariffs s a) _ _
@[simp] theorem dropDue_jc_cfg (s : State) :
    (dropDue s).jc.cfg = s.jc.cfg := by
  unfold dropDue
  exact foldl_keeps _ (fun s => s.jc.cfg) (fun s a => dropJob_jc_cfg s a) _ _
@[simp] theorem dropDue_jc_cfgWaiting (s : State) :
    (dropDue s).jc.cfgWaiting = s.jc.cfgWaiting := by
  unfold dropDue
  exact foldl_keeps _ (fun s => s.jc.cfgWaiting) (fun s a => dropJob_jc_cfgWaiting s a) _ _
@[simp] theorem dropDue_jc_format (s : State) :
    (dropDue s).jc.format = s.jc.format := by
  unfold dropDue
  exact foldl_keeps _ (fun s => s.jc.format) (fun s a => dropJob_jc_format s a) _ _
@[simp] theorem dropDue_mau_copy (s : State) :
    (dropDue s).mau.copy = s.mau.copy := by
  unfold dropDue
  exact foldl_keeps _ (fun s => s.mau.copy) (fun s a => dropJob_mau_copy s a) _ _
@[simp] theorem dropDue_mau_queue (s : State) :
    (dropDue s).mau.queue = s.mau.queue := by
  unfold dropDue
  exact foldl_keeps _ (fun s => s.mau.queue) (fun s a => dropJob_mau_queue s a) _ _
@[simp] theorem dropDue_mau_totalsBusy (s : State) :
    (dropDue s).mau.totalsBusy = s.mau.totalsBusy := by
  unfold dropDue
  exact foldl_keeps _ (fun s => s.mau.totalsBusy) (fun s a => dropJob_mau_totalsBusy s a) _ _
@[simp] theorem dropDue_pcu_entries (s : State) :
    (dropDue s).pcu.entries = s.pcu.entries := by
  unfold dropDue
  exact foldl_keeps _ (fun s => s.pcu.entries) (fun s a => dropJob_pcu_entries s a) _ _
@[simp] theorem dropDue_pcu_cursor (s : State) :
    (dropDue s).pcu.cursor = s.pcu.cursor := by
  unfold dropDue
  exact foldl_keeps _ (fun s => s.pcu.cursor) (fun s a => dropJob_pcu_cursor s a) _ _
@[simp] theorem dropDue_pcu_state (s : State) :
    (dropDue s).pcu.state = s.pcu.state := by
  unfold dropDue
  exact foldl_keeps _ (fun s => s.pcu.state) (fun s a => dropJob_pcu_state s a) _ _
@[simp] theorem dropDue_pcu_period (s : State) :
    (dropDue s).pcu.period = s.pcu.period := by
  unfold dropDue
  exact foldl_keeps _ (fun s => s.pcu.period) (fun s a => dropJob_pcu_period s a) _ _
@[simp] theorem dropDue_pcu_rebuild (s : State) :
    (dropDue s).pcu.rebuild = s.pcu.rebuild := by
  unfold dropDue
  exact foldl_keeps _ (fun s => s.pcu.rebuild) (fun s a => dropJob_pcu_rebuild s a) _ _
@[simp] theorem dropDue_asu (s : State) :
    (dropDue s).asu = s.asu := by
  unfold dropDue
  exact foldl_keeps _ (fun s => s.asu) (fun s a => dropJob_asu s a) _ _

@[simp] theorem refuseUnissued_pending (s : State) :
    (refuseUnissued s).pending = s.pending := by
  unfold refuseUnissued
  exact foldl_keeps _ (fun s => s.pending) (fun s a => refuseItem_pending a _ _ _ _ s) _ _
@[simp] theorem refuseUnissued_mem (s : State) :
    (refuseUnissued s).mem = s.mem := by
  unfold refuseUnissued
  exact foldl_keeps _ (fun s => s.mem) (fun s a => refuseItem_mem a _ _ _ _ s) _ _
@[simp] theorem refuseUnissued_hlp_straps (s : State) :
    (refuseUnissued s).hlp.straps = s.hlp.straps := by
  unfold refuseUnissued
  exact foldl_keeps _ (fun s => s.hlp.straps) (fun s a => refuseItem_hlp_straps a _ _ _ _ s) _ _
@[simp] theorem refuseUnissued_hlp_rate (s : State) :
    (refuseUnissued s).hlp.rate = s.hlp.rate := by
  unfold refuseUnissued
  exact foldl_keeps _ (fun s => s.hlp.rate) (fun s a => refuseItem_hlp_rate a _ _ _ _ s) _ _
@[simp] theorem refuseUnissued_hlp_inbound (s : State) :
    (refuseUnissued s).hlp.inbound = s.hlp.inbound := by
  unfold refuseUnissued
  exact foldl_keeps _ (fun s => s.hlp.inbound) (fun s a => refuseItem_hlp_inbound a _ _ _ _ s) _ _
@[simp] theorem refuseUnissued_hlp_deaf (s : State) :
    (refuseUnissued s).hlp.deaf = s.hlp.deaf := by
  unfold refuseUnissued
  exact foldl_keeps _ (fun s => s.hlp.deaf) (fun s a => refuseItem_hlp_deaf a _ _ _ _ s) _ _
@[simp] theorem refuseUnissued_hlp_inFlight (s : State) :
    (refuseUnissued s).hlp.inFlight = s.hlp.inFlight := by
  unfold refuseUnissued
  exact foldl_keeps _ (fun s => s.hlp.inFlight) (fun s a => refuseItem_hlp_inFlight a _ _ _ _ s) _ _
@[simp] theorem refuseUnissued_windows (s : State) :
    (refuseUnissued s).windows = s.windows := by
  unfold refuseUnissued
  exact foldl_keeps _ (fun s => s.windows) (fun s a => refuseItem_windows a _ _ _ _ s) _ _
@[simp] theorem refuseUnissued_ce_ring (s : State) :
    (refuseUnissued s).ce.ring = s.ce.ring := by
  unfold refuseUnissued
  exact foldl_keeps _ (fun s => s.ce.ring) (fun s a => refuseItem_ce_ring a _ _ _ _ s) _ _
@[simp] theorem refuseUnissued_ht_serial (s : State) :
    (refuseUnissued s).ht.serial = s.ht.serial := by
  unfold refuseUnissued
  exact foldl_keeps _ (fun s => s.ht.serial) (fun s a => refuseItem_ht_serial a _ _ _ _ s) _ _
@[simp] theorem refuseUnissued_ht_epoch (s : State) :
    (refuseUnissued s).ht.epoch = s.ht.epoch := by
  unfold refuseUnissued
  exact foldl_keeps _ (fun s => s.ht.epoch) (fun s a => refuseItem_ht_epoch a _ _ _ _ s) _ _
@[simp] theorem refuseUnissued_ht_seconds (s : State) :
    (refuseUnissued s).ht.seconds = s.ht.seconds := by
  unfold refuseUnissued
  exact foldl_keeps _ (fun s => s.ht.seconds) (fun s a => refuseItem_ht_seconds a _ _ _ _ s) _ _
@[simp] theorem refuseUnissued_ht_timeSet (s : State) :
    (refuseUnissued s).ht.timeSet = s.ht.timeSet := by
  unfold refuseUnissued
  exact foldl_keeps _ (fun s => s.ht.timeSet) (fun s a => refuseItem_ht_timeSet a _ _ _ _ s) _ _
@[simp] theorem refuseUnissued_jc_phase (s : State) :
    (refuseUnissued s).jc.phase = s.jc.phase := by
  unfold refuseUnissued
  exact foldl_keeps _ (fun s => s.jc.phase) (fun s a => refuseItem_jc_phase a _ _ _ _ s) _ _
@[simp] theorem refuseUnissued_jc_stage (s : State) :
    (refuseUnissued s).jc.stage = s.jc.stage := by
  unfold refuseUnissued
  exact foldl_keeps _ (fun s => s.jc.stage) (fun s a => refuseItem_jc_stage a _ _ _ _ s) _ _
@[simp] theorem refuseUnissued_jc_cause (s : State) :
    (refuseUnissued s).jc.cause = s.jc.cause := by
  unfold refuseUnissued
  exact foldl_keeps _ (fun s => s.jc.cause) (fun s a => refuseItem_jc_cause a _ _ _ _ s) _ _
@[simp] theorem refuseUnissued_jc_recovered (s : State) :
    (refuseUnissued s).jc.recovered = s.jc.recovered := by
  unfold refuseUnissued
  exact foldl_keeps _ (fun s => s.jc.recovered) (fun s a => refuseItem_jc_recovered a _ _ _ _ s) _ _
@[simp] theorem refuseUnissued_jc_store (s : State) :
    (refuseUnissued s).jc.store = s.jc.store := by
  unfold refuseUnissued
  exact foldl_keeps _ (fun s => s.jc.store) (fun s a => refuseItem_jc_store a _ _ _ _ s) _ _
@[simp] theorem refuseUnissued_jc_next (s : State) :
    (refuseUnissued s).jc.next = s.jc.next := by
  unfold refuseUnissued
  exact foldl_keeps _ (fun s => s.jc.next) (fun s a => refuseItem_jc_next a _ _ _ _ s) _ _
@[simp] theorem refuseUnissued_jc_oldest (s : State) :
    (refuseUnissued s).jc.oldest = s.jc.oldest := by
  unfold refuseUnissued
  exact foldl_keeps _ (fun s => s.jc.oldest) (fun s a => refuseItem_jc_oldest a _ _ _ _ s) _ _
@[simp] theorem refuseUnissued_jc_untaken (s : State) :
    (refuseUnissued s).jc.untaken = s.jc.untaken := by
  unfold refuseUnissued
  exact foldl_keeps _ (fun s => s.jc.untaken) (fun s a => refuseItem_jc_untaken a _ _ _ _ s) _ _
@[simp] theorem refuseUnissued_jc_pendingCount (s : State) :
    (refuseUnissued s).jc.pendingCount = s.jc.pendingCount := by
  unfold refuseUnissued
  exact foldl_keeps _ (fun s => s.jc.pendingCount) (fun s a => refuseItem_jc_pendingCount a _ _ _ _ s) _ _
@[simp] theorem refuseUnissued_jc_appendIssued (s : State) :
    (refuseUnissued s).jc.appendIssued = s.jc.appendIssued := by
  unfold refuseUnissued
  exact foldl_keeps _ (fun s => s.jc.appendIssued) (fun s a => refuseItem_jc_appendIssued a _ _ _ _ s) _ _
@[simp] theorem refuseUnissued_jc_appendPeriod (s : State) :
    (refuseUnissued s).jc.appendPeriod = s.jc.appendPeriod := by
  unfold refuseUnissued
  exact foldl_keeps _ (fun s => s.jc.appendPeriod) (fun s a => refuseItem_jc_appendPeriod a _ _ _ _ s) _ _
@[simp] theorem refuseUnissued_jc_admission (s : State) :
    (refuseUnissued s).jc.admission = s.jc.admission := by
  unfold refuseUnissued
  exact foldl_keeps _ (fun s => s.jc.admission) (fun s a => refuseItem_jc_admission a _ _ _ _ s) _ _
@[simp] theorem refuseUnissued_jc_tariffs (s : State) :
    (refuseUnissued s).jc.tariffs = s.jc.tariffs := by
  unfold refuseUnissued
  exact foldl_keeps _ (fun s => s.jc.tariffs) (fun s a => refuseItem_jc_tariffs a _ _ _ _ s) _ _
@[simp] theorem refuseUnissued_jc_cfg (s : State) :
    (refuseUnissued s).jc.cfg = s.jc.cfg := by
  unfold refuseUnissued
  exact foldl_keeps _ (fun s => s.jc.cfg) (fun s a => refuseItem_jc_cfg a _ _ _ _ s) _ _
@[simp] theorem refuseUnissued_jc_cfgWaiting (s : State) :
    (refuseUnissued s).jc.cfgWaiting = s.jc.cfgWaiting := by
  unfold refuseUnissued
  exact foldl_keeps _ (fun s => s.jc.cfgWaiting) (fun s a => refuseItem_jc_cfgWaiting a _ _ _ _ s) _ _
@[simp] theorem refuseUnissued_jc_format (s : State) :
    (refuseUnissued s).jc.format = s.jc.format := by
  unfold refuseUnissued
  exact foldl_keeps _ (fun s => s.jc.format) (fun s a => refuseItem_jc_format a _ _ _ _ s) _ _
@[simp] theorem refuseUnissued_jc_advice (s : State) :
    (refuseUnissued s).jc.advice = s.jc.advice := by
  unfold refuseUnissued
  exact foldl_keeps _ (fun s => s.jc.advice) (fun s a => refuseItem_jc_advice a _ _ _ _ s) _ _
@[simp] theorem refuseUnissued_jc_adviceWaiting (s : State) :
    (refuseUnissued s).jc.adviceWaiting = s.jc.adviceWaiting := by
  unfold refuseUnissued
  exact foldl_keeps _ (fun s => s.jc.adviceWaiting) (fun s a => refuseItem_jc_adviceWaiting a _ _ _ _ s) _ _
@[simp] theorem refuseUnissued_mau (s : State) :
    (refuseUnissued s).mau = s.mau := by
  unfold refuseUnissued
  exact foldl_keeps _ (fun s => s.mau) (fun s a => refuseItem_mau a _ _ _ _ s) _ _
@[simp] theorem refuseUnissued_pcu (s : State) :
    (refuseUnissued s).pcu = s.pcu := by
  unfold refuseUnissued
  exact foldl_keeps _ (fun s => s.pcu) (fun s a => refuseItem_pcu a _ _ _ _ s) _ _
@[simp] theorem refuseUnissued_asu (s : State) :
    (refuseUnissued s).asu = s.asu := by
  unfold refuseUnissued
  exact foldl_keeps _ (fun s => s.asu) (fun s a => refuseItem_asu a _ _ _ _ s) _ _

@[simp] theorem enterFault_pending (region : Region) (j : Nat) (s : State) :
    (enterFault region j s).pending = s.pending := by
  unfold enterFault; dsimp only; split <;> simp
@[simp] theorem enterFault_mem (region : Region) (j : Nat) (s : State) :
    (enterFault region j s).mem = s.mem := by
  unfold enterFault; dsimp only; split <;> simp
@[simp] theorem enterFault_hlp_straps (region : Region) (j : Nat) (s : State) :
    (enterFault region j s).hlp.straps = s.hlp.straps := by
  unfold enterFault; dsimp only; split <;> simp
@[simp] theorem enterFault_hlp_rate (region : Region) (j : Nat) (s : State) :
    (enterFault region j s).hlp.rate = s.hlp.rate := by
  unfold enterFault; dsimp only; split <;> simp
@[simp] theorem enterFault_hlp_inbound (region : Region) (j : Nat) (s : State) :
    (enterFault region j s).hlp.inbound = s.hlp.inbound := by
  unfold enterFault; dsimp only; split <;> simp
@[simp] theorem enterFault_hlp_deaf (region : Region) (j : Nat) (s : State) :
    (enterFault region j s).hlp.deaf = s.hlp.deaf := by
  unfold enterFault; dsimp only; split <;> simp
@[simp] theorem enterFault_hlp_inFlight (region : Region) (j : Nat) (s : State) :
    (enterFault region j s).hlp.inFlight = s.hlp.inFlight := by
  unfold enterFault; dsimp only; split <;> simp
@[simp] theorem enterFault_windows (region : Region) (j : Nat) (s : State) :
    (enterFault region j s).windows = s.windows := by
  unfold enterFault; dsimp only; split <;> simp
@[simp] theorem enterFault_ce_ring (region : Region) (j : Nat) (s : State) :
    (enterFault region j s).ce.ring = s.ce.ring := by
  unfold enterFault; dsimp only; split <;> simp
@[simp] theorem enterFault_ht_serial (region : Region) (j : Nat) (s : State) :
    (enterFault region j s).ht.serial = s.ht.serial := by
  unfold enterFault; dsimp only; split <;> simp
@[simp] theorem enterFault_ht_epoch (region : Region) (j : Nat) (s : State) :
    (enterFault region j s).ht.epoch = s.ht.epoch := by
  unfold enterFault; dsimp only; split <;> simp
@[simp] theorem enterFault_ht_seconds (region : Region) (j : Nat) (s : State) :
    (enterFault region j s).ht.seconds = s.ht.seconds := by
  unfold enterFault; dsimp only; split <;> simp
@[simp] theorem enterFault_ht_timeSet (region : Region) (j : Nat) (s : State) :
    (enterFault region j s).ht.timeSet = s.ht.timeSet := by
  unfold enterFault; dsimp only; split <;> simp
@[simp] theorem enterFault_jc_phase (region : Region) (j : Nat) (s : State) :
    (enterFault region j s).jc.phase = s.jc.phase := by
  unfold enterFault; dsimp only; split <;> simp
@[simp] theorem enterFault_jc_stage (region : Region) (j : Nat) (s : State) :
    (enterFault region j s).jc.stage = s.jc.stage := by
  unfold enterFault; dsimp only; split <;> simp
@[simp] theorem enterFault_jc_cause (region : Region) (j : Nat) (s : State) :
    (enterFault region j s).jc.cause = s.jc.cause := by
  unfold enterFault; dsimp only; split <;> simp
@[simp] theorem enterFault_jc_recovered (region : Region) (j : Nat) (s : State) :
    (enterFault region j s).jc.recovered = s.jc.recovered := by
  unfold enterFault; dsimp only; split <;> simp
@[simp] theorem enterFault_jc_next (region : Region) (j : Nat) (s : State) :
    (enterFault region j s).jc.next = s.jc.next := by
  unfold enterFault; dsimp only; split <;> simp
@[simp] theorem enterFault_jc_oldest (region : Region) (j : Nat) (s : State) :
    (enterFault region j s).jc.oldest = s.jc.oldest := by
  unfold enterFault; dsimp only; split <;> simp
@[simp] theorem enterFault_jc_untaken (region : Region) (j : Nat) (s : State) :
    (enterFault region j s).jc.untaken = s.jc.untaken := by
  unfold enterFault; dsimp only; split <;> simp
@[simp] theorem enterFault_jc_pendingCount (region : Region) (j : Nat) (s : State) :
    (enterFault region j s).jc.pendingCount = s.jc.pendingCount := by
  unfold enterFault; dsimp only; split <;> simp
@[simp] theorem enterFault_jc_appendIssued (region : Region) (j : Nat) (s : State) :
    (enterFault region j s).jc.appendIssued = s.jc.appendIssued := by
  unfold enterFault; dsimp only; split <;> simp
@[simp] theorem enterFault_jc_appendPeriod (region : Region) (j : Nat) (s : State) :
    (enterFault region j s).jc.appendPeriod = s.jc.appendPeriod := by
  unfold enterFault; dsimp only; split <;> simp
@[simp] theorem enterFault_jc_admission (region : Region) (j : Nat) (s : State) :
    (enterFault region j s).jc.admission = s.jc.admission := by
  unfold enterFault; dsimp only; split <;> simp
@[simp] theorem enterFault_jc_tariffs (region : Region) (j : Nat) (s : State) :
    (enterFault region j s).jc.tariffs = s.jc.tariffs := by
  unfold enterFault; dsimp only; split <;> simp
@[simp] theorem enterFault_jc_cfg (region : Region) (j : Nat) (s : State) :
    (enterFault region j s).jc.cfg = s.jc.cfg := by
  unfold enterFault; dsimp only; split <;> simp
@[simp] theorem enterFault_jc_cfgWaiting (region : Region) (j : Nat) (s : State) :
    (enterFault region j s).jc.cfgWaiting = s.jc.cfgWaiting := by
  unfold enterFault; dsimp only; split <;> simp
@[simp] theorem enterFault_jc_format (region : Region) (j : Nat) (s : State) :
    (enterFault region j s).jc.format = s.jc.format := by
  unfold enterFault; dsimp only; split <;> simp
@[simp] theorem enterFault_mau_copy (region : Region) (j : Nat) (s : State) :
    (enterFault region j s).mau.copy = s.mau.copy := by
  unfold enterFault; dsimp only; split <;> simp
@[simp] theorem enterFault_mau_queue (region : Region) (j : Nat) (s : State) :
    (enterFault region j s).mau.queue = s.mau.queue := by
  unfold enterFault; dsimp only; split <;> simp
@[simp] theorem enterFault_mau_totalsBusy (region : Region) (j : Nat) (s : State) :
    (enterFault region j s).mau.totalsBusy = s.mau.totalsBusy := by
  unfold enterFault; dsimp only; split <;> simp
@[simp] theorem enterFault_pcu_entries (region : Region) (j : Nat) (s : State) :
    (enterFault region j s).pcu.entries = s.pcu.entries := by
  unfold enterFault; dsimp only; split <;> simp
@[simp] theorem enterFault_pcu_cursor (region : Region) (j : Nat) (s : State) :
    (enterFault region j s).pcu.cursor = s.pcu.cursor := by
  unfold enterFault; dsimp only; split <;> simp
@[simp] theorem enterFault_pcu_state (region : Region) (j : Nat) (s : State) :
    (enterFault region j s).pcu.state = s.pcu.state := by
  unfold enterFault; dsimp only; split <;> simp
@[simp] theorem enterFault_pcu_period (region : Region) (j : Nat) (s : State) :
    (enterFault region j s).pcu.period = s.pcu.period := by
  unfold enterFault; dsimp only; split <;> simp
@[simp] theorem enterFault_pcu_rebuild (region : Region) (j : Nat) (s : State) :
    (enterFault region j s).pcu.rebuild = s.pcu.rebuild := by
  unfold enterFault; dsimp only; split <;> simp
@[simp] theorem enterFault_asu_cursor (region : Region) (j : Nat) (s : State) :
    (enterFault region j s).asu.cursor = s.asu.cursor := by
  unfold enterFault; dsimp only; split <;> simp
@[simp] theorem enterFault_asu_paid (region : Region) (j : Nat) (s : State) :
    (enterFault region j s).asu.paid = s.asu.paid := by
  unfold enterFault; dsimp only; split <;> simp
@[simp] theorem enterFault_asu_bonus (region : Region) (j : Nat) (s : State) :
    (enterFault region j s).asu.bonus = s.asu.bonus := by
  unfold enterFault; dsimp only; split <;> simp
@[simp] theorem enterFault_asu_unreadable (region : Region) (j : Nat) (s : State) :
    (enterFault region j s).asu.unreadable = s.asu.unreadable := by
  unfold enterFault; dsimp only; split <;> simp
@[simp] theorem enterFault_asu_outstanding (region : Region) (j : Nat) (s : State) :
    (enterFault region j s).asu.outstanding = s.asu.outstanding := by
  unfold enterFault; dsimp only; split <;> simp

@[simp] theorem completeHolds_pending (m : Movement) (s : State) :
    (completeHolds m s).pending = s.pending := by
  unfold completeHolds; split <;> simp
@[simp] theorem completeHolds_mem (m : Movement) (s : State) :
    (completeHolds m s).mem = s.mem := by
  unfold completeHolds; split <;> simp
@[simp] theorem completeHolds_hlp (m : Movement) (s : State) :
    (completeHolds m s).hlp = s.hlp := by
  unfold completeHolds; split <;> simp
@[simp] theorem completeHolds_lines (m : Movement) (s : State) :
    (completeHolds m s).lines = s.lines := by
  unfold completeHolds; split <;> simp
@[simp] theorem completeHolds_windows (m : Movement) (s : State) :
    (completeHolds m s).windows = s.windows := by
  unfold completeHolds; split <;> simp
@[simp] theorem completeHolds_ce (m : Movement) (s : State) :
    (completeHolds m s).ce = s.ce := by
  unfold completeHolds; split <;> simp
@[simp] theorem completeHolds_ht_serial (m : Movement) (s : State) :
    (completeHolds m s).ht.serial = s.ht.serial := by
  unfold completeHolds; split <;> simp
@[simp] theorem completeHolds_ht_epoch (m : Movement) (s : State) :
    (completeHolds m s).ht.epoch = s.ht.epoch := by
  unfold completeHolds; split <;> simp
@[simp] theorem completeHolds_ht_seconds (m : Movement) (s : State) :
    (completeHolds m s).ht.seconds = s.ht.seconds := by
  unfold completeHolds; split <;> simp
@[simp] theorem completeHolds_ht_timeSet (m : Movement) (s : State) :
    (completeHolds m s).ht.timeSet = s.ht.timeSet := by
  unfold completeHolds; split <;> simp
@[simp] theorem completeHolds_jc (m : Movement) (s : State) :
    (completeHolds m s).jc = s.jc := by
  unfold completeHolds; split <;> simp
@[simp] theorem completeHolds_mau (m : Movement) (s : State) :
    (completeHolds m s).mau = s.mau := by
  unfold completeHolds; split <;> simp
@[simp] theorem completeHolds_pcu (m : Movement) (s : State) :
    (completeHolds m s).pcu = s.pcu := by
  unfold completeHolds; split <;> simp
@[simp] theorem completeHolds_asu (m : Movement) (s : State) :
    (completeHolds m s).asu = s.asu := by
  unfold completeHolds; split <;> simp

@[simp] theorem completeRing_pending (m : Movement) (j p : Nat) (s : State) :
    (completeRing m j p s).pending = s.pending := by
  unfold completeRing; split <;> rfl
@[simp] theorem completeRing_mem (m : Movement) (j p : Nat) (s : State) :
    (completeRing m j p s).mem = s.mem := by
  unfold completeRing; split <;> rfl
@[simp] theorem completeRing_hlp (m : Movement) (j p : Nat) (s : State) :
    (completeRing m j p s).hlp = s.hlp := by
  unfold completeRing; split <;> rfl
@[simp] theorem completeRing_lines (m : Movement) (j p : Nat) (s : State) :
    (completeRing m j p s).lines = s.lines := by
  unfold completeRing; split <;> rfl
@[simp] theorem completeRing_windows (m : Movement) (j p : Nat) (s : State) :
    (completeRing m j p s).windows = s.windows := by
  unfold completeRing; split <;> rfl
@[simp] theorem completeRing_ce_locks (m : Movement) (j p : Nat) (s : State) :
    (completeRing m j p s).ce.locks = s.ce.locks := by
  unfold completeRing; split <;> rfl
@[simp] theorem completeRing_ht (m : Movement) (j p : Nat) (s : State) :
    (completeRing m j p s).ht = s.ht := by
  unfold completeRing; split <;> rfl
@[simp] theorem completeRing_jc (m : Movement) (j p : Nat) (s : State) :
    (completeRing m j p s).jc = s.jc := by
  unfold completeRing; split <;> rfl
@[simp] theorem completeRing_mau (m : Movement) (j p : Nat) (s : State) :
    (completeRing m j p s).mau = s.mau := by
  unfold completeRing; split <;> rfl
@[simp] theorem completeRing_pcu (m : Movement) (j p : Nat) (s : State) :
    (completeRing m j p s).pcu = s.pcu := by
  unfold completeRing; split <;> rfl
@[simp] theorem completeRing_asu (m : Movement) (j p : Nat) (s : State) :
    (completeRing m j p s).asu = s.asu := by
  unfold completeRing; split <;> rfl

@[simp] theorem sweepAdjust_pending (slot : Nat) (paid bonus : Int) (s : State) :
    (sweepAdjust slot paid bonus s).pending = s.pending := by
  unfold sweepAdjust; split <;> rfl
@[simp] theorem sweepAdjust_mem (slot : Nat) (paid bonus : Int) (s : State) :
    (sweepAdjust slot paid bonus s).mem = s.mem := by
  unfold sweepAdjust; split <;> rfl
@[simp] theorem sweepAdjust_hlp (slot : Nat) (paid bonus : Int) (s : State) :
    (sweepAdjust slot paid bonus s).hlp = s.hlp := by
  unfold sweepAdjust; split <;> rfl
@[simp] theorem sweepAdjust_lines (slot : Nat) (paid bonus : Int) (s : State) :
    (sweepAdjust slot paid bonus s).lines = s.lines := by
  unfold sweepAdjust; split <;> rfl
@[simp] theorem sweepAdjust_windows (slot : Nat) (paid bonus : Int) (s : State) :
    (sweepAdjust slot paid bonus s).windows = s.windows := by
  unfold sweepAdjust; split <;> rfl
@[simp] theorem sweepAdjust_ce (slot : Nat) (paid bonus : Int) (s : State) :
    (sweepAdjust slot paid bonus s).ce = s.ce := by
  unfold sweepAdjust; split <;> rfl
@[simp] theorem sweepAdjust_ht (slot : Nat) (paid bonus : Int) (s : State) :
    (sweepAdjust slot paid bonus s).ht = s.ht := by
  unfold sweepAdjust; split <;> rfl
@[simp] theorem sweepAdjust_jc (slot : Nat) (paid bonus : Int) (s : State) :
    (sweepAdjust slot paid bonus s).jc = s.jc := by
  unfold sweepAdjust; split <;> rfl
@[simp] theorem sweepAdjust_mau (slot : Nat) (paid bonus : Int) (s : State) :
    (sweepAdjust slot paid bonus s).mau = s.mau := by
  unfold sweepAdjust; split <;> rfl
@[simp] theorem sweepAdjust_pcu (slot : Nat) (paid bonus : Int) (s : State) :
    (sweepAdjust slot paid bonus s).pcu = s.pcu := by
  unfold sweepAdjust; split <;> rfl
@[simp] theorem sweepAdjust_asu_state (slot : Nat) (paid bonus : Int) (s : State) :
    (sweepAdjust slot paid bonus s).asu.state = s.asu.state := by
  unfold sweepAdjust; split <;> rfl
@[simp] theorem sweepAdjust_asu_cursor (slot : Nat) (paid bonus : Int) (s : State) :
    (sweepAdjust slot paid bonus s).asu.cursor = s.asu.cursor := by
  unfold sweepAdjust; split <;> rfl
@[simp] theorem sweepAdjust_asu_unreadable (slot : Nat) (paid bonus : Int) (s : State) :
    (sweepAdjust slot paid bonus s).asu.unreadable = s.asu.unreadable := by
  unfold sweepAdjust; split <;> rfl
@[simp] theorem sweepAdjust_asu_outstanding (slot : Nat) (paid bonus : Int) (s : State) :
    (sweepAdjust slot paid bonus s).asu.outstanding = s.asu.outstanding := by
  unfold sweepAdjust; split <;> rfl
@[simp] theorem sweepAdjust_asu_stale (slot : Nat) (paid bonus : Int) (s : State) :
    (sweepAdjust slot paid bonus s).asu.stale = s.asu.stale := by
  unfold sweepAdjust; split <;> rfl

end Sys2Proof.Machine
end

