-- ==== Sys2Proof/Laws/Link.lean ====
section
/-! SUPPORT. What a request frame can meet on the link, the choices of the memory port, and the operations on one lock: one
lemma for each branch, stated in the terms of Safety.lean, for the proofs to cite. -/

set_option Elab.async false

namespace Sys2Proof.Machine
open Sys2Proof Sys2Proof.Safety

section Request
variable {α : Type} {kind : Nat} {c : ReqClass} {tag : Byte} {body : List Byte} {fields : List Byte → Option α}
  {act : Nat → α → State → State} {s : State}

/-- A request the link takes, with good fields, reaches its block with its tag in flight (R157, R159). -/
theorem hostRequest_admitted {f : α} (h : Admits c tag s) (hf : fields body = some f) :
    hostRequest kind c tag body fields act s = act tag.toNat f (taken tag s) := by
  obtain ⟨⟨h1, h2, h3, h4⟩, h5⟩ := h
  simp [hostRequest, h1, h2, h3, hf, Config.linkSlots, show ¬ 8 ≤ s.hlp.inFlight.length by omega, h5, taken]

/-- A request with a bad field takes its tag and is refused (R159, R160). -/
theorem hostRequest_badField (h : TagFree tag s) (hf : fields body = none) :
    hostRequest kind c tag body fields act s
      = sendLink tag.toNat (earlyRefusal kind body .badRequest reasonField) (taken tag s) := by
  obtain ⟨h1, h2, h3, h4⟩ := h
  simp [hostRequest, h1, h2, h3, hf, Config.linkSlots, show ¬ 8 ≤ s.hlp.inFlight.length by omega, taken]

/-- A request with good fields in a phase that does not serve it takes its tag and is refused (R159, R169). -/
theorem hostRequest_phase {f : α} {st : Status} {reason : Nat} (h : TagFree tag s) (hf : fields body = some f)
    (hp : phaseRefusal c s.jc.phase s.jc.format.isSome = some (st, reason)) :
    hostRequest kind c tag body fields act s = sendLink tag.toNat (earlyRefusal kind body st reason) (taken tag s) := by
  obtain ⟨h1, h2, h3, h4⟩ := h
  simp [hostRequest, h1, h2, h3, hf, Config.linkSlots, show ¬ 8 ≤ s.hlp.inFlight.length by omega, hp, taken]

/-- A deaf receiver discards the frame (R167, R172). -/
theorem hostRequest_deaf (h : s.hlp.deaf = true) : hostRequest kind c tag body fields act s = s := by
  simp [hostRequest, h]

/-- A request under tag 0 is refused without taking it (R159). -/
theorem hostRequest_tagZero (h : s.hlp.deaf = false) (ht : tag.toNat = 0) :
    hostRequest kind c tag body fields act s
      = sendUntagged (replyKind kind) tag.toNat (earlyRefusal kind body .badRequest reasonTagZero)
          { s with hlp := { s.hlp with inbound := [] } } := by
  simp [hostRequest, h, ht]

/-- A request under a tag that is in flight is refused (R159). -/
theorem hostRequest_duplicate (h : s.hlp.deaf = false) (ht : tag.toNat ≠ 0) (hm : tag.toNat ∈ s.hlp.inFlight) :
    hostRequest kind c tag body fields act s
      = sendUntagged (replyKind kind) tag.toNat (earlyRefusal kind body .badRequest reasonDuplicateTag)
          { s with hlp := { s.hlp with inbound := [] } } := by
  simp [hostRequest, h, ht, hm]

/-- A request while 8 are in flight is refused (R159). -/
theorem hostRequest_full (h : s.hlp.deaf = false) (ht : tag.toNat ≠ 0) (hm : tag.toNat ∉ s.hlp.inFlight)
    (hl : 8 ≤ s.hlp.inFlight.length) :
    hostRequest kind c tag body fields act s
      = sendUntagged (replyKind kind) tag.toNat (earlyRefusal kind body .busy 0)
          { s with hlp := { s.hlp with inbound := [] } } := by
  simp [hostRequest, h, ht, hm, hl, Config.linkSlots]

end Request

section Port
variable {op : PortOp} {s : State}

/-- An access issued to an idle port is served at once (R112). -/
theorem issue_idle (h : s.jc.serving = none) :
    issue op s = { s with jc := { s.jc with serving := some op } } := by simp [issue, h]

/-- An access issued to a busy port waits behind the others (R112). -/
theorem issue_busy {x : PortOp} (h : s.jc.serving = some x) :
    issue op s = { s with jc := { s.jc with waiting := s.jc.waiting ++ [op] } } := by simp [issue, h]

end Port

section Lock
variable {k : Nat} {l : LockSlot} {s : State}

/-- A lock without a waiter is freed (R23). -/
theorem releaseLock_free (h : s.lock k = some l) (hw : l.waiters = []) : releaseLock k s = s.setLock k none := by
  simp [releaseLock, h, hw]

/-- A lock with waiters passes to the first of them (R23). -/
theorem releaseLock_grant {w : CardReq} {ws : List CardReq} (h : s.lock k = some l) (hw : l.waiters = w :: ws) :
    releaseLock k s = grantLock k w ws s := by simp [releaseLock, h, hw]

/-- A reply to a tag of the link goes to the outbound queue (R161). -/
theorem sendReply_link (tag : Nat) (r : Reply) : sendReply (.link tag) r s = sendLink tag r s := rfl

/-- A reply to a station in use is held for it (R152). -/
theorem sendStation_held {n e : Nat} {r : Reply} (h : (s.station n e).state ≠ .faulty) (h' : (s.station n e).state ≠ .disabled) :
    sendReply (.station n e) r s = s.setStation n e { s.station n e with held := some r } := by
  simp only [sendReply, sendStation]

/-- A reply to a station that is FAULTY or DISABLED is discarded (R152). -/
theorem sendStation_discarded {n e : Nat} {r : Reply}
    (h : (s.station n e).state = .faulty ∨ (s.station n e).state = .disabled) :
    sendReply (.station n e) r s = discardReply n e r s := by
  rcases h with h | h <;> simp [sendReply, sendStation, h]

end Lock

end Sys2Proof.Machine
end

