-- ==== Sys2Proof/Laws/Memory.lean ====
section
/-! SUPPORT. The laws of settlement memory: every operation keeps the canonical form, a write is read back, and every other
byte is left alone. -/

namespace Sys2Proof.Machine
open Sys2Proof

theorem memory_wfFrom_mono {lo hi : Nat} {mem : List Host.Cell} (h : lo ≤ hi) (w : Memory.wfFrom hi mem = true) :
    Memory.wfFrom lo mem = true := by
  cases mem with
  | nil => rfl
  | cons c rest =>
    obtain ⟨x, b⟩ := c
    simp only [Memory.wfFrom, Bool.and_eq_true, decide_eq_true_eq] at w ⊢
    exact ⟨⟨h.trans w.1.1, w.1.2⟩, w.2⟩

/-- In canonical form from `lo` upward every address below `lo` reads as an unlisted one. -/
theorem memory_read_below {mem : List Host.Cell} {lo a : Nat} (w : Memory.wfFrom lo mem = true) (h : a < lo) :
    Memory.read mem a = freshByte := by
  induction mem generalizing lo with
  | nil => rfl
  | cons c rest ih =>
    obtain ⟨x, b⟩ := c
    simp only [Memory.wfFrom, Bool.and_eq_true, decide_eq_true_eq] at w
    have : a ≠ x := by omega
    simp only [Memory.read, this, if_false]
    exact ih w.2 (by omega)

theorem memory_write_wfFrom {mem : List Host.Cell} {lo a : Nat} (b : Byte) (h : lo ≤ a)
    (w : Memory.wfFrom lo mem = true) : Memory.wfFrom lo (Memory.write mem a b) = true := by
  induction mem generalizing lo with
  | nil =>
    by_cases hb : b = freshByte
    · simp [Memory.write, hb, Memory.wfFrom]
    · simp [Memory.write, hb, Memory.wfFrom, h]
  | cons c rest ih =>
    obtain ⟨x, d⟩ := c
    simp only [Memory.wfFrom, Bool.and_eq_true, decide_eq_true_eq] at w
    obtain ⟨⟨h1, h2⟩, h3⟩ := w
    simp only [Memory.write]
    split_ifs with hlt hb heq hb
    · simp [Memory.wfFrom, h1, h2, h3]
    · have : a + 1 ≤ x := hlt
      simp [Memory.wfFrom, h, hb, h2, h3, this]
    · exact memory_wfFrom_mono (by omega) h3
    · subst heq
      simp [Memory.wfFrom, h1, hb, h3]
    · have : x + 1 ≤ a := by omega
      simp [Memory.wfFrom, h1, h2, ih this h3]

/-- A write keeps the canonical form. -/
theorem memory_write_wf {mem : List Host.Cell} (a : Nat) (b : Byte) (w : Memory.wf mem = true) :
    Memory.wf (Memory.write mem a b) = true := memory_write_wfFrom b (Nat.zero_le a) w

/-- A write of many bytes keeps the canonical form. -/
theorem memory_writeMany_wf {mem : List Host.Cell} (a : Nat) (bs : List Byte) (w : Memory.wf mem = true) :
    Memory.wf (Memory.writeMany mem a bs) = true := by
  induction bs generalizing mem a with
  | nil => exact w
  | cons b bs ih => exact ih (a + 1) (memory_write_wf a b w)

/-- A write that fails or is cut off keeps the canonical form. -/
theorem memory_leave_wf {mem : List Host.Cell} (a : Nat) (bs : List Byte) (ok : List Byte → Bool) (left : Residue)
    (w : Memory.wf mem = true) : Memory.wf (Memory.leave mem a bs ok left) = true := by
  cases left with
  | written => exact memory_writeMany_wf a bs w
  | unwritten => exact w
  | torn bad =>
    simp only [Memory.leave]
    split
    · exact memory_writeMany_wf a bad w
    · exact w

theorem memory_read_cons (x : Nat) (c : Byte) (rest : List Host.Cell) (a : Nat) :
    Memory.read ((x, c) :: rest) a = if a = x then c else Memory.read rest a := rfl

theorem memory_read_write_from {mem : List Host.Cell} {lo a : Nat} (b : Byte) (a' : Nat) (h : lo ≤ a)
    (w : Memory.wfFrom lo mem = true) :
    Memory.read (Memory.write mem a b) a' = if a' = a then b else Memory.read mem a' := by
  induction mem generalizing lo with
  | nil =>
    by_cases hb : b = freshByte <;> by_cases ha : a' = a <;> simp [Memory.write, Memory.read, hb, ha]
  | cons c rest ih =>
    obtain ⟨x, d⟩ := c
    simp only [Memory.wfFrom, Bool.and_eq_true, decide_eq_true_eq] at w
    obtain ⟨⟨h1, h2⟩, h3⟩ := w
    rcases Nat.lt_trichotomy a x with hlt | heq | hgt
    · have hw : Memory.write ((x, d) :: rest) a b =
          if b = freshByte then (x, d) :: rest else (a, b) :: (x, d) :: rest := by simp [Memory.write, hlt]
      rw [hw]
      by_cases hb : b = freshByte
      · by_cases ha : a' = a
        · have hr : Memory.read ((x, d) :: rest) a' = freshByte :=
            memory_read_below (lo := x) (by simp [Memory.wfFrom, h2, h3]) (by omega)
          rw [if_pos hb, if_pos ha, hr, hb]
        · rw [if_pos hb, if_neg ha]
      · rw [if_neg hb, memory_read_cons]
    · subst heq
      have hw : Memory.write ((a, d) :: rest) a b = if b = freshByte then rest else (a, b) :: rest := by
        simp [Memory.write]
      rw [hw, memory_read_cons]
      by_cases ha : a' = a
      · by_cases hb : b = freshByte
        · rw [if_pos hb, if_pos ha, hb]
          exact memory_read_below h3 (by omega)
        · rw [if_neg hb, memory_read_cons]; simp [ha]
      · by_cases hb : b = freshByte
        · rw [if_pos hb, if_neg ha, if_neg ha]
        · rw [if_neg hb, memory_read_cons]; simp [ha]
    · have hw : Memory.write ((x, d) :: rest) a b = (x, d) :: Memory.write rest a b := by
        simp [Memory.write, Nat.not_lt.mpr (Nat.le_of_lt hgt), Nat.ne_of_gt hgt]
      rw [hw, memory_read_cons, memory_read_cons, ih (by omega : x + 1 ≤ a) h3]
      by_cases hx : a' = x
      · have : a' ≠ a := by omega
        rw [if_pos hx, if_neg this, if_pos hx]
      · rw [if_neg hx, if_neg hx]

/-- A write is read back, and every other byte is left alone. -/
theorem memory_read_write {mem : List Host.Cell} (a : Nat) (b : Byte) (a' : Nat) (w : Memory.wf mem = true) :
    Memory.read (Memory.write mem a b) a' = if a' = a then b else Memory.read mem a' :=
  memory_read_write_from b a' (Nat.zero_le a) w

/-- A write of many bytes leaves every byte outside them alone. -/
theorem memory_read_writeMany_outside {mem : List Host.Cell} (a : Nat) (bs : List Byte) (a' : Nat)
    (w : Memory.wf mem = true) (h : a' < a ∨ a + bs.length ≤ a') :
    Memory.read (Memory.writeMany mem a bs) a' = Memory.read mem a' := by
  induction bs generalizing mem a with
  | nil => rfl
  | cons b bs ih =>
    simp only [List.length_cons] at h
    have hne : a' ≠ a := by omega
    have h' : a' < a + 1 ∨ a + 1 + bs.length ≤ a' := by omega
    rw [Memory.writeMany, ih (a + 1) (memory_write_wf a b w) h', memory_read_write a b a' w, if_neg hne]

theorem memory_readMany_length (mem : List Host.Cell) (a n : Nat) : (Memory.readMany mem a n).length = n := by
  induction n generalizing a with
  | zero => rfl
  | succ n ih => simp [Memory.readMany, ih]

/-- Bytes written are read back. -/
theorem memory_readMany_writeMany {mem : List Host.Cell} (a : Nat) (bs : List Byte) (w : Memory.wf mem = true) :
    Memory.readMany (Memory.writeMany mem a bs) a bs.length = bs := by
  induction bs generalizing mem a with
  | nil => rfl
  | cons b bs ih =>
    have hw := memory_write_wf a b w
    simp only [Memory.writeMany, List.length_cons, Memory.readMany]
    rw [ih (a + 1) hw, memory_read_writeMany_outside (a + 1) bs a hw (by omega), memory_read_write a b a w, if_pos rfl]

end Sys2Proof.Machine
end

