-- ==== Sys2Proof/Laws/Port.lean ====
section
/-! SUPPORT. What the memory port can choose, and the journal law of R115 over the shared operations: each operation keeps it, the
port's next access among them. -/

set_option Elab.async false

namespace Sys2Proof.Machine
open Sys2Proof Sys2Proof.Safety

/-! ### The port's choice (R112) -/

theorem takeClass_perm {c l op rest} (h : takeClass c l = some (op, rest)) : List.Perm l (op :: rest) := by
  induction l generalizing op rest with
  | nil => simp [takeClass] at h
  | cons x xs ih =>
    simp only [takeClass] at h
    split at h
    · cases h; exact List.Perm.refl _
    · split at h
      · rename_i y r hy
        cases h
        exact (List.Perm.cons x (ih hy)).trans (List.Perm.swap _ _ _)
      · cases h

/-- The access chosen and those left are the ones that waited. -/
theorem pickNext_perm {l op rest} (h : pickNext l = some (op, rest)) : List.Perm l (op :: rest) := by
  unfold pickNext at h
  obtain ⟨c, _, hc⟩ := List.exists_of_findSome?_eq_some h
  exact takeClass_perm hc

/-- The access chosen is the first of the lowest class (R112). -/
theorem pickNext_spec (op : PortOp) (pre post : List PortOp) (h1 : ∀ x ∈ pre, op.cls < x.cls) (h2 : ∀ x ∈ post, op.cls ≤ x.cls) :
   pickNext (pre ++ op :: post) = some (op, pre ++ post) := by
  have hno : ∀ c (l : List PortOp), (∀ x ∈ l, x.cls ≠ c) → takeClass c l = none := by
    intro c l; induction l with
    | nil => intro; rfl
    | cons a l ih => intro h; simp [takeClass, h a, ih (fun x hx => h x (List.mem_cons_of_mem _ hx))]
  have hyes : ∀ (l : List PortOp), (∀ x ∈ l, op.cls < x.cls) → takeClass op.cls (l ++ op :: post) = some (op, l ++ post) := by
    intro l; induction l with
    | nil => intro _; simp [takeClass]
    | cons a l ih =>
      intro h
      have := h a List.mem_cons_self
      simp [takeClass, Nat.ne_of_gt this, ih (fun x hx => h x (List.mem_cons_of_mem _ hx))]
  have hcls : op.cls ∈ [1,2,3,4,5,6] := by cases op <;> simp [PortOp.cls]
  have hlow : ∀ c, c < op.cls → takeClass c (pre ++ op :: post) = none := by
    intro c hc; apply hno; intro x hx
    simp at hx
    rcases hx with hx | rfl | hx
    · have := h1 x hx; omega
    · omega
    · have := h2 x hx; omega
  have h := hyes pre h1
  unfold pickNext
  simp only [List.mem_cons, List.not_mem_nil, or_false] at hcls
  rcases hcls with hh | hh | hh | hh | hh | hh <;> rw [hh] at h hlow <;> simp [List.findSome?, h, hlow]

/-- When an append access is due (R116). -/
theorem mayAppend_iff {s : State} : mayAppend s = true ↔
    s.jc.appendQueue ≠ [] ∧ s.jc.appendIssued = false ∧ s.jc.pendingCount < 32 ∧ s.jc.store = .normal := by
  simp only [mayAppend, Bool.and_eq_true, Bool.not_eq_true', decide_eq_true_eq, List.isEmpty_eq_false_iff, and_assoc]; rfl

/-- An append that passes its tests has room in the journal (R119). -/
theorem appendTest_room {s : State} {i : AppendItem} (h : appendTest s i = none) : s.jc.store = .normal ∧ s.jc.untaken < 4096 := by
  unfold appendTest at h
  split at h
  · cases h
  · rename_i hs
    refine ⟨by cases hh : s.jc.store <;> simp_all, ?_⟩
    by_contra hlt
    have : ∀ c, journalFull s c = true := fun c => by
      have : Config.journalSlots ≤ s.jc.untaken := Nat.le_of_not_lt hlt
      simp [journalFull, this]
    cases i <;> simp [this] at h
/-- An append access that has been issued is not due again. -/
theorem queueAppend_idem (s : State) : queueAppend (queueAppend s) = queueAppend s := by
  unfold queueAppend
  split
  · simp [mayAppend]
  · rename_i h; simp

/-- The port's next access is the same whether or not the append access that is due waits already (R116). -/
theorem portNext_queueAppend (n : Nat) (s : State) : portNext (n + 1) (queueAppend s) = portNext (n + 1) s := by
  simp only [portNext, queueAppend_jc_appendQueue, portLoop, queueAppend_idem]

/-- A record that joins the append queue at a busy port has its access among those the port chooses from next (R112, R116). -/
theorem portNext_joinAppend {n : Nat} {item : AppendItem} {op : PortOp} {s : State} (h : s.jc.serving = some op)
    (hs : s.jc.store = .normal) :
    portNext (n + 1) (joinAppend item s)
      = portNext (n + 1) { s with jc := { s.jc with appendQueue := s.jc.appendQueue ++ [item] } } := by
  unfold joinAppend issueDue
  rw [hs]
  dsimp only
  split
  · rw [h]; exact portNext_queueAppend _ _
  · rfl

/-! ### The journal law (R115) -/

/-- JournalOk, but for what it says of the access in service where `served` is false: what holds while that access's event is
under way. -/
def JournalKept (served : Bool) (s : State) : Prop :=
  s.jc.pendingCount ≤ 32 ∧ s.jc.untaken ≤ 4096
    ∧ (s.jc.waiting.count .append ≤ if s.jc.appendIssued then 1 else 0)
    ∧ (.append ∈ s.jc.waiting → s.jc.pendingCount < 32) ∧ (∀ b, .appendWrite b ∉ s.jc.waiting)
    ∧ (served = true → ∀ op, s.jc.serving = some op → op ≠ .append ∧ ∀ b, op = .appendWrite b →
        s.jc.appendIssued = true ∧ .append ∉ s.jc.waiting ∧ s.jc.pendingCount < 32 ∧ s.jc.untaken < 4096)

/-- With the access in service it is the law itself. -/
theorem journalKept_iff (s : State) : JournalKept true s ↔ JournalOk s := by simp [JournalKept, JournalOk]

/-- The law without the access in service follows. -/
theorem JournalKept.weak {b s} (h : JournalKept b s) : JournalKept false s := ⟨h.1, h.2.1, h.2.2.1, h.2.2.2.1, h.2.2.2.2.1, by simp⟩

variable {b : Bool} {s : State}

/-- The law looks at five fields. -/
theorem JournalKept.congr {t : State} (h : JournalKept b s) (h1 : t.jc.pendingCount = s.jc.pendingCount) (h2 : t.jc.untaken = s.jc.untaken)
   (h3 : t.jc.waiting = s.jc.waiting) (h4 : t.jc.appendIssued = s.jc.appendIssued) (h5 : t.jc.serving = s.jc.serving) : JournalKept b t := by
  simpa only [JournalKept, h1, h2, h3, h4, h5] using h

/-- An access that is no append. -/
def NoAppend (op : PortOp) : Prop := op ≠ .append ∧ ∀ b, op ≠ .appendWrite b

/-- An access that is no append, issued, keeps the law. -/
theorem JournalKept.issue {op} (h : JournalKept b s) (hp : NoAppend op) : JournalKept b (issue op s) := by
  obtain ⟨h1,h2,h3,h4,h5,h6⟩ := h
  unfold Machine.issue
  obtain ⟨hp1, hp2⟩ := hp
  split
  · refine ⟨h1,h2,h3,h4,h5,fun hb o ho => ?_⟩
    simp at ho; subst ho; exact ⟨hp1, fun b hb => absurd hb (hp2 b)⟩
  · rename_i x hx
    refine ⟨h1,h2,?_,?_,?_,fun hb o ho => ?_⟩
    · simpa [List.count_append, List.count_cons, hp1] using h3
    · simpa [List.mem_append, Ne.symm hp1] using h4
    · intro b hm
      simp [List.mem_append] at hm
      rcases hm with hm | hm
      · exact h5 b hm
      · exact hp2 b hm.symm
    · have := h6 hb o (by simpa using ho)
      simpa [List.mem_append, Ne.symm hp1] using this

/-- `sendReply` keeps the journal law. -/
theorem JournalKept.sendReply {o r} (h : JournalKept b s) : JournalKept b (sendReply o r s) := h.congr (by simp) (by simp) (by simp) (by simp) (by simp)

/-- `sendLink` keeps the journal law. -/
theorem JournalKept.sendLink {o r} (h : JournalKept b s) : JournalKept b (sendLink o r s) := h.congr (by simp) (by simp) (by simp) (by simp) (by simp)

/-- `pushFrame` keeps the journal law. -/
theorem JournalKept.pushFrame {f} (h : JournalKept b s) : JournalKept b (pushFrame f s) := h.congr (by simp) (by simp) (by simp) (by simp) (by simp)

/-- `setLock` keeps the journal law. -/
theorem JournalKept.setLock {k l} (h : JournalKept b s) : JournalKept b (s.setLock k l) := h

/-- `grantLock` keeps the journal law. -/
theorem JournalKept.grantLock {k r ws} (h : JournalKept b s) : JournalKept b (grantLock k r ws s) := by
  unfold Machine.grantLock; exact JournalKept.issue (JournalKept.setLock h) ⟨by simp, by simp⟩

/-- `releaseLock` keeps the journal law. -/
theorem JournalKept.releaseLock {k} (h : JournalKept b s) : JournalKept b (releaseLock k s) := by
  unfold Machine.releaseLock
  split
  · split
    · exact h.setLock
    · exact h.grantLock
  · exact h

/-- `answerOwner` keeps the journal law. -/
theorem JournalKept.answerOwner {k q r} (h : JournalKept b s) : JournalKept b (answerOwner k q r s) := h.sendReply.releaseLock

/-- `seekLock` keeps the journal law. -/
theorem JournalKept.seekLock {q} (h : JournalKept b s) : JournalKept b (seekLock q s) := by
  unfold Machine.seekLock
  repeat' split
  all_goals first | exact h.setLock | exact h.sendReply | exact h.grantLock | exact h

/-- `takeCardRequest` keeps the journal law. -/
theorem JournalKept.takeCardRequest {q} (h : JournalKept b s) : JournalKept b (takeCardRequest q s) := by
  unfold Machine.takeCardRequest
  split
  · exact h.sendReply
  · exact h.seekLock

/-- `setDoing` keeps the journal law. -/
theorem JournalKept.setDoing {k d} (h : JournalKept b s) : JournalKept b (setDoing k d s) := by
  unfold Machine.setDoing; split <;> exact h

/-- `returnClaim` keeps the journal law. -/
theorem JournalKept.returnClaim {m} (h : JournalKept b s) : JournalKept b (returnClaim m s) := by
  unfold Machine.returnClaim; split <;> exact h

/-- `refuseItem` keeps the journal law. -/
theorem JournalKept.refuseItem {i st r e j} (h : JournalKept b s) : JournalKept b (refuseItem i st r e j s) := by
  unfold Machine.refuseItem
  split
  · exact h.returnClaim.answerOwner
  · exact h.sendLink
  · exact h.sendLink

/-- `queueAppend` keeps the journal law. -/
theorem JournalKept.queueAppend (h : JournalKept b s) : JournalKept b (Machine.queueAppend s) := by
  unfold Machine.queueAppend
  split
  · rename_i hm
    obtain ⟨hm1,hm2,hm3,hm4⟩ := mayAppend_iff.1 hm
    obtain ⟨h1,h2,h3,h4,h5,h6⟩ := h
    simp [hm2, List.count_eq_zero] at h3
    refine ⟨h1,h2,?_,?_,?_,?_⟩
    · simp [List.count_append, List.count_eq_zero.2 h3]
    · exact fun _ => hm3
    · intro c hc; simp at hc; exact h5 c hc
    · intro hb o ho
      obtain ⟨a1,a2⟩ := h6 hb o ho
      refine ⟨a1, fun c hc => ?_⟩
      have := a2 c hc
      simp [hm2] at this
  · exact h

/-- The port's next access: a law that held without the access in service holds with it (R112, R116, R117). -/
theorem JournalKept.portLoop (fuel : Nat) {s} (h : JournalKept false s) : JournalKept true (Machine.portLoop fuel s) := by
  induction fuel generalizing s with
  | zero => obtain ⟨h1,h2,h3,h4,h5,h6⟩ := h; exact ⟨h1,h2,h3,h4,h5,by simp [Machine.portLoop]⟩
  | succ fuel ih =>
    simp only [Machine.portLoop]
    have hq := h.queueAppend
    generalize Machine.queueAppend s = u at hq ⊢
    obtain ⟨h1,h2,h3,h4,h5,h6⟩ := hq
    split
    · exact ⟨h1,h2,h3,h4,h5,by simp⟩
    · rename_i op rest hpick
      have hperm := pickNext_perm hpick
      have hmem : ∀ x, x ∈ rest → x ∈ u.jc.waiting := fun x hx => hperm.mem_iff.2 (List.mem_cons_of_mem _ hx)
      have hop : op ∈ u.jc.waiting := hperm.mem_iff.2 List.mem_cons_self
      have hcount : rest.count .append ≤ u.jc.waiting.count .append := by
        rw [hperm.count_eq]; simp [List.count_cons]
      split
      · -- append
        have hc1 : rest.count .append + 1 = u.jc.waiting.count .append := by rw [hperm.count_eq]; simp
        have h4' := h4 hop
        have hiss : u.jc.appendIssued = true := by
          by_contra hne; simp [hne] at h3; omega
        simp [hiss] at h3
        have hc0 : rest.count .append = 0 := by omega
        have hn : PortOp.append ∉ rest := List.count_eq_zero.1 hc0
        split
        · exact ih ⟨h1,h2,by simp [hc0], fun hx => absurd hx hn, fun b hb => h5 b (hmem _ hb), by simp⟩
        · split
          · rename_i item items hqq htest
            refine ⟨h1,h2,by simp [hc0], fun hx => absurd hx hn, fun b hb => h5 b (hmem _ hb), ?_⟩
            intro _ o ho
            simp at ho; subst ho
            refine ⟨by simp, fun c hc => ⟨hiss, hn, h4', ?_⟩⟩
            exact (appendTest_room htest).2
          · exact ih (JournalKept.refuseItem ⟨h1,h2,by simp [hc0], fun hx => absurd hx hn, fun b hb => h5 b (hmem _ hb), by simp⟩)
      · rename_i hna
        refine ⟨h1,h2,le_trans hcount h3,fun hx => h4 (hmem _ hx),fun b hb => h5 b (hmem _ hb), ?_⟩
        intro _ o ho
        simp at ho; subst ho
        exact ⟨hna, fun c hc => absurd (hc ▸ hop) (h5 c)⟩

/-- The port's next access (R112). -/
theorem JournalKept.portNext {n} (h : JournalKept false s) : JournalKept true (Machine.portNext n s) := JournalKept.portLoop _ h

/-- With the access in service the law is the stronger one. -/
theorem JournalKept.any (h : JournalKept true s) : JournalKept b s := by cases b; exact h.weak; exact h

/-- `issueDue` keeps the journal law. -/
theorem JournalKept.issueDue (h : JournalKept b s) : JournalKept b (issueDue s) := by
  unfold Machine.issueDue
  repeat' split
  · exact h.weak.portNext.any
  · exact h.queueAppend
  · exact h

/-- `joinAppend` keeps the journal law. -/
theorem JournalKept.joinAppend {i} (h : JournalKept b s) : JournalKept b (joinAppend i s) := by
  unfold Machine.joinAppend; split
  · exact h.refuseItem
  · exact JournalKept.issueDue h

/-- `issueTotals` keeps the journal law. -/
theorem JournalKept.issueTotals {j} (h : JournalKept b s) : JournalKept b (issueTotals j s) := by
  unfold Machine.issueTotals; exact JournalKept.issue (show JournalKept b _ from h) ⟨by simp, by simp⟩

/-- `requestTotals` keeps the journal law. -/
theorem JournalKept.requestTotals {j} (h : JournalKept b s) : JournalKept b (requestTotals j s) := by
  unfold Machine.requestTotals; split
  · exact h.issueTotals
  · exact h

/-- `nextTotals` keeps the journal law. -/
theorem JournalKept.nextTotals (h : JournalKept b s) : JournalKept b (nextTotals s) := by
  unfold Machine.nextTotals; split
  · exact h
  · exact JournalKept.issueTotals h

/-- `runAdvice` keeps the journal law. -/
theorem JournalKept.runAdvice {l} (h : JournalKept b s) : JournalKept b (runAdvice l s) := by
  induction l generalizing s with
  | nil => exact h
  | cons c rest ih =>
    obtain ⟨t, n⟩ := c
    simp only [Machine.runAdvice]
    split
    · exact ih h.sendLink
    · split
      · exact JournalKept.issue h ⟨by simp, by simp⟩
      · exact ih h.sendLink

/-- `answerAdvice` keeps the journal law. -/
theorem JournalKept.answerAdvice {t r} (h : JournalKept b s) : JournalKept b (answerAdvice t r s) := JournalKept.runAdvice h.sendLink

/-- `dropJob` keeps the journal law. -/
theorem JournalKept.dropJob {j} (h : JournalKept b s) : JournalKept b (dropJob s j) := by
  unfold Machine.dropJob; split
  all_goals first | exact h | exact JournalKept.sendLink h | exact h.answerAdvice

/-- A fold keeps the law when each of its steps does. -/
theorem JournalKept.foldl {α} {f : State → α → State} (hf : ∀ s a, JournalKept b s → JournalKept b (f s a)) (l : List α) (h : JournalKept b s) : JournalKept b (l.foldl f s) := by
  induction l generalizing s with
  | nil => exact h
  | cons a l ih => exact ih (hf _ _ h)

/-- `dropDue` keeps the journal law. -/
theorem JournalKept.dropDue (h : JournalKept b s) : JournalKept b (dropDue s) := by
  unfold Machine.dropDue; exact JournalKept.foldl (fun s a h => h.dropJob) _ (show JournalKept b _ from h)

/-- `refuseUnissued` keeps the journal law. -/
theorem JournalKept.refuseUnissued (h : JournalKept b s) : JournalKept b (refuseUnissued s) := by
  unfold Machine.refuseUnissued; exact JournalKept.foldl (fun s a h => h.refuseItem) _ (show JournalKept b _ from h)

/-- `raise` keeps the journal law. -/
theorem JournalKept.raise {f} (h : JournalKept b s) : JournalKept b (raise f s) := h

/-- `abortSweep` keeps the journal law. -/
theorem JournalKept.abortSweep (h : JournalKept b s) : JournalKept b (abortSweep s) := by
  unfold Machine.abortSweep; split <;> exact h

/-- `enterFault` keeps the journal law. -/
theorem JournalKept.enterFault {r j} (h : JournalKept b s) : JournalKept b (enterFault r j s) := by
  unfold Machine.enterFault; dsimp only; split
  · exact h
  · refine JournalKept.dropDue (JournalKept.refuseUnissued (JournalKept.abortSweep ?_)); exact h

/-- A completion keeps the law when its event does, whatever the access in service was. -/
theorem JournalKept.complete {w} (h : JournalKept false (w s)) : JournalKept true (complete w s) := h.portNext

end Sys2Proof.Machine
end

