-- ==== Sys2Proof/Laws/Tables.lean ====
section
/-! SUPPORT. What a table gives back after a write: the entry written, every other entry as before, for the lines, the stations,
the card locks and the admission table. -/

set_option Elab.async false

namespace Sys2Proof.Machine
open Sys2Proof

section Entries
variable {α : Type} {n : Nat} {v : Vector α n} {i j : Nat} {x d : α}

/-- The entry written is read back. -/
@[simp] theorem vget_vset_same (h : i < n) : vget (vset v i x) i d = x := by
  simp [vget, vset, h]

/-- Every other entry reads as before. -/
theorem vget_vset_ne (h : i ≠ j) : vget (vset v i x) j d = vget v j d := by
  simp [vget, vset, h]

/-- No entry stands outside the table. -/
theorem vget_outside (h : n ≤ i) : vget v i d = d := by simp [vget, h]

/-- A write outside the table changes nothing. -/
theorem vset_outside (h : n ≤ i) : vset v i x = v := by
  simp only [vset]; ext k hk; rw [Vector.getElem_setIfInBounds]; split <;> [omega; rfl]

/-- An entry of a table that is changed throughout. -/
theorem vget_map {β : Type} {f : α → β} {e : β} (h : i < n) : vget (v.map f) i e = f (vget v i d) := by
  simp [vget, h]

end Entries

section Parts
variable {s : State} {n m e f k l : Nat}

@[simp] theorem setLine_line_same {x : Line} (h : n < 4) : (s.setLine n x).line n = x := vget_vset_same h
theorem setLine_line_ne {x : Line} (h : n ≠ m) : (s.setLine n x).line m = s.line m := vget_vset_ne h

/-- A station entry written is read back (R143). -/
@[simp] theorem setStation_station_same {x : Station} (h : n < 4) (h' : e < 48) : (s.setStation n e x).station n e = x := by
  simp [State.station, State.setStation, h, h']

/-- A write of one entry leaves the other entries of every line. -/
theorem setStation_station_ne {x : Station} (h : (n, e) ≠ (m, f)) : (s.setStation n e x).station m f = s.station m f := by
  by_cases hn : n = m
  · subst hn
    have he : e ≠ f := fun he => h (by rw [he])
    by_cases h4 : n < 4
    · simp [State.station, State.setStation, h4, vget_vset_ne he]
    · simp [State.setStation, State.setLine, vset_outside (Nat.le_of_not_lt h4)]
  · simp [State.station, State.setStation, setLine_line_ne hn]

/-- A write of a station entry leaves every line as it is but for its station table. -/
theorem setStation_line {x : Station} : ∃ v, (s.setStation n e x).line m = { s.line m with stations := v } := by
  by_cases hn : n = m
  · subst hn
    by_cases h4 : n < 4
    · exact ⟨_, by rw [State.setStation, setLine_line_same h4]⟩
    · exact ⟨(s.line n).stations, by simp [State.setStation, State.setLine, vset_outside (Nat.le_of_not_lt h4)]⟩
  · exact ⟨(s.line m).stations, by simp [State.setStation, setLine_line_ne hn]⟩

/-- A station outside the tables is the reset entry. -/
theorem station_outside (h : ¬(n < 4 ∧ e < 48)) : s.station n e = stationReset := by
  by_cases hn : n < 4
  · exact vget_outside (by omega)
  · have : s.line n = lineReset := vget_outside (by omega)
    rw [State.station, this]; simp only [lineReset, vget, Vector.getElem?_replicate]; split <;> rfl

@[simp] theorem setLock_lock_same {x : Option LockSlot} (h : k < 16) : (s.setLock k x).lock k = x := vget_vset_same h
theorem setLock_lock_ne {x : Option LockSlot} (h : k ≠ l) : (s.setLock k x).lock l = s.lock l := vget_vset_ne h

/-- A lock that is held stands in the table (R20). -/
theorem lock_inside {x : LockSlot} (h : s.lock k = some x) : k < 16 := by
  by_contra hk
  rw [State.lock, vget_outside (by omega)] at h
  cases h

/-- The admission entry written is read back, and every other merchant's stays (R78). -/
@[simp] theorem setAdmission_admission_same {a : Admission} (h : 1 ≤ m) (h' : m ≤ 240) : (s.setAdmission m a).admission m = a := by
  simp only [State.admission, State.setAdmission, show m ≠ 0 by omega, if_false]
  exact vget_vset_same (by omega)
theorem setAdmission_admission_ne {a : Admission} (h : 1 ≤ m) (h' : k ≠ m) : (s.setAdmission m a).admission k = s.admission k := by
  simp only [State.admission, State.setAdmission]
  split
  · rfl
  · exact vget_vset_ne (by omega)

end Parts

end Sys2Proof.Machine
end

