-- ==== Sys2Proof/Laws/Stations.lean ====
section
/-! SUPPORT. The station law of R143 over the operations and the events that meet it: the locks and their tickets, replies to
stations, the append queue, the port, and the ends of offers. -/

set_option Elab.async false

namespace Sys2Proof.Machine
open Sys2Proof Sys2Proof.Safety

/-- The tickets out while an event is under way: `X` holds those it has taken out of the queue, and the access in service
is counted only where `b` says so. -/
def ticketsWith (b : Bool) (X : List Ticket) (s : State) : List Ticket :=
  X ++ ((if b then s.jc.serving.toList else []).filterMap accessTicket ++ s.jc.waiting.filterMap accessTicket)
    ++ s.jc.appendQueue.filterMap recordTicket

/-- The station law while an event is under way: with the tickets of `ticketsWith`, and with the line `ending`, whose offer is
coming to its end, excused from holding a reply while it delivers. -/
structure StationsKept (b : Bool) (X : List Ticket) (ending : Option Nat) (s : State) : Prop where
  nodup : ((ticketsWith b X s).map Prod.fst).Nodup
  fits : ∀ t ∈ ticketsWith b X s, TicketFits s t
  own : ∀ k l, s.lock k = some l → (askers l).Nodup
  flag : ∀ k l, s.lock k = some l → ∀ p ∈ askers l, (s.station p.1 p.2).outstanding = true ∧ (s.station p.1 p.2).held = none
  apart : ∀ k k' l l', k ≠ k' → s.lock k = some l → s.lock k' = some l' → ∀ p ∈ askers l, p ∉ askers l'
  kept : ∀ n e, (s.station n e).held ≠ none → (s.station n e).outstanding = true
  busy : b = true ∨ s.jc.serving ≠ none
  offer : ∀ n e, (s.line n).offered = some e → e < 48 ∧ (ending ≠ some n → (s.line n).state = .delivering → (s.line n).dropAnswer = false → (s.station n e).held ≠ none)

section Kept
variable {b : Bool} {X : List Ticket} {ending : Option Nat} {s : State}

/-- The law looks at five fields. -/
theorem StationsKept.congr {t : State} (h : StationsKept b X ending s) (h1 : t.jc.serving = s.jc.serving) (h2 : t.jc.waiting = s.jc.waiting)
    (h3 : t.jc.appendQueue = s.jc.appendQueue) (h4 : t.ce.locks = s.ce.locks) (h5 : t.lines = s.lines) : StationsKept b X ending t := by
  have a : ∀ k, t.lock k = s.lock k := fun k => by simp [State.lock, h4]
  have c : ∀ k, t.line k = s.line k := fun k => by simp [State.line, h5]
  have d : ∀ n e, t.station n e = s.station n e := fun n e => by simp [State.station, c]
  have e : ticketsWith b X t = ticketsWith b X s := by simp [ticketsWith, h1, h2, h3]
  obtain ⟨n1,n2,n3,n4,n5,n6,n8,n7⟩ := h
  constructor <;> simp only [a,c,d,e,TicketFits,h1] <;> assumption

/-- With the access in service and nothing under way it is the law itself. -/
theorem stationsKept_iff (s : State) : StationsKept true [] none s ↔ StationsOk s := by
  have e : ticketsWith true [] s = tickets s := by simp [ticketsWith, tickets, List.filterMap_append]
  constructor
  · rintro ⟨n1, n2, n3, n4, n5, n6, -, n7⟩
    rw [e] at n1 n2
    exact ⟨n1, n2, fun k l h => ⟨n3 k l h, n4 k l h⟩, n5, n6, fun n f h => ⟨(n7 n f h).1, (n7 n f h).2 (by simp)⟩⟩
  · rintro ⟨n1, n2, n3, n5, n6, n7⟩
    exact ⟨by rwa [e], by rwa [e], fun k l h => (n3 k l h).1, fun k l h => (n3 k l h).2, n5, n6, Or.inl rfl,
      fun n f h => ⟨(n7 n f h).1, fun _ => (n7 n f h).2⟩⟩

/-- Fewer tickets keep the law. -/
theorem StationsKept.sub {b' X'} {t : State} (h : StationsKept b X ending s) (hl : t.ce.locks = s.ce.locks) (h5 : t.lines = s.lines)
    (hsub : ∃ r, List.Perm (ticketsWith b X s) (r ++ ticketsWith b' X' t)) (hbusy : b' = true ∨ t.jc.serving ≠ none) : StationsKept b' X' ending t := by
  have a : ∀ k, t.lock k = s.lock k := fun k => by simp [State.lock, hl]
  have c : ∀ k, t.line k = s.line k := fun k => by simp [State.line, h5]
  have d : ∀ n e, t.station n e = s.station n e := fun n e => by simp [State.station, c]
  obtain ⟨r, hp⟩ := hsub
  obtain ⟨n1,n2,n3,n4,n5,n6,n8,n7⟩ := h
  constructor
  · have := (hp.map Prod.fst).nodup_iff.1 n1
    rw [List.map_append] at this; exact (List.nodup_append.1 this).2.1
  · intro t' ht
    obtain ⟨l, hl, hf⟩ := n2 t' (hp.mem_iff.2 (List.mem_append_right _ ht))
    exact ⟨l, by rw [a]; exact hl, hf⟩
  · simpa only [a] using n3
  · simpa only [a,d] using n4
  · simpa only [a] using n5
  · simpa only [d] using n6
  · exact hbusy
  · simpa only [c,d] using n7

/-- The access in service may be left out. -/
theorem StationsKept.weak (h : StationsKept b X ending s) (hs : s.jc.serving ≠ none) : StationsKept false X ending s := by
  refine h.sub rfl rfl ⟨(if b then s.jc.serving.toList else []).filterMap accessTicket, ?_⟩ (Or.inr hs)
  simp only [ticketsWith, Bool.false_eq_true, if_false, List.filterMap_nil, List.nil_append]
  rw [← List.append_assoc, ← List.append_assoc, ← List.append_assoc]
  refine List.Perm.append_right _ (List.Perm.append_right _ ?_)
  exact List.perm_append_comm

/-- An access without a ticket, issued, keeps the law. -/
theorem StationsKept.issue {op} (h : StationsKept b X ending s) (hp : accessTicket op = none) : StationsKept b X ending (issue op s) := by
  refine h.sub (by simp) (by simp) ⟨[], ?_⟩ (h.busy.imp id fun hb => by unfold Machine.issue; split <;> simp_all)
  have : ticketsWith b X (Machine.issue op s) = ticketsWith b X s := by
    unfold Machine.issue; split
    · rename_i hs; cases b <;> simp [ticketsWith, hs, hp]
    · simp [ticketsWith, List.filterMap_append, hp]
  rw [this]; simp

/-- An access with a ticket, issued, brings its ticket. -/
theorem ticketsWith_issue {op t} (hp : accessTicket op = some t) (hb : b = true ∨ s.jc.serving ≠ none) :
    List.Perm (ticketsWith b X (issue op s)) (t :: ticketsWith b X s) := by
  unfold Machine.issue; split
  · rename_i hs
    have : b = true := by simpa [hs] using hb
    subst this
    simp only [ticketsWith, hs]
    simp only [if_true, Option.toList, List.filterMap_nil, List.nil_append, List.filterMap_cons, hp]
    simp only [List.append_assoc, List.singleton_append]
    exact List.perm_middle
  · simp only [ticketsWith, List.filterMap_append, List.filterMap_cons, hp, List.filterMap_nil]
    generalize s.jc.waiting.filterMap accessTicket = W
    generalize s.jc.appendQueue.filterMap recordTicket = Q
    generalize (if b then s.jc.serving.toList else []).filterMap accessTicket = S
    have : X ++ (S ++ (W ++ [t])) ++ Q = (X ++ S ++ W) ++ t :: Q := by simp
    rw [this]
    refine List.perm_middle.trans (List.Perm.cons _ ?_)
    simp

/-- The lines may change as long as they keep the clauses about them. -/
theorem StationsKept.setLines {t : State} (h : StationsKept b X ending s) (h1 : t.jc.serving = s.jc.serving) (h2 : t.jc.waiting = s.jc.waiting)
    (h3 : t.jc.appendQueue = s.jc.appendQueue) (h4 : t.ce.locks = s.ce.locks)
    (hin : ∀ k l, s.lock k = some l → ∀ p ∈ askers l, (t.station p.1 p.2).outstanding = true ∧ (t.station p.1 p.2).held = none)
    (kept : ∀ n e, (t.station n e).held ≠ none → (t.station n e).outstanding = true)
    {ending' : Option Nat}
    (offer : ∀ n e, (t.line n).offered = some e → e < 48 ∧ (ending' ≠ some n → (t.line n).state = .delivering → (t.line n).dropAnswer = false → (t.station n e).held ≠ none)) :
    StationsKept b X ending' t := by
  have a : ∀ k, t.lock k = s.lock k := fun k => by simp [State.lock, h4]
  have e : ticketsWith b X t = ticketsWith b X s := by simp [ticketsWith, h1, h2, h3]
  obtain ⟨n1,n2,n3,n4,n5,n6,n8,n7⟩ := h
  constructor
  · rw [e]; exact n1
  · rw [e]; intro x hx; simpa only [TicketFits, a] using n2 x hx
  · simpa only [a] using n3
  · simpa only [a] using hin
  · simpa only [a] using n5
  · exact kept
  · rw [h1]; exact n8
  · exact offer

/-- A write of one station entry that is safe for every request inside keeps the law. -/
theorem StationsKept.station {n e x} (h : StationsKept b X ending s) (hx : x.held ≠ none → x.outstanding = true)
    (hin : ∀ k l, s.lock k = some l → (n, e) ∈ askers l → x.outstanding = true ∧ x.held = none)
    (ho : ending ≠ some n → (s.line n).offered = some e → (s.line n).state = .delivering → (s.line n).dropAnswer = false → x.held ≠ none) :
    StationsKept b X ending (s.setStation n e x) := by
  refine h.setLines (t := s.setStation n e x) (ending' := ending) rfl rfl rfl rfl ?_ ?_ ?_
  · intro k l hk p hp
    by_cases hpe : p = (n, e)
    · subst hpe
      by_cases hr : n < 4 ∧ e < 48
      · simp only [setStation_station_same hr.1 hr.2]; exact hin k l hk hp
      · exact absurd (h.flag k l hk _ hp).1 (by rw [station_outside hr]; simp [stationReset])
    · rw [setStation_station_ne (fun hh => hpe hh.symm)]; exact h.flag k l hk p hp
  · intro m f
    by_cases hpe : (n, e) = (m, f)
    · cases hpe
      by_cases hr : n < 4 ∧ e < 48
      · rw [setStation_station_same hr.1 hr.2]; exact hx
      · rw [station_outside hr]; simp [stationReset]
    · rw [setStation_station_ne hpe]; exact h.kept m f
  · intro m f
    obtain ⟨v, hv⟩ := setStation_line (s := s) (n := n) (e := e) (x := x) (m := m)
    rw [hv]
    intro hf
    obtain ⟨g1, g2⟩ := h.offer m f hf
    refine ⟨g1, fun hex hd hdrop => ?_⟩
    by_cases hpe : (n, e) = (m, f)
    · cases hpe
      by_cases hr : n < 4 ∧ e < 48
      · rw [setStation_station_same hr.1 hr.2]; exact ho hex hf hd hdrop
      · have := g2 hex hd hdrop; rw [station_outside hr] at this; simp [stationReset] at this
    · rw [setStation_station_ne hpe]; exact g2 hex hd hdrop

/-- A reply to a station with no request inside is held under its set flag, or discarded with it (R152). -/
theorem StationsKept.outside {n e r} (h : StationsKept b X ending s) (hno : ∀ k l, s.lock k = some l → (n, e) ∉ askers l)
    (ho : (s.station n e).outstanding = true)
    (hd : ending ≠ some n → (s.line n).offered = some e → (s.line n).state = .delivering → (s.line n).dropAnswer = false → False) :
    StationsKept b X ending (sendStation n e r s) := by
  have disc : StationsKept b X ending (discardReply n e r s) := by
    unfold discardReply
    refine StationsKept.congr (s := s.setStation n e { s.station n e with held := none, outstanding := false }) ?_ rfl rfl rfl rfl rfl
    exact h.station (by simp) (fun k l hk hm => absurd hm (hno k l hk)) (fun a1 a2 a3 a4 => (hd a1 a2 a3 a4).elim)
  unfold sendStation
  split
  · exact disc
  · exact disc
  · exact h.station (by simp [ho]) (fun k l hk hm => absurd hm (hno k l hk)) (fun a1 a2 a3 a4 => (hd a1 a2 a3 a4).elim)

/-- One lock changes, with tickets that fit it. -/
theorem StationsKept.lock {t : State} {k x} {b' X'} (h : StationsKept b X ending s) (h4 : ∀ j, t.lock j = if j = k then x else s.lock j)
    (h5 : t.lines = s.lines)
    (hnd : ((ticketsWith b' X' t).map Prod.fst).Nodup)
    (hfit : ∀ u ∈ ticketsWith b' X' t, (u.1 ≠ k ∧ u ∈ ticketsWith b X s) ∨ TicketFits t u)
    (hbusy : b' = true ∨ t.jc.serving ≠ none)
    (hx : ∀ l, x = some l → (askers l).Nodup ∧ (∀ p ∈ askers l, (s.station p.1 p.2).outstanding = true ∧ (s.station p.1 p.2).held = none)
      ∧ ∀ j l', j ≠ k → s.lock j = some l' → ∀ p ∈ askers l, p ∉ askers l') : StationsKept b' X' ending t := by
  have c : ∀ k, t.line k = s.line k := fun k => by simp [State.line, h5]
  have d : ∀ n e, t.station n e = s.station n e := fun n e => by simp [State.station, c]
  obtain ⟨n1,n2,n3,n4,n5,n6,n8,n7⟩ := h
  constructor
  · exact hnd
  · intro u hu
    rcases hfit u hu with ⟨hne, hm⟩ | hf
    · obtain ⟨l, hl, hd⟩ := n2 u hm
      exact ⟨l, by rw [h4, if_neg hne]; exact hl, hd⟩
    · exact hf
  · intro j l hj
    rw [h4] at hj
    split at hj
    · exact (hx l hj).1
    · exact n3 j l hj
  · intro j l hj
    rw [h4] at hj
    simp only [d]
    split at hj
    · exact (hx l hj).2.1
    · exact n4 j l hj
  · intro j j' l l' hne hj hj' p hp
    rw [h4] at hj hj'
    split at hj
    · rename_i e1
      split at hj'
      · rename_i e2; exact absurd (e1.trans e2.symm) hne
      · rename_i e2; exact (hx l hj).2.2 j' l' e2 hj' p hp
    · split at hj'
      · rename_i e1 e2; intro hp'; exact (hx l' hj').2.2 j l e1 hj p hp' hp
      · exact n5 j j' l l' hne hj hj' p hp
  · simpa only [d] using n6
  · exact hbusy
  · simpa only [c, d] using n7

/-- The locks after a write of one. -/
theorem lock_setLock {k x j} (hk : k < 16) : (s.setLock k x).lock j = if j = k then x else s.lock j := by
  split
  · rename_i e; subst e; exact setLock_lock_same hk
  · rename_i e; exact setLock_lock_ne (fun h => e h.symm)

/-- A free lock has no ticket out. -/
theorem noTicket_free (h : StationsKept b X ending s) {k} (hk : s.lock k = none) : k ∉ (ticketsWith b X s).map Prod.fst := by
  intro hm
  obtain ⟨t, ht, rfl⟩ := List.mem_map.1 hm
  obtain ⟨l, hl, _⟩ := h.fits t ht
  rw [hk] at hl; cases hl

/-- `grantLock` keeps the station law. -/
theorem StationsKept.grantLock {k req ws} (h : StationsKept b X ending s) (hk : k < 16)
    (hn : k ∉ (ticketsWith b X s).map Prod.fst)
    (hx : (askers { card := req.card, owner := req, waiters := ws, doing := .reading }).Nodup ∧
      (∀ p ∈ askers { card := req.card, owner := req, waiters := ws, doing := .reading }, (s.station p.1 p.2).outstanding = true ∧ (s.station p.1 p.2).held = none)
      ∧ ∀ j l', j ≠ k → s.lock j = some l' → ∀ p ∈ askers { card := req.card, owner := req, waiters := ws, doing := .reading }, p ∉ askers l') :
    StationsKept b X ending (grantLock k req ws s) := by
  unfold Machine.grantLock
  have hp := ticketsWith_issue (b := b) (X := X) (s := s.setLock k (some { card := req.card, owner := req, waiters := ws, doing := .reading })) (op := .cardRead k req.slot) rfl h.busy
  have e : ticketsWith b X (s.setLock k (some { card := req.card, owner := req, waiters := ws, doing := .reading })) = ticketsWith b X s := rfl
  have hl : ∀ j, (Machine.issue (.cardRead k req.slot) (s.setLock k (some { card := req.card, owner := req, waiters := ws, doing := .reading }))).lock j = if j = k then some { card := req.card, owner := req, waiters := ws, doing := .reading } else s.lock j := by
    intro j; rw [← lock_setLock hk]; simp [State.lock]
  refine h.lock hl (by simp) ?_ ?_ (h.busy.imp id fun hb => by unfold Machine.issue; split <;> simp_all) ?_
  · rw [(hp.map Prod.fst).nodup_iff, e]; exact List.nodup_cons.2 ⟨hn, h.nodup⟩
  · intro u hu
    rcases List.mem_cons.1 (hp.mem_iff.1 hu) with rfl | hm
    · right; exact ⟨_, by rw [hl, if_pos rfl], rfl⟩
    · left; exact ⟨fun hk' => hn (List.mem_map.2 ⟨u, hm, hk'⟩), hm⟩
  · intro l hl'; cases hl'; exact hx

/-- `freeLock` keeps the station law. -/
theorem StationsKept.freeLock {k} (h : StationsKept b X ending s) (hk : k < 16) (hn : k ∉ (ticketsWith b X s).map Prod.fst) : StationsKept b X ending (s.setLock k none) := by
  refine h.lock (fun j => lock_setLock hk) rfl h.nodup (fun u hu => Or.inl ⟨fun hk' => hn (List.mem_map.2 ⟨u, hu, hk'⟩), hu⟩) h.busy (by simp)

/-- `releaseLock` keeps the station law. -/
theorem StationsKept.releaseLock {k} (h : StationsKept b X ending s) (hn : k ∉ (ticketsWith b X s).map Prod.fst) :
    StationsKept b X ending (releaseLock k s) := by
  unfold Machine.releaseLock
  split
  · rename_i l hl
    have hk := lock_inside hl
    split
    · exact h.freeLock hk hn
    · rename_i w ws hw
      have hs : List.Sublist (askers { card := w.card, owner := w, waiters := ws, doing := .reading }) (askers l) := by
        unfold askers; rw [hw]; exact (List.sublist_cons_self _ _).filterMap _
      refine h.grantLock hk hn ⟨(h.own k l hl).sublist hs, fun p hp => h.flag k l hl p (hs.subset hp), ?_⟩
      intro j l' hj hl' p hp
      exact h.apart k j l l' (Ne.symm hj) hl hl' p (hs.subset hp)
  · exact h

/-- The owner whose lock is released is inside no more. -/
theorem StationsKept.released {k l p} (h : StationsKept b X ending s) (hl : s.lock k = some l) (hp : asker l.owner = some p) :
    ∀ j m, (Machine.releaseLock k s).lock j = some m → p ∉ askers m := by
  have hk := lock_inside hl
  have hpl : p ∈ askers l := by unfold askers; simp [hp]
  have hnd := h.own k l hl
  have hpw : p ∉ l.waiters.filterMap asker := by
    unfold askers at hnd; rw [List.filterMap_cons, hp] at hnd; exact (List.nodup_cons.1 hnd).1
  intro j m hm
  have hcase : ∀ x, (Machine.releaseLock k s).ce.locks = (s.setLock k x).ce.locks → (∀ l', x = some l' → p ∉ askers l') → p ∉ askers m := by
    intro x hx hxl
    have : (Machine.releaseLock k s).lock j = if j = k then x else s.lock j := by
      rw [← lock_setLock hk]; simp only [State.lock, hx]
    rw [this] at hm
    split at hm
    · exact hxl m hm
    · rename_i hne; exact h.apart k j l m (Ne.symm hne) hl hm p hpl
  unfold Machine.releaseLock at hcase
  rw [hl] at hcase
  dsimp only at hcase
  split at hcase
  · exact hcase none rfl (by simp)
  · rename_i w ws hw
    refine hcase (some { card := w.card, owner := w, waiters := ws, doing := .reading }) (by simp [Machine.grantLock]) ?_
    intro l' hl'; cases hl'
    unfold askers; rw [← hw]; exact hpw

/-- What a reply does to the lines depends on the lines alone. -/
theorem sendStation_lines {n e r} {t : State} (h : t.lines = s.lines) : (sendStation n e r t).lines = (sendStation n e r s).lines := by
  have : t.station n e = s.station n e := by simp [State.station, State.line, h]
  unfold sendStation; rw [this]; split <;> simp [discardReply, raiseReplyDiscarded, raise, State.setStation, State.setLine, State.station, State.line, h]

/-- An owner with no ticket out is answered (R23, R24, R152). -/
theorem StationsKept.answerOwner {k l req r} (h : StationsKept b X ending s) (hl : s.lock k = some l)
    (ho : l.owner = req) (hn : k ∉ (ticketsWith b X s).map Prod.fst) : StationsKept b X ending (answerOwner k req r s) := by
  subst ho
  have h1 := h.releaseLock hn
  have h2 := fun p hp => h.released (p := p) hl hp
  unfold Machine.answerOwner
  have hj : ∀ (t : State), t.jc = s.jc → t.ce = s.ce → (Machine.releaseLock k t).jc.serving = (Machine.releaseLock k s).jc.serving ∧ (Machine.releaseLock k t).jc.waiting = (Machine.releaseLock k s).jc.waiting ∧ (Machine.releaseLock k t).jc.appendQueue = (Machine.releaseLock k s).jc.appendQueue ∧ (Machine.releaseLock k t).ce.locks = (Machine.releaseLock k s).ce.locks := by
    intro t e1 e2
    have : t.lock k = s.lock k := by simp [State.lock, e2]
    unfold Machine.releaseLock; rw [this]
    split
    · split
      · simp [e1, State.setLock, e2]
      · simp only [Machine.grantLock, Machine.issue]
        simp only [State.setLock, e1, e2]
        split <;> simp [e1, e2]
    · simp [e1, e2]
  cases horg : l.owner.origin with
  | link tag =>
    simp only [sendReply]
    obtain ⟨a1,a2,a3,a4⟩ := hj (sendLink tag r s) (by simp) (by simp)
    exact h1.congr a1 a2 a3 a4 (by simp)
  | station n e =>
    have hp : asker l.owner = some (n, e) := by simp [asker, horg]
    have hfl := h.flag k l hl (n, e) (by unfold askers; simp [hp])
    simp only [sendReply]
    obtain ⟨a1,a2,a3,a4⟩ := hj (sendStation n e r s) (by simp) (by simp)
    have hst : (Machine.releaseLock k s).station n e = s.station n e := by simp [State.station, State.line]
    have hln : (Machine.releaseLock k s).line n = s.line n := by simp [State.line]
    have h3 := h1.outside (n := n) (e := e) (r := r) (h2 _ hp) (by rw [hst]; exact hfl.1)
      (fun a1 a2 a3 a4 => by rw [hln] at a2 a3 a4; exact (h.offer n e a2).2 a1 a3 a4 hfl.2)
    refine h3.congr (by simp [a1]) (by simp [a2]) (by simp) (by simp [a4]) ?_
    rw [releaseLock_lines]
    exact (sendStation_lines (by simp)).symm

/-- `pushFrame` keeps the station law. -/
theorem StationsKept.pushFrame {f} (h : StationsKept b X ending s) : StationsKept b X ending (pushFrame f s) := h.congr (by simp) (by simp) (by simp) (by simp) (by simp)

/-- `sendLink` keeps the station law. -/
theorem StationsKept.sendLink {t r} (h : StationsKept b X ending s) : StationsKept b X ending (sendLink t r s) := StationsKept.pushFrame h

/-- `sendUntagged` keeps the station law. -/
theorem StationsKept.sendUntagged {k t r} (h : StationsKept b X ending s) : StationsKept b X ending (sendUntagged k t r s) := h.congr (by simp) (by simp) (by simp) (by simp) (by simp)

/-- `raise` keeps the station law. -/
theorem StationsKept.raise {f} (h : StationsKept b X ending s) : StationsKept b X ending (raise f s) := h.congr rfl rfl rfl rfl rfl

/-- The owner's place changes while it has no ticket out. -/
theorem StationsKept.setDoing {k d} (h : StationsKept b X ending s) (hn : k ∉ (ticketsWith b X s).map Prod.fst) : StationsKept b X ending (setDoing k d s) := by
  unfold Machine.setDoing
  split
  · rename_i l hl
    have hk := lock_inside hl
    refine h.lock (fun j => lock_setLock hk) rfl h.nodup (fun u hu => Or.inl ⟨fun hk' => hn (List.mem_map.2 ⟨u, hu, hk'⟩), hu⟩) h.busy ?_
    intro l' hl'; cases hl'
    exact ⟨h.own k l hl, h.flag k l hl, fun j m hj hm => h.apart k j l m (Ne.symm hj) hl hm⟩
  · exact h

/-- A request may come in: its station's flag is set, with no held reply and no other request inside (R151). -/
def MayEnter (s : State) (req : CardReq) : Prop :=
  ∀ p, asker req = some p → (s.station p.1 p.2).outstanding = true ∧ (s.station p.1 p.2).held = none
    ∧ (∀ k l, s.lock k = some l → p ∉ askers l)

/-- A request that may come in may be answered instead. -/
theorem StationsKept.reply {o r} {req : CardReq} (h : StationsKept b X ending s) (hr : req.origin = o) (hm : MayEnter s req)
    (hd : ∀ n e, o = .station n e → ending ≠ some n → (s.line n).offered = some e → (s.line n).state = .delivering → (s.line n).dropAnswer = false → False) :
    StationsKept b X ending (sendReply o r s) := by
  cases o with
  | link t => exact h.sendLink
  | station n e =>
    have hp : asker req = some (n, e) := by simp [asker, hr]
    obtain ⟨a1, a2, a3⟩ := hm _ hp
    exact h.outside a3 a1 (hd n e rfl)

/-- `seekLock` keeps the station law. -/
theorem StationsKept.seekLock {req} (h : StationsKept b X ending s) (hm : MayEnter s req) : StationsKept b X ending (seekLock req s) := by
  have hd : ∀ n e, req.origin = .station n e → ending ≠ some n → (s.line n).offered = some e → (s.line n).state = .delivering → (s.line n).dropAnswer = false → False := by
    intro n e hr a1 a2 a3 a4
    have hp : asker req = some (n, e) := by simp [asker, hr]
    exact (h.offer n e a2).2 a1 a3 a4 (hm _ hp).2.1
  unfold Machine.seekLock
  split
  · rename_i k hk
    split
    · rename_i l hl
      have hk := lock_inside hl
      split
      · have ha : askers { l with waiters := l.waiters ++ [req] } = askers l ++ (asker req).toList := by
          unfold askers; rw [← List.cons_append, List.filterMap_append]; cases hh : asker req <;> simp [List.filterMap_cons, hh]
        have hal : ∀ p, p ∈ askers l ++ (asker req).toList → p ∈ askers l ∨ asker req = some p := by
          intro p hp; simpa using hp
        refine h.lock (fun j => lock_setLock hk) rfl h.nodup ?_ h.busy ?_
        · intro u hu
          by_cases hkk : u.1 = k
          · right
            obtain ⟨m, hm1, hm2⟩ := h.fits u hu
            rw [hkk, hl] at hm1; cases hm1
            refine ⟨_, by rw [hkk, setLock_lock_same hk], ?_⟩
            exact hm2
          · exact Or.inl ⟨hkk, hu⟩
        · intro l' hl'; cases hl'
          rw [ha]
          refine ⟨?_, ?_, ?_⟩
          · rw [List.nodup_append]
            refine ⟨h.own k l hl, by cases asker req <;> simp, ?_⟩
            intro p hp q hq hpq
            subst hpq
            simp at hq
            exact (hm _ hq).2.2 k l hl hp
          · intro p hp
            rcases hal p hp with hp | hp
            · exact h.flag k l hl p hp
            · exact ⟨(hm p hp).1, (hm p hp).2.1⟩
          · intro j m hj hmj p hp
            rcases hal p hp with hp | hp
            · exact h.apart k j l m (Ne.symm hj) hl hmj p hp
            · exact (hm p hp).2.2 j m hmj
      · exact h.reply rfl hm hd
    · exact h
  · split
    · rename_i k hk
      have hk16 : k < 16 ∧ s.lock k = none := by
        unfold Machine.freeLock findSlot at hk
        have h1 := List.mem_of_find?_eq_some hk
        have h2 := List.find?_some hk
        exact ⟨by simpa using h1, by simpa using h2⟩
      refine h.grantLock hk16.1 (noTicket_free h hk16.2) ?_
      have ha : askers { card := req.card, owner := req, waiters := [], doing := .reading } = (asker req).toList := by
        unfold askers; cases hh : asker req <;> simp [hh]
      rw [ha]
      refine ⟨by cases asker req <;> simp, ?_, ?_⟩
      · intro p hp; simp at hp; exact ⟨(hm p hp).1, (hm p hp).2.1⟩
      · intro j m hj hmj p hp; simp at hp; exact (hm p hp).2.2 j m hmj
    · exact h.reply rfl hm hd

/-- `takeCardRequest` keeps the station law. -/
theorem StationsKept.takeCardRequest {req} (h : StationsKept b X ending s) (hm : MayEnter s req) : StationsKept b X ending (takeCardRequest req s) := by
  unfold Machine.takeCardRequest
  split
  · refine h.reply rfl hm ?_
    intro n e hr a1 a2 a3 a4
    have hp : asker req = some (n, e) := by simp [asker, hr]
    exact (h.offer n e a2).2 a1 a3 a4 (hm _ hp).2.1
  · exact h.seekLock hm

/-- A record taken out of the queue is refused (R46). -/
theorem StationsKept.refuseItem {i st r e j} (h : StationsKept b ((recordTicket i).toList ++ X) ending s) : StationsKept b X ending (refuseItem i st r e j s) := by
  unfold Machine.refuseItem
  split
  · rename_i k m
    have h0 : StationsKept b X ending s := h.sub rfl rfl ⟨[(k, some m.req)], by simp [ticketsWith, recordTicket]⟩ h.busy
    obtain ⟨l, hl, hd, ho⟩ := h.fits (k, some m.req) (by simp [ticketsWith, recordTicket])
    have hn : k ∉ (ticketsWith b X s).map Prod.fst := by
      have := h.nodup
      have e : ticketsWith b ((recordTicket (.movement k m)).toList ++ X) s = (k, some m.req) :: ticketsWith b X s := by simp [ticketsWith, recordTicket]
      rw [e] at this
      exact (List.nodup_cons.1 this).1
    have h1 : StationsKept b X ending (returnClaim m s) := h0.congr (by simp) (by simp) (by simp) (by simp) (by simp)
    exact h1.answerOwner (by simpa [State.lock] using hl) ho (by simpa [ticketsWith] using hn)
  · exact StationsKept.sendLink (h.sub rfl rfl ⟨[], by simp [ticketsWith, recordTicket]⟩ h.busy)
  · exact StationsKept.sendLink (h.sub rfl rfl ⟨[], by simp [ticketsWith, recordTicket]⟩ h.busy)

/-- Another access is put in service while the event's own is not counted. -/
theorem StationsKept.serve {op} (h : StationsKept b X ending s) : StationsKept false X ending { s with jc := { s.jc with serving := some op } } := by
  refine h.sub rfl rfl ⟨(if b then s.jc.serving.toList else []).filterMap accessTicket, ?_⟩ (Or.inr (by simp))
  simp only [ticketsWith, Bool.false_eq_true, if_false, List.filterMap_nil, List.nil_append]
  rw [← List.append_assoc, ← List.append_assoc, ← List.append_assoc]
  refine List.Perm.append_right _ (List.Perm.append_right _ ?_)
  exact List.perm_append_comm

/-- `queueAppend` keeps the station law. -/
theorem StationsKept.queueAppend (h : StationsKept b X ending s) : StationsKept b X ending (queueAppend s) := by
  unfold Machine.queueAppend; split
  · exact h.sub rfl rfl ⟨[], by simp [ticketsWith, List.filterMap_append, List.filterMap_cons, accessTicket]⟩ h.busy
  · exact h

/-- The state with a plain access in service. -/
def atStart (s : State) : State := { s with jc := { s.jc with serving := some .startupTotalsRead } }

/-- The port's next access (R112, R117). -/
theorem StationsKept.portLoop (fuel : Nat) {s} (h : StationsKept false [] ending (atStart s)) : StationsKept true [] ending (portLoop fuel s) := by
  induction fuel generalizing s with
  | zero => exact h.sub rfl rfl ⟨[], by simp [ticketsWith, Machine.portLoop, atStart]⟩ (Or.inl rfl)
  | succ fuel ih =>
    simp only [Machine.portLoop]
    have hq : StationsKept false [] ending (atStart (Machine.queueAppend s)) := by
      have : atStart (Machine.queueAppend s) = Machine.queueAppend (atStart s) := by
        unfold Machine.queueAppend
        have : mayAppend (atStart s) = mayAppend s := rfl
        rw [this]; split <;> rfl
      rw [this]; exact h.queueAppend
    generalize Machine.queueAppend s = u at hq ⊢
    split
    · exact hq.sub rfl rfl ⟨[], by simp [ticketsWith, atStart]⟩ (Or.inl rfl)
    · rename_i op rest hpick
      have hp := (pickNext_perm hpick).filterMap accessTicket
      have e0 : ticketsWith false [] (atStart u) = u.jc.waiting.filterMap accessTicket ++ u.jc.appendQueue.filterMap recordTicket := by simp [ticketsWith, atStart]
      split
      · split
        · refine ih (hq.sub rfl rfl ⟨[], ?_⟩ (Or.inr (by simp [atStart])))
          simp only [ticketsWith, atStart, Bool.false_eq_true, if_false, List.filterMap_nil, List.nil_append]
          exact List.Perm.append_right _ (by simpa [accessTicket, List.filterMap_cons] using hp)
        · rename_i item items hqq
          split
          · refine hq.sub rfl rfl ⟨[], ?_⟩ (Or.inl rfl)
            rw [e0]
            simp only [ticketsWith, if_true, Option.toList, List.filterMap_cons, accessTicket, List.filterMap_nil, List.nil_append]
            exact List.Perm.append_right _ (by simpa [accessTicket, List.filterMap_cons] using hp)
          · rename_i st reason figures htest
            refine ih ?_
            have h1 : StationsKept false ((recordTicket item).toList ++ []) ending { u with jc := { u.jc with serving := some .append, waiting := rest, appendQueue := items, appendIssued := false } } := by
              refine hq.sub rfl rfl ⟨[], ?_⟩ (Or.inr (by simp))
              rw [e0, hqq]
              have hp' : List.Perm (u.jc.waiting.filterMap accessTicket) (rest.filterMap accessTicket) := by simpa [accessTicket, List.filterMap_cons] using hp
              simp only [ticketsWith, Bool.false_eq_true, if_false, List.filterMap_nil, List.nil_append, List.append_nil, List.filterMap_cons]
              cases recordTicket item with
              | none => simpa using List.Perm.append_right _ hp'
              | some t =>
                simp only [Option.toList, List.cons_append]
                exact (List.Perm.append_right _ hp').trans List.perm_middle
            exact (StationsKept.refuseItem h1).serve
      · refine hq.sub rfl rfl ⟨[], ?_⟩ (Or.inl rfl)
        rw [e0]
        simp only [ticketsWith, if_true, Option.toList, List.nil_append]
        refine List.Perm.append_right _ ?_
        refine hp.trans ?_
        cases hh : accessTicket op <;> simp [hh]

/-- The port's next access (R112). -/
theorem StationsKept.portNext {n} (h : StationsKept b [] ending s) : StationsKept true [] ending (portNext n s) := StationsKept.portLoop _ h.serve

/-- `complete` keeps the station law. -/
theorem StationsKept.complete {w} (h : StationsKept false [] ending (w s)) : StationsKept true [] ending (complete w s) := h.portNext

/-- `issueDue` keeps the station law. -/
theorem StationsKept.issueDue (h : StationsKept b [] ending s) (hb : b = true ∨ s.jc.serving ≠ none) : StationsKept b [] ending (issueDue s) := by
  unfold Machine.issueDue
  repeat' split
  · rename_i hs; obtain rfl : b = true := by simpa [hs] using hb
    exact h.portNext
  · exact h.queueAppend
  · exact h

/-- A decided movement joins the append queue under its lock (R44). -/
theorem StationsKept.joinMove {k m l} (h : StationsKept b [] ending s) (hl : s.lock k = some l) (hd : l.doing = .moving) (ho : l.owner = m.req)
    (hn : k ∉ (ticketsWith b [] s).map Prod.fst) : StationsKept b [] ending (joinAppend (.movement k m) s) := by
  have hX : StationsKept b ((recordTicket (.movement k m)).toList ++ []) ending s := by
    obtain ⟨n1,n2,n3,n4,n5,n6,n8,n7⟩ := h
    refine ⟨?_, ?_, n3,n4,n5,n6,n8,n7⟩
    · have : ticketsWith b ((recordTicket (.movement k m)).toList ++ []) s = (k, some m.req) :: ticketsWith b [] s := by simp [ticketsWith, recordTicket]
      rw [this]; exact List.nodup_cons.2 ⟨hn, n1⟩
    · intro t ht
      have : t = (k, some m.req) ∨ t ∈ ticketsWith b [] s := by simpa [ticketsWith, recordTicket] using ht
      rcases this with rfl | ht
      · exact ⟨l, hl, hd, ho⟩
      · exact n2 t ht
  unfold Machine.joinAppend; split
  · exact StationsKept.refuseItem hX
  · refine StationsKept.issueDue (s := { s with jc := { s.jc with appendQueue := s.jc.appendQueue ++ [.movement k m] } }) ?_ h.busy
    refine hX.sub rfl rfl ⟨[], ?_⟩ h.busy
    simp only [ticketsWith, recordTicket, Option.toList, List.append_nil, List.nil_append, List.filterMap_append, List.filterMap_cons, List.filterMap_nil, List.cons_append]
    generalize (List.filterMap accessTicket (if b = true then s.jc.serving.toList else [])) = S
    rw [← List.append_assoc]
    exact List.perm_append_singleton _ _ |>.symm

/-- A record that is no movement joins the append queue. -/
theorem StationsKept.joinOther {i} (h : StationsKept b [] ending s) (hi : recordTicket i = none) : StationsKept b [] ending (joinAppend i s) := by
  unfold Machine.joinAppend; split
  · exact StationsKept.refuseItem (by simpa [hi] using h)
  · refine StationsKept.issueDue (s := { s with jc := { s.jc with appendQueue := s.jc.appendQueue ++ [i] } }) ?_ h.busy
    exact h.sub rfl rfl ⟨[], by simp [ticketsWith, List.filterMap_append, hi]⟩ h.busy

/-- `issueTotals` keeps the station law. -/
theorem StationsKept.issueTotals {j} (h : StationsKept b X ending s) : StationsKept b X ending (issueTotals j s) := by
  unfold Machine.issueTotals; exact StationsKept.issue (h.congr rfl rfl rfl rfl rfl) rfl

/-- `requestTotals` keeps the station law. -/
theorem StationsKept.requestTotals {j} (h : StationsKept b X ending s) : StationsKept b X ending (requestTotals j s) := by
  unfold Machine.requestTotals; split
  · exact h.issueTotals
  · exact h.congr rfl rfl rfl rfl rfl

/-- `nextTotals` keeps the station law. -/
theorem StationsKept.nextTotals (h : StationsKept b X ending s) : StationsKept b X ending (nextTotals s) := by
  unfold Machine.nextTotals; split
  · exact h.congr rfl rfl rfl rfl rfl
  · exact StationsKept.issueTotals (h.congr rfl rfl rfl rfl rfl)

/-- `runAdvice` keeps the station law. -/
theorem StationsKept.runAdvice {l} (h : StationsKept b X ending s) : StationsKept b X ending (runAdvice l s) := by
  induction l generalizing s with
  | nil => exact h.congr rfl rfl rfl rfl rfl
  | cons c rest ih =>
    obtain ⟨t, n⟩ := c
    simp only [Machine.runAdvice]
    split
    · exact ih h.sendLink
    · split
      · exact StationsKept.issue (h.congr rfl rfl rfl rfl rfl) rfl
      · exact ih h.sendLink

/-- `answerAdvice` keeps the station law. -/
theorem StationsKept.answerAdvice {t r} (h : StationsKept b X ending s) : StationsKept b X ending (answerAdvice t r s) := StationsKept.runAdvice h.sendLink

/-- `dropJob` keeps the station law. -/
theorem StationsKept.dropJob {j} (h : StationsKept b X ending s) : StationsKept b X ending (dropJob s j) := by
  unfold Machine.dropJob; split
  all_goals first | exact h | exact h.congr rfl rfl rfl rfl rfl | exact h.answerAdvice

/-- `dropDue` keeps the station law. -/
theorem StationsKept.dropDue (h : StationsKept b X ending s) : StationsKept b X ending (dropDue s) := by
  unfold Machine.dropDue
  generalize s.mau.totalsDue = l
  have : StationsKept b X ending { s with mau := { s.mau with totalsDue := [] } } := h.congr rfl rfl rfl rfl rfl
  generalize ({ s with mau := { s.mau with totalsDue := [] } } : State) = u at this
  induction l generalizing u with
  | nil => exact this
  | cons a l ih => exact ih _ this.dropJob

/-- `refuseUnissued` keeps the station law. -/
theorem StationsKept.refuseUnissued (h : StationsKept b X ending s) : StationsKept b X ending (refuseUnissued s) := by
  unfold Machine.refuseUnissued
  have key : ∀ (l : List AppendItem) (u : State), StationsKept b (l.filterMap recordTicket ++ X) ending u →
      StationsKept b X ending (l.foldl (fun s i => Machine.refuseItem i .storeFault 0 [] 0 s) u) := by
    intro l
    induction l with
    | nil => intro u hu; exact hu
    | cons a l ih =>
      intro u hu
      refine ih _ (StationsKept.refuseItem ?_)
      have : List.filterMap recordTicket (a :: l) = (recordTicket a).toList ++ l.filterMap recordTicket := by
        cases hh : recordTicket a <;> simp [hh]
      rwa [this, List.append_assoc] at hu
  refine key _ _ (h.sub rfl rfl ⟨[], ?_⟩ h.busy)
  have hsplit : s.jc.appendQueue = (if s.jc.appendIssued then s.jc.appendQueue.take 1 else []) ++ unissued s := by
    unfold unissued; split
    · exact (List.take_append_drop 1 _).symm
    · simp
  simp only [ticketsWith, List.nil_append]
  conv_lhs => rw [hsplit]
  rw [List.filterMap_append]
  generalize (List.filterMap accessTicket (if b = true then s.jc.serving.toList else [])) = S
  generalize List.filterMap accessTicket s.jc.waiting = W
  generalize List.filterMap recordTicket (unissued s) = U
  generalize List.filterMap recordTicket (if s.jc.appendIssued then s.jc.appendQueue.take 1 else []) = V
  have e1 : X ++ (S ++ W) ++ (V ++ U) = X ++ (S ++ W) ++ V ++ U := by simp
  have e2 : U ++ X ++ (S ++ W) ++ V = U ++ (X ++ (S ++ W) ++ V) := by simp
  rw [e1, e2]
  exact List.perm_append_comm

/-- `enterFault` keeps the station law. -/
theorem StationsKept.enterFault {r j} (h : StationsKept b X ending s) : StationsKept b X ending (enterFault r j s) := by
  unfold Machine.enterFault; dsimp only; split
  · exact h.congr rfl rfl rfl rfl rfl
  · refine StationsKept.dropDue (StationsKept.refuseUnissued ?_)
    exact h.congr (by simp [raiseStoreFault]) (by simp [raiseStoreFault]) (by simp [raiseStoreFault]) (by simp [raiseStoreFault]) (by simp [raiseStoreFault])

/-- The card access in service is taken: its lock has no other ticket. -/
theorem StationsKept.consume {op k r} (h : StationsKept true [] ending s) (hs : s.jc.serving = some op) (ht : accessTicket op = some (k, r)) :
    StationsKept false [] ending s ∧ TicketFits s (k, r) ∧ k ∉ (ticketsWith false [] s).map Prod.fst := by
  have e : ticketsWith true [] s = (k, r) :: ticketsWith false [] s := by
    simp [ticketsWith, hs, ht]
  refine ⟨h.weak (by simp [hs]), h.fits _ (by rw [e]; exact List.mem_cons_self), ?_⟩
  have := h.nodup; rw [e] at this; exact (List.nodup_cons.1 this).1

/-- The lock whose owner's place changed. -/
theorem lock_setDoing {k l d} (hl : s.lock k = some l) : (setDoing k d s).lock k = some { l with doing := d } := by
  unfold setDoing; rw [hl]; exact setLock_lock_same (lock_inside hl)

/-- `carryOut` keeps the station law. -/
theorem StationsKept.carryOut {k l r v} (h : StationsKept b [] ending s) (hl : s.lock k = some l) (hn : k ∉ (ticketsWith b [] s).map Prod.fst)
    (hv : ∀ m, v = .move m → m.req = l.owner) : StationsKept b [] ending (carryOut k l.owner r v s) := by
  unfold Machine.carryOut
  split
  · exact h.answerOwner hl rfl hn
  · exact h.setDoing hn
  · exact h.setDoing hn
  · rename_i m
    refine StationsKept.joinMove (l := { l with doing := .moving }) (h.setDoing hn) (lock_setDoing hl) rfl (hv m rfl).symm ?_
    have : ticketsWith b [] (Machine.setDoing k .moving s) = ticketsWith b [] s := by simp [ticketsWith]
    rw [this]; exact hn

/-- `decideCard` keeps the station law. -/
theorem StationsKept.decideCard {k l r} (h : StationsKept b [] ending s) (hl : s.lock k = some l) (hn : k ∉ (ticketsWith b [] s).map Prod.fst) :
    StationsKept b [] ending (decideCard k l.owner r s) := by
  unfold Machine.decideCard; dsimp only; split
  all_goals first
    | exact h.answerOwner hl rfl hn
    | (refine h.carryOut hl hn ?_; intro m hm
       simp only [decideActivate, decideLoad, decideHold, decideCapture, decideRedeem, decideVoid, decideRefund, decideCashOut, decideBlock, decideUnblock] at hm
       (repeat' split at hm) <;> first | (cases hm; done) | (cases hm; rfl))
    | skip
  unfold Machine.releaseHold
  repeat' split
  · dsimp only
    refine StationsKept.answerOwner (l := l) (h.congr rfl rfl rfl rfl rfl) hl rfl hn
  · exact h.answerOwner hl rfl hn
  · exact h.answerOwner hl rfl hn

/-- `cardRead` keeps the station law. -/
theorem StationsKept.cardRead {k slot} (h : StationsKept true [] ending s) (hs : s.jc.serving = some (.cardRead k slot)) : StationsKept false [] ending (cardRead k slot s) := by
  obtain ⟨h', ⟨l, hl, hd⟩, hn⟩ := h.consume hs rfl
  unfold Machine.cardRead
  rw [hl]; dsimp only
  repeat' split
  · exact StationsKept.answerOwner (l := l) (h'.congr rfl rfl rfl rfl rfl) hl rfl hn
  · exact h'.answerOwner hl rfl hn
  · exact h'.decideCard hl hn

/-- A lock whose owner is at the Hold Table has no ticket out. -/
theorem noTicket_atHolds {k l} (h : StationsKept b X ending s) (hl : s.lock k = some l) (hd : l.doing ≠ .reading ∧ l.doing ≠ .moving) : k ∉ (ticketsWith b X s).map Prod.fst := by
  intro hm
  obtain ⟨t, ht, rfl⟩ := List.mem_map.1 hm
  obtain ⟨l', hl', hf⟩ := h.fits t ht
  rw [hl] at hl'; cases hl'
  cases h2 : t.2 <;> rw [h2] at hf
  · exact hd.1 hf
  · exact hd.2 hf.1

/-- `holdArrives` keeps the station law. -/
theorem StationsKept.holdArrives {k} (h : StationsKept true [] ending s) : StationsKept true [] ending (holdArrives k s) := by
  unfold Machine.holdArrives
  split
  · rename_i l hl
    split
    · rename_i p hp
      have hn := noTicket_atHolds h hl (by rw [hp]; simp)
      unfold Machine.enterHold; split
      · exact h.answerOwner hl rfl hn
      · exact StationsKept.answerOwner (l := l) (h.congr rfl rfl rfl rfl rfl) hl rfl hn
    · exact h
  · exact h

/-- `claimArrives` keeps the station law. -/
theorem StationsKept.claimArrives {k} (h : StationsKept true [] ending s) : StationsKept true [] ending (claimArrives k s) := by
  unfold Machine.claimArrives
  split
  · rename_i l hl
    split
    · rename_i r hr
      have hn := noTicket_atHolds h hl (by rw [hr]; simp)
      have hlate : StationsKept true [] ending (Machine.carryOut k l.owner r (decideLate s (s.window l.owner.window) l.owner r) s) := by
        refine h.carryOut hl hn ?_
        intro m hm; simp only [decideLate] at hm
        (repeat' split at hm) <;> first | (cases hm; done) | (cases hm; rfl)
      unfold Machine.claimHold; dsimp only
      repeat' split
      · exact hlate
      · exact h.answerOwner hl rfl hn
      · exact h.answerOwner hl rfl hn
      · refine StationsKept.carryOut (l := l) (h.congr rfl rfl rfl rfl rfl) hl hn ?_
        intro m hm; cases hm; rfl
      · exact hlate
    · exact h
  · exact h

/-- `cardWritten` keeps the station law. -/
theorem StationsKept.cardWritten {k m j p} (h : StationsKept true [] ending s) (hs : s.jc.serving = some (.cardWrite k m j p)) : StationsKept false [] ending (cardWritten k m j p s) := by
  obtain ⟨h', ⟨l, hl, hd, ho⟩, hn⟩ := h.consume hs rfl
  unfold Machine.cardWritten finishMovement
  refine StationsKept.congr (s := _) (StationsKept.answerOwner (k := k) (l := l) (req := m.req) (X := []) (b := false) (ending := ending) (s := completeRing m j p (completeHolds m (sweepAdjust m.req.slot m.paidDelta m.bonusDelta (storeOp (.cardWrite k m j p) s)))) ?_ ?_ ho ?_) rfl rfl rfl rfl rfl
  · exact h'.congr (by simp) (by simp) (by simp) (by simp [completeRing]; split <;> simp) (by simp)
  · simp only [State.lock] at hl ⊢
    have : (completeRing m j p (completeHolds m (sweepAdjust m.req.slot m.paidDelta m.bonusDelta (storeOp (.cardWrite k m j p) s)))).ce.locks = s.ce.locks := by simp
    rw [this]; exact hl
  · have : ticketsWith false [] (completeRing m j p (completeHolds m (sweepAdjust m.req.slot m.paidDelta m.bonusDelta (storeOp (.cardWrite k m j p) s)))) = ticketsWith false [] s := by simp [ticketsWith]
    rw [this]; exact hn

/-- `cardWriteFailed` keeps the station law. -/
theorem StationsKept.cardWriteFailed {k m j p left} (h : StationsKept true [] ending s) (hs : s.jc.serving = some (.cardWrite k m j p)) :
    StationsKept false [] ending (cardWriteFailed k m j p left s) := by
  have hx : StationsKept false [(k, some m.req)] ending s := h.sub rfl rfl ⟨[], by simp [ticketsWith, hs, accessTicket]⟩ (Or.inr (by simp [hs]))
  have h1 : StationsKept false [(k, some m.req)] ending (leaveOp (.cardWrite k m j p) left s) := hx.congr (by simp) (by simp) (by simp) (by simp) (by simp)
  have h2 := h1.enterFault (r := .cards) (j := j)
  unfold Machine.cardWriteFailed finishReduced
  generalize Machine.enterFault .cards j (leaveOp (.cardWrite k m j p) left s) = u at h2
  obtain ⟨l, hl, hd, ho⟩ := h2.fits (k, some m.req) (by simp [ticketsWith])
  have h3 : StationsKept false [] ending u := h2.sub rfl rfl ⟨[(k, some m.req)], by simp [ticketsWith]⟩ h2.busy
  have hn : k ∉ (ticketsWith false [] u).map Prod.fst := by
    have := h2.nodup
    have e : ticketsWith false [(k, some m.req)] u = (k, some m.req) :: ticketsWith false [] u := by simp [ticketsWith]
    rw [e] at this; exact (List.nodup_cons.1 this).1
  refine StationsKept.answerOwner (l := l) (h3.congr (by simp) (by simp) (by simp) (by simp) (by simp)) (by simpa [State.lock] using hl) ho (by simpa [ticketsWith] using hn)

/-- `refuseAppended` keeps the station law. -/
theorem StationsKept.refuseAppended {i rest j} (h : StationsKept false [] ending s) (hq : s.jc.appendQueue = i :: rest) : StationsKept false [] ending (refuseAppended i rest j s) := by
  unfold Machine.refuseAppended
  refine StationsKept.refuseItem (h.sub rfl rfl ⟨[], ?_⟩ h.busy)
  simp only [ticketsWith, hq, List.filterMap_cons, List.nil_append, List.append_nil]
  cases recordTicket i with
  | none => simp
  | some t => simp

/-- `appendWritten` keeps the station law. -/
theorem StationsKept.appendWritten {c} (h : StationsKept true [] ending s) (hs : s.jc.serving = some (.appendWrite c)) : StationsKept false [] ending (appendWritten c s) := by
  have h0 : StationsKept false [] ending (storeOp (.appendWrite c) s) := StationsKept.congr (h.weak (by simp [hs])) (by simp) (by simp) (by simp) (by simp) (by simp)
  unfold Machine.appendWritten; dsimp only
  generalize storeOp (.appendWrite c) s = u at h0
  split
  · exact h0
  · rename_i item rest hq
    split
    · have hx : StationsKept false (recordTicket item).toList ending { u with jc := { u.jc with next := u.jc.next + 1, untaken := u.jc.untaken + 1, pendingCount := u.jc.pendingCount + 1, appendQueue := rest, appendIssued := false } } := by
        refine h0.sub rfl rfl ⟨[], ?_⟩ h0.busy
        simp only [ticketsWith, hq, List.filterMap_cons, List.nil_append]
        cases recordTicket item with
        | none => simp
        | some t => simp
      have hn : ∀ (v : State) Y, StationsKept false Y ending v → StationsKept false Y ending (noteUntaken v) := by
        intro v Y hv; unfold noteUntaken; repeat' split
        all_goals exact hv.congr rfl rfl rfl rfl rfl
      have hc := hn _ _ hx
      unfold Machine.countAppend
      generalize noteUntaken _ = v at hc ⊢
      unfold Machine.afterAppend; split
      · rename_i k m
        have hp := ticketsWith_issue (b := false) (X := []) (s := v) (op := .cardWrite k m c.number c.period) rfl hc.busy
        have e : ticketsWith false (recordTicket (.movement k m)).toList v = (k, some m.req) :: ticketsWith false [] v := by simp [ticketsWith, recordTicket]
        refine hc.sub (by simp) (by simp) ⟨[], ?_⟩ (hc.busy.imp id fun hb => by unfold Machine.issue; split <;> simp_all)
        rw [e]; exact hp.symm
      · exact StationsKept.congr (s := v) (hc.sub rfl rfl ⟨[], by simp [ticketsWith, recordTicket]⟩ hc.busy) (by simp) (by simp) (by simp) (by simp) (by simp)
      · exact StationsKept.congr (s := v) (hc.sub rfl rfl ⟨[], by simp [ticketsWith, recordTicket]⟩ hc.busy) (by simp) (by simp) (by simp) (by simp) (by simp)
    · exact h0.refuseAppended hq

/-- `appendFailed` keeps the station law. -/
theorem StationsKept.appendFailed {c l} (h : StationsKept true [] ending s) (hs : s.jc.serving = some (.appendWrite c)) : StationsKept false [] ending (appendFailed c l s) := by
  have h0 : StationsKept false [] ending (leaveOp (.appendWrite c) l s) := StationsKept.congr (h.weak (by simp [hs])) (by simp) (by simp) (by simp) (by simp) (by simp)
  unfold Machine.appendFailed; dsimp only
  have h1 := h0.enterFault (r := .journal) (j := c.number)
  split
  · exact h1
  · rename_i hq; exact h1.refuseAppended hq

/-- A station's request comes from that station (R151). -/
theorem stationOf_some {n e x k bd req} (h : stationRequest? n e x k bd = some req) : req.origin = .station n e := by
  unfold stationRequest? at h
  split at h
  · split at h
    · rename_i kk _ _
      unfold cardRequest? at h
      cases kk <;> dsimp only at h <;> (repeat' split at h) <;> first | (cases h; done) | (cases h; rfl)
    · cases h
  · cases h

/-- A line whose offer comes to its end may be excused. -/
theorem StationsKept.openOffer (h : StationsKept b X ending s) (n : Nat) : ending = none → StationsKept b X (some n) s := by
  rintro rfl
  obtain ⟨n1,n2,n3,n4,n5,n6,n8,n7⟩ := h
  exact ⟨n1,n2,n3,n4,n5,n6,n8, fun m e hm => ⟨(n7 m e hm).1, fun _ hd hdr => (n7 m e hm).2 (by simp) hd hdr⟩⟩

/-- The lines after a write of one. -/
theorem line_setLine {n x m} (hn : n < 4) : (s.setLine n x).line m = if m = n then x else s.line m := by
  split
  · rename_i e; subst e; exact setLine_line_same hn
  · rename_i e; exact setLine_line_ne (fun h => e h.symm)

/-- `setLine` keeps the station law. -/
theorem StationsKept.setLine {n x ending'} (h : StationsKept b X ending s) (hn : n < 4) (hx : x.stations = (s.line n).stations)
    (hex : ∀ m, m ≠ n → ending' ≠ some m → ending ≠ some m)
    (ho : ∀ e, x.offered = some e → e < 48 ∧ (ending' ≠ some n → x.state = .delivering → x.dropAnswer = false → (s.station n e).held ≠ none)) :
    StationsKept b X ending' (s.setLine n x) := by
  have hst : ∀ m e, (s.setLine n x).station m e = s.station m e := by
    intro m e; simp only [State.station, line_setLine hn]; split
    · rename_i hh; subst hh; rw [hx]
    · rfl
  refine h.setLines (t := s.setLine n x) (ending' := ending') rfl rfl rfl rfl ?_ ?_ ?_
  · intro k l hk p hp; rw [hst]; exact h.flag k l hk p hp
  · intro m e; rw [hst]; exact h.kept m e
  · intro m e
    rw [line_setLine hn, hst]
    split
    · rename_i hh; subst hh; exact ho e
    · rename_i hh; intro hf
      obtain ⟨g1, g2⟩ := h.offer m e hf
      exact ⟨g1, fun hex' => g2 (hex m hh hex')⟩

/-- `applyGood` keeps the station law. -/
theorem StationsKept.applyGood {n e} (h : StationsKept b X (some n) s)
    (hd : (s.line n).state = .delivering → (s.station n e).held ≠ none) : StationsKept b X (some n) (applyGood n e s) := by
  have h1 : StationsKept b X (some n) (s.setStation n e (hearGood (decide ((s.line n).state = .delivering)) (s.station n e))) := by
    refine h.station ?_ ?_ (by simp)
    · unfold hearGood; dsimp only; split
      · simp
      · exact h.kept n e
    · intro k l hk hm
      have := h.flag k l hk _ hm
      unfold hearGood; dsimp only; split
      · rename_i hdd; exact absurd this.2 (hd (by simpa using hdd))
      · exact this
  unfold Machine.applyGood; dsimp only; split
  · exact h1.congr rfl rfl rfl rfl rfl
  · exact h1

/-- `stationAsks` keeps the station law. -/
theorem StationsKept.stationAsks {n e k bd} (h : StationsKept b X (some n) s) (hn : n < 4) (he : e < 48) : StationsKept b X (some n) (stationAsks n e k bd s) := by
  unfold Machine.stationAsks; dsimp only; split
  · rename_i ho
    exact h.station (h.kept n e) (fun k l hk hm => h.flag k l hk _ hm) (by simp)
  · rename_i ho
    have hheld : (s.station n e).held = none := by
      by_contra hne; exact ho (h.kept n e hne)
    have hno : ∀ k l, s.lock k = some l → (n, e) ∉ askers l := fun k l hk hm => ho (h.flag k l hk _ hm).1
    have h1 : StationsKept b X (some n) (s.setStation n e { s.station n e with outstanding := true }) :=
      h.station (by simp) (fun k l hk hm => absurd hm (hno k l hk)) (by simp)
    have hs : (s.setStation n e { s.station n e with outstanding := true }).station n e = { s.station n e with outstanding := true } := setStation_station_same hn he
    split
    · rename_i req hr
      refine h1.takeCardRequest ?_
      intro p hp
      have := stationOf_some hr
      simp only [asker, this] at hp
      cases hp
      exact ⟨by rw [hs], by rw [hs]; exact hheld, hno⟩
    · exact h1.outside hno (by rw [hs]) (by simp)

/-- `closeOffer` keeps the station law. -/
theorem StationsKept.closeOffer {n e} {o : State → State} (h : StationsKept b X none s) (hn : n < 4)
    (ho : (s.line n).dropAnswer = false → StationsKept b X (some n) (o s)) : StationsKept b X none (closeOffer n e o s) := by
  have key : ∀ t, StationsKept b X (some n) t → StationsKept b X none (t.setLine n (endOffer e (t.line n))) := by
    intro t ht
    refine ht.setLine hn ?_ (by intro m hm _ he; cases he; exact hm rfl) ?_
    · unfold endOffer newRound; dsimp only; split <;> rfl
    · intro f hf
      have : (endOffer e (t.line n)).offered = none := by unfold endOffer newRound; dsimp only; split <;> rfl
      rw [this] at hf; cases hf
  unfold Machine.closeOffer; dsimp only; split
  · exact key _ (h.openOffer n rfl)
  · rename_i hd; exact key _ (ho (by simpa using hd))

/-- A good answer leaves the line's state. -/
theorem applyGood_line {n e m} : ((applyGood n e s).line m).state = (s.line m).state := by
  unfold applyGood; dsimp only
  split
  all_goals
    simp only [raiseStationChange, raise, State.line]
    obtain ⟨v, hv⟩ := setStation_line (s := s) (n := n) (e := e) (x := hearGood (decide ((s.line n).state = .delivering)) (s.station n e)) (m := m)
    simp only [State.line] at hv ⊢
    rw [hv]

/-- `goodAnswer` keeps the station law. -/
theorem StationsKept.goodAnswer {n f} (h : StationsKept true [] none s) (hn : n < 4) : StationsKept true [] none (goodAnswer n f s) := by
  unfold Machine.goodAnswer
  split
  · rename_i e ha
    have hoff : (s.line n).offered = some e := by unfold awaited at ha; split at ha <;> simp_all
    split
    · rename_i a _
      refine h.closeOffer hn ?_
      intro hdr
      have hg := (h.openOffer n rfl).applyGood (e := e) (fun hd => (h.offer n e hoff).2 (by simp) hd hdr)
      unfold Machine.applyAnswer; split
      · exact hg
      · exact hg.stationAsks hn (h.offer n e hoff).1
    · exact h
  · exact h

/-- A held reply is discarded, and its flag cleared (R152). -/
theorem StationsKept.discard {n e r} (h : StationsKept b X (some n) s) (hh : (s.station n e).held ≠ none) : StationsKept b X (some n) (discardReply n e r s) := by
  unfold discardReply
  refine StationsKept.congr (s := s.setStation n e { s.station n e with held := none, outstanding := false }) ?_ rfl rfl rfl rfl rfl
  exact h.station (by simp) (fun k l hk hm => absurd (h.flag k l hk _ hm).2 hh) (by simp)

/-- `applyBad` keeps the station law. -/
theorem StationsKept.applyBad {n e} (h : StationsKept b X (some n) s) : StationsKept b X (some n) (applyBad n e s) := by
  unfold Machine.applyBad; dsimp only; split
  · have h1 : StationsKept b X (some n) (s.setStation n e { s.station n e with errors := satInc 255 (s.station n e).errors, run := 0, bad := satInc 255 (s.station n e).bad, misses := 0, state := .faulty }) :=
      h.station (h.kept n e) (fun k l hk hm => h.flag k l hk _ hm) (by simp)
    unfold dropHeld; split
    · rename_i r hr
      exact StationsKept.discard (h1.congr rfl rfl rfl rfl rfl) (by rw [hr]; simp)
    · exact h1.congr rfl rfl rfl rfl rfl
  · exact h.station (h.kept n e) (fun k l hk hm => h.flag k l hk _ hm) (by simp)

/-- `applyMiss` keeps the station law. -/
theorem StationsKept.applyMiss {n e} (h : StationsKept b X (some n) s) : StationsKept b X (some n) (applyMiss n e s) := by
  unfold Machine.applyMiss; dsimp only; split
  · exact StationsKept.congr (s := s.setStation n e { s.station n e with misses := satInc 255 (s.station n e).misses, state := .silent })
      (h.station (h.kept n e) (fun k l hk hm => h.flag k l hk _ hm) (by simp)) rfl rfl rfl rfl rfl
  · exact h.station (h.kept n e) (fun k l hk hm => h.flag k l hk _ hm) (by simp)

/-- `offerStart` keeps the station law. -/
theorem StationsKept.offerStart {n} (h : StationsKept true [] none s) (hn : n < 4) (hm : mayOffer (s.line n) = true) : StationsKept true [] none (s.setLine n (goRound (s.line n))) := by
  have hidle : (s.line n).state = .idleGap := by simp [mayOffer] at hm; exact hm.1.1.1
  have hne : ∀ l e, nextEntry l = some e → e < 48 := by
    intro l e he; unfold nextEntry at he; simpa [Config.lineEntries] using List.mem_of_find?_eq_some he
  have key : ∀ (l : Line) e, l.stations = (s.line n).stations → nextEntry l = some e → StationsKept true [] none (s.setLine n (offerTo e l)) := by
    intro l e hl he
    have hst : vget l.stations e stationReset = s.station n e := by rw [hl]; rfl
    refine h.setLine hn ?_ (by simp) ?_
    · unfold offerTo; dsimp only; split <;> exact hl
    · intro f hf
      have : f = e := by unfold offerTo at hf; dsimp only at hf; split at hf <;> (cases hf; rfl)
      subst this
      refine ⟨hne _ _ he, fun _ hd _ => ?_⟩
      unfold offerTo at hd; dsimp only at hd
      rw [hst] at hd
      intro hnone
      rw [hnone] at hd; cases hd
  unfold goRound
  split
  · rename_i e he; exact key _ e rfl he
  · split
    · split
      · rename_i e he; exact key _ e rfl he
      · exact h.setLine hn rfl (by simp) (fun e he => ⟨(h.offer n e he).1, fun _ hd => by simp [newRound, hidle] at hd⟩)
    · exact h.setLine hn rfl (by simp) (fun e he => ⟨(h.offer n e he).1, fun _ hd => by simp [hidle] at hd⟩)

/-- `disable` keeps the station law. -/
theorem StationsKept.disable {tag p} (h : StationsKept true [] none s) : StationsKept true [] none (disableStation tag p s) := by
  unfold Machine.disableStation; dsimp only
  refine StationsKept.sendLink ?_
  have h1 : StationsKept true [] (some p.1) (s.setStation p.1 p.2 { s.station p.1 p.2 with state := .disabled }) :=
    (h.openOffer p.1 rfl).station (h.kept _ _) (fun k l hk hm => h.flag k l hk _ hm) (by simp)
  have h0 : StationsKept true [] none (s.setStation p.1 p.2 { s.station p.1 p.2 with state := .disabled }) :=
    h.station (h.kept _ _) (fun k l hk hm => h.flag k l hk _ hm) (fun a1 a2 a3 a4 => (h.offer _ _ a2).2 a1 a3 a4)
  generalize hu : s.setStation p.1 p.2 { s.station p.1 p.2 with state := .disabled } = u at h1 h0
  by_cases hp : p.1 < 4 ∧ p.2 < 48
  case neg =>
    have : (u.station p.1 p.2) = stationReset := station_outside hp
    have hd : dropHeld p.1 p.2 u = u := by unfold dropHeld; rw [this]; rfl
    rw [hd]; unfold dropOffer
    split
    · by_cases h4 : p.1 < 4
      · exact h0.setLine h4 rfl (by simp) (fun e he => ⟨(h0.offer _ e he).1, by simp⟩)
      · have : u.setLine p.1 { u.line p.1 with dropAnswer := true } = u := by unfold State.setLine; rw [vset_outside (by omega)]
        rw [this]; exact h0
    · exact h0
  case pos =>
  have h2 : StationsKept true [] (some p.1) (dropHeld p.1 p.2 u) := by
    unfold dropHeld; split
    · rename_i r hr; exact h1.discard (by rw [hr]; simp)
    · exact h1
  have hoffered : ((dropHeld p.1 p.2 u).line p.1).offered = (u.line p.1).offered ∧ (∀ f, f ≠ p.2 → (dropHeld p.1 p.2 u).station p.1 f = u.station p.1 f) ∧ ((dropHeld p.1 p.2 u).line p.1).state = (u.line p.1).state ∧ ((dropHeld p.1 p.2 u).line p.1).dropAnswer = (u.line p.1).dropAnswer := by
    unfold dropHeld; split
    · unfold discardReply
      rename_i r hr
      obtain ⟨v, hv⟩ := setStation_line (s := u) (n := p.1) (e := p.2) (x := { u.station p.1 p.2 with held := none, outstanding := false }) (m := p.1)
      have e1 : ∀ m, (raiseReplyDiscarded p.1 p.2 r.journal (u.setStation p.1 p.2 { u.station p.1 p.2 with held := none, outstanding := false })).line m = (u.setStation p.1 p.2 { u.station p.1 p.2 with held := none, outstanding := false }).line m := fun m => rfl
      refine ⟨by rw [e1, hv], fun f hf => ?_, by rw [e1, hv], by rw [e1, hv]⟩
      have := setStation_station_ne (s := u) (n := p.1) (e := p.2) (m := p.1) (f := f) (x := { u.station p.1 p.2 with held := none, outstanding := false }) (fun hh => by cases hh; exact hf rfl)
      exact this
    · exact ⟨rfl, fun _ _ => rfl, rfl, rfl⟩
  unfold dropOffer
  split
  · exact h2.setLine hp.1 rfl (by intro m hm _ he; cases he; exact hm rfl) (fun e he => ⟨(h2.offer _ e he).1, by simp⟩)
  · rename_i hne
    obtain ⟨n1,n2,n3,n4,n5,n6,n8,n7⟩ := h2
    refine ⟨n1,n2,n3,n4,n5,n6,n8, fun m e hm => ⟨(n7 m e hm).1, fun _ hd hdr => ?_⟩⟩
    by_cases hmp : m = p.1
    · subst hmp
      have hep : e ≠ p.2 := fun he => hne (by rw [hm, he])
      rw [hoffered.2.1 e hep]
      exact (h0.offer p.1 e (by rw [← hoffered.1]; exact hm)).2 (by simp) (by rw [← hoffered.2.2.1]; exact hd) (by rw [← hoffered.2.2.2]; exact hdr)
    · exact (n7 m e hm).2 (by simpa using Ne.symm hmp) hd hdr

/-- A change of every line that leaves flags, held replies and offers. -/
theorem StationsKept.mapLines {f : Line → Line} {t : State} (h : StationsKept b X ending s) (ht : t.lines = s.lines.map f)
    (h1 : t.jc.serving = s.jc.serving) (h2 : t.jc.waiting = s.jc.waiting) (h3 : t.jc.appendQueue = s.jc.appendQueue) (h4 : t.ce.locks = s.ce.locks)
    (hst : ∀ n e, (t.station n e).held = (s.station n e).held ∧ (t.station n e).outstanding = (s.station n e).outstanding)
    (hf : ∀ l, (f l).offered = l.offered ∧ ((f l).state = .delivering → l.state = .delivering) ∧ (f l).dropAnswer = l.dropAnswer) : StationsKept b X ending t := by
  refine h.setLines (ending' := ending) h1 h2 h3 h4 ?_ ?_ ?_
  · intro k l hk p hp; rw [(hst _ _).1, (hst _ _).2]; exact h.flag k l hk p hp
  · intro n e; rw [(hst _ _).1, (hst _ _).2]; exact h.kept n e
  · intro n e
    by_cases hn : n < 4
    · have : t.line n = f (s.line n) := by simp only [State.line, ht]; exact vget_map hn
      rw [this, (hf _).1, (hf _).2.2, (hst _ _).1]
      intro ho; obtain ⟨g1,g2⟩ := h.offer n e ho
      exact ⟨g1, fun a1 a2 a3 => g2 a1 ((hf _).2.1 a2) a3⟩
    · have e1 : t.line n = lineReset := vget_outside (by omega)
      rw [e1]; simp [lineReset]

/-- `openPart` keeps the station law. -/
theorem StationsKept.openPart {tag} (h : StationsKept b X ending s) : StationsKept b X ending (openPart tag s) := by
  unfold Machine.openPart
  refine StationsKept.sendLink (h.mapLines (f := openLine s.jc.appendPeriod) rfl rfl rfl rfl rfl ?_ ?_)
  · intro n e
    by_cases hr : n < 4 ∧ e < 48
    · have e1 : ∀ (t : State), t.lines = s.lines.map (openLine s.jc.appendPeriod) → (t.station n e).held = (s.station n e).held ∧ (t.station n e).outstanding = (s.station n e).outstanding := by
        intro t ht
        simp only [State.station, State.line, ht]
        rw [vget_map (d := lineReset) hr.1]
        unfold openLine; split
        · dsimp only; rw [vget_map (d := stationReset) hr.2]; unfold openEntry; split <;> simp
        · simp
      exact e1 _ rfl
    · rw [station_outside hr, station_outside hr]; simp
  · intro l; unfold openLine; split
    · simp
    · simp

/-- `finishWalk` keeps the station law. -/
theorem StationsKept.finishWalk {w} (h : StationsKept b X ending s) : StationsKept b X ending (finishWalk w s) := by
  unfold Machine.finishWalk; dsimp only
  refine StationsKept.raise (h.mapLines (f := handPeriod (w.period + 1)) rfl rfl rfl rfl rfl ?_ ?_)
  · intro n e
    by_cases hr : n < 4 ∧ e < 48
    · have e1 : ∀ (t : State), t.lines = s.lines.map (handPeriod (w.period + 1)) → (t.station n e).held = (s.station n e).held ∧ (t.station n e).outstanding = (s.station n e).outstanding := by
        intro t ht
        simp only [State.station, State.line, ht]
        rw [vget_map (d := lineReset) hr.1]
        unfold handPeriod; split <;> simp
      exact e1 _ rfl
    · rw [station_outside hr, station_outside hr]; simp
  · intro l; unfold handPeriod; split <;> simp

end Kept

end Sys2Proof.Machine
end

