-- ==== Sys2Proof/Tests/Slice0.lean ====
section
/-! SUPPORT. Tests: the worked examples and figures of spec/, the checks of WellFormed, and for every statement with
hypotheses a state and operands that meet them. -/

set_option Elab.async false

namespace Sys2Proof.Tests
open Sys2Proof Sys2Proof.Machine Sys2Proof.Safety

/-! ### Small states -/

/-- The part idle in a phase, with no access at the port. -/
def inPhase (p : Phase) : State :=
  { State.reset with jc := { State.reset.jc with phase := p, stage := .none, serving := none } }

def service : State := inPhase .service
def setup : State := inPhase .setup

/-- The state with an access in service. -/
def serving (op : PortOp) (s : State) : State := { s with jc := { s.jc with serving := some op } }

/-- The state with the store in FAULT. -/
def inFault (s : State) : State := { s with jc := { s.jc with store := .fault } }

/-- The state with these bytes stored. -/
def storing (a : Nat) (bs : List Byte) (s : State) : State := { s with mem := Memory.writeMany s.mem a bs }

/-- Window 1 of the trading day (12): cards 60,000,000 to 60,099,999 at slot 1. -/
def dayWindow : Window :=
  { enabled := true, low := 60000000, high := 60099999, base := 1, maxBalance := 5000, bonusRate := 1000, bonusThreshold := 1000,
    bonusCap := 2000, order := .paidFirst, reloadable := true, cashable := true, lifetime := 300, groupMask := 255 }

/-- In SERVICE with the window of the trading day and merchant 57 ACTIVE in class 2 and group 3. -/
def day : State :=
  let s := { service with windows := vset service.windows 0 dayWindow }
  { s.setAdmission 57 { state := .active, cls := 2, group := 3 } with
    ht := { s.ht with seconds := 36050, timeSet := true, epoch := 62 } }

/-- Card 60,001,234 of the trading day, in slot 1,235. -/
def dayCard (st : CardState) (paid bonus : Nat) : CardRec :=
  { state := st, number := 60001234, paid := paid, bonus := bonus, lastJournal := 300001, activation := 20, lastPeriod := 20,
    count := 1 }

/-- A request for the card of the trading day by station 7 of line 1. -/
def dayReq (k : CardKind) (amount : Nat) : CardReq :=
  { origin := .station 1 7, kind := k, merchant := 57, card := 60001234, amount := amount, slot := 1235 }

/-- The day with that card stored and its lock 0 owned by a request whose card is being read. -/
def reading (req : CardReq) (r : CardRec) : State :=
  serving (.cardRead 0 1235)
    (storing (cardAddress 1235) r.bytes (day.setLock 0 (some { card := 60001234, owner := req, waiters := [], doing := .reading })))

/-! ### Worked figures of the spec -/

/-- 09, R157: a frame with no body whose inner bytes sum to 300 has the check 0xFED4, sent 0xD4 then 0xFE. -/
theorem test_frame_check : hostFrame 0x30 0xFA [] = [0xC5, 2, 0, 0x30, 0xFA, 0xD4, 0xFE] := by decide

/-- 11, R177: the bytes of a PART-STATUS under tag 0xFA are that command. -/
theorem test_frame_part_status : frameCommand [0xC5, 2, 0, 0x30, 0xFA, 0xD4, 0xFE] = some (.partStatus 0xFA []) := by decide

/-- 09, R157, R177: BALANCE of card 60,001,234 (0x03938BD2) by merchant 57 under tag 5, written out byte by byte. -/
theorem test_frame_balance :
    frameCommand [0xC5, 7, 0, 0x05, 5, 57, 0xD2, 0x8B, 0x93, 0x03, 0xC3, 0xFD] = some (.balance 5 [57, 0xD2, 0x8B, 0x93, 0x03]) := by
  decide

/-- 01: the purse split examples of R18. -/
theorem test_purse_split :
    splitPurses .paidFirst 900 1000 300 = (900, 0) ∧ splitPurses .paidFirst 1150 1000 300 = (1000, 150)
      ∧ splitPurses .bonusFirst 1150 1000 300 = (850, 300) ∧ splitPurses .paidFirst 1300 1000 300 = (1000, 300)
      ∧ splitPurses .bonusFirst 1300 1000 300 = (1000, 300) := by decide

/-- The window of the bonus examples of 01. -/
def bonusWindow : Window := { dayWindow with bonusThreshold := 5000, maxBalance := 50000 }

/-- 01: the bonus examples of R19. -/
theorem test_bonus :
    bonusGiven bonusWindow 4999 4999 0 = (0, false) ∧ bonusGiven bonusWindow 5555 5555 0 = (555, false)
      ∧ bonusGiven bonusWindow 30000 30000 0 = (2000, false) ∧ bonusGiven bonusWindow 49000 49000 0 = (1000, true)
      ∧ bonusGiven bonusWindow 50000 50000 0 = (0, true) ∧ bonusGiven bonusWindow 7500 47500 2000 = (500, true) := by decide

/-- 04: the commission steps of merchant 57, and the void that undoes its capture. -/
theorem test_commission :
    commissionStep 0 1 1999 275 = (54, 9725) ∧ commissionStep 9725 1 4550 275 = (126, 975)
      ∧ commissionStep 975 (-1) 1000 275 = (-28, 5975) ∧ commissionStep 9000 1 333 275 = (10, 575)
      ∧ commissionStep 575 (-1) 333 275 = (-10, 9000) := by decide

/-- 05: the payouts of merchants 12, 30, 57, 88 and 101 at the close of period 14. -/
theorem test_payouts :
    settle .active 6795 = (6795, 0, .paid) ∧ settle .active (-12000) = (0, -12000, .debt)
      ∧ settle .active 2577 = (2577, 0, .paid) ∧ settle .suspended 3440 = (0, 3440, .withheld)
      ∧ settle .closing (-496) = (0, -496, .finalDebt) := by decide

/-- 12: the desk activation hands on paid 4,800 and bonus 200 with CLAMPED. -/
theorem test_day_activation :
    bonusGiven dayWindow 4800 4800 0 = (200, true) ∧ (match decideActivate day dayWindow
      { origin := .link 1, kind := .activate, merchant := 0, card := 60001234, amount := 4800, slot := 1235 } blankCard with
      | .move m => decide (m.paid = 4800 ∧ m.bonus = 200 ∧ m.clamped = true ∧ m.newState = .active)
      | _ => false) = true := by decide

/-- 12: HOLD 6,000 with the partial flag on paid 4,800 and bonus 200 sets aside 5,000. -/
theorem test_day_hold :
    decideHold day dayWindow { dayReq .hold 6000 with partialFlag := true } (dayCard .active 4800 200)
      = .enter { held := 5000, paid := 4800, bonus := 200, available := 5000 } := by decide +kernel

/-- 12: the hold is entered as (62, 1) with expiry 36,350. -/
theorem test_day_hold_entry :
    let h := newHold day (dayReq .hold 6000) { held := 5000, paid := 4800, bonus := 200, available := 5000 }
    (h.epoch, h.serial, h.expiry, h.state) = (62, 1, 36350, .active) := by decide

/-- 03: CAPTURE 2,500 of a BONUS-FIRST hold of paid 2,200 and bonus 800 takes bonus 800 and paid 1,700. -/
theorem test_partial_capture :
    let h : Hold := { epoch := 1, serial := 1, card := 60001234, slot := 1235, merchant := 57, origin := .station 3 12,
                      requested := 3000, held := 3000, paid := 2200, bonus := 800, expiry := 0, state := .claimed }
    let m := captureMovement { dayWindow with order := .bonusFirst } (dayReq .capture 2500) (dayCard .active 5000 800) h
    (m.paid, m.bonus, m.paidDelta, m.bonusDelta) = (3300, 0, -1700, -800) := by decide

/-- 08: the third miss of a PRESENT entry makes it SILENT. -/
theorem test_third_miss :
    let s := day.setStation 2 2 { stationReset with state := .present, misses := 2 }
    ((applyMiss 2 2 s).station 2 2).state = .silent ∧ ((applyMiss 2 2 s).station 2 2).misses = 3 := by decide

/-- 08: the third bad answer makes an entry FAULTY and discards its held reply, journal number 205,310. -/
theorem test_third_bad :
    let s := day.setStation 2 3 { stationReset with
      state := .present, bad := 2, outstanding := true, held := some { kind := 7, status := .ok, journal := 205310 } }
    let t := applyBad 2 3 s
    ((t.station 2 3).state, (t.station 2 3).held, (t.station 2 3).outstanding) = (.faulty, none, false)
      ∧ t.hlp.notices.replyDiscarded = some { line := 2, entry := 3, journal := 205310, count := 1 } := by decide

/-- 01, R6: card 60,001,234 matches window 1. -/
theorem test_window_match : matchWindow day 60001234 = some 0 ∧ matchWindow day 60100000 = none := by decide

/-- 04: the REFUND of the trading day's merchant leaves C 77 and the remainder 0 (12). -/
theorem test_day_refund : commissionStep 7500 (-1) 900 275 = (-24, 0) := by decide

/-! ### The checks of WellFormed -/

/-- A body of 241 bytes is no frame body (R157). -/
theorem wf_body : (Instr.partStatus 1 (List.replicate 241 0)).wf = false := by decide +kernel
/-- A rejected frame ends with the byte that rejects it: its second length byte, or its second check byte (R157, R158). -/
theorem wf_rejected : (Instr.frameRejected [0xC5, 1, 0]).wf = true ∧ (Instr.frameRejected [0xC5, 1, 0, 0xC5]).wf = false
    ∧ (Instr.frameRejected [0xC5, 2, 0, 0x30, 1, 0, 0]).wf = true ∧ (Instr.frameRejected [0xC5, 2, 0, 0x30, 1, 0, 0, 9]).wf = false
    ∧ (Instr.frameRejected (List.replicate 248 0)).wf = false := by decide +kernel
/-- A gap ends a frame that has begun (R158). -/
theorem wf_gap : (Instr.receiveGapExpiry []).wf = false := by decide
/-- A kind byte that names a request is no frame of no request kind (R160). -/
theorem wf_kind : (Instr.noRequestKindFrame 0x30 1 []).wf = false ∧ (Instr.noRequestKindFrame 0x0D 1 []).wf = true := by decide
/-- No hold has serial 0 (R28). -/
theorem wf_serial : (Instr.holdExpiry 0 0).wf = false ∧ (Instr.holdExpiry 0 1).wf = true := by decide
/-- No good answer has more than 246 bytes, and no bad answer has none (R183). -/
theorem wf_answers : (Instr.goodAnswer 0 (List.replicate 247 0)).wf = false ∧ (Instr.badAnswer 0 []).wf = false
    ∧ (Instr.badAnswer 0 (List.replicate 248 0)).wf = false := by decide +kernel
/-- Torn bytes are at most the longest record (R69). -/
theorem wf_residue : (Instr.reset .powerOn 0 (.torn (List.replicate 257 0))).wf = false
    ∧ (Instr.accrualMerchantWriteDone (some (.torn (List.replicate 257 0)))).wf = false := by decide +kernel

/-! ### What meets the statements' hypotheses

One theorem for each statement that has hypotheses, named after it. -/

/-- The hypotheses Admits and TagFree of the requests' statements, for every row of the phase table. -/
theorem witness_TagFree : TagFree 1 service ∧ TagFree 1 setup ∧ TagFree 255 service ∧ TagFree 255 State.reset := by
  refine ⟨⟨rfl, ?_, ?_, ?_⟩, ⟨rfl, ?_, ?_, ?_⟩, ⟨rfl, ?_, ?_, ?_⟩, ⟨rfl, ?_, ?_, ?_⟩⟩ <;> decide +kernel

/-- Each class of requests has a phase that serves it. -/
theorem witness_Admits :
    Admits .trade 1 service ∧ Admits .books 1 setup ∧ Admits .status 1 service ∧ Admits .time 1 service
      ∧ Admits .restart 1 service ∧ Admits .format 1 setup ∧ Admits .config 1 setup ∧ Admits .books 255 service :=
  have h := witness_TagFree
  ⟨⟨h.1, by decide +kernel⟩, ⟨h.2.1, by decide +kernel⟩, ⟨h.1, by decide +kernel⟩, ⟨h.1, by decide +kernel⟩,
    ⟨h.1, by decide +kernel⟩, ⟨h.2.1, by decide +kernel⟩, ⟨h.2.1, by decide +kernel⟩, ⟨h.2.2.1, by decide +kernel⟩⟩

/-- One command waits, and none. -/
theorem witness_StepTakesTheFrontCommand :
    ({ service with pending := [.secondsTick] } : State).pending = .secondsTick :: [] ∧ service.pending = [] := by decide +kernel

/-- A state with a card locked, a hold, a ring entry, a tag in flight, a byte stored and a command waiting. -/
def lively : State :=
  let l : LockSlot := { card := 60001234, owner := dayReq .block 0, waiters := [dayReq .balance 0], doing := .moving }
  let h := newHold day (dayReq .hold 6000) { held := 5000, paid := 4800, bonus := 200, available := 5000 }
  let s := storing 335872 [1] (day.setLock 3 (some l))
  { s with pending := [.secondsTick], ht := { s.ht with holds := [h], serial := 2 }, hlp := { s.hlp with inFlight := [7] } }

/-- The invariants hold there and a step goes on (StepKeepsMemoryForm, StepKeepsAttn, StepKeepsLimits). -/
theorem witness_StepKeepsInvariants :
    MemOk lively ∧ AttnOk lively ∧ LimitsOk lively ∧ (match step lively with | .next _ => true | _ => false) = true := by
  unfold MemOk AttnOk LimitsOk; decide +kernel

/-- HoldsOk holds there. -/
theorem witness_StepKeepsHoldTable : HoldsOk lively := by unfold HoldsOk; decide +kernel

/-- The locks of the state above, by slot. -/
theorem lively_locks (k : Nat) (hk : k < 16) : (lively.lock k).isSome = decide (k = 3) := by
  revert k; decide +kernel

/-- LocksOk holds there. -/
theorem witness_StepKeepsLockTable : LocksOk lively := by
  have h3 : ∀ k l, k < 16 → lively.lock k = some l → k = 3 := fun k l hk hl => by
    have := lively_locks k hk; rw [hl] at this; simpa using this.symm
  refine ⟨fun k l hk hl => ?_, fun k k' l l' hk hk' hl hl' _ => (h3 k l hk hl).trans (h3 k' l' hk' hl').symm⟩
  obtain rfl := h3 k l hk hl
  have e : lively.lock 3
      = some { card := 60001234, owner := dayReq .block 0, waiters := [dayReq .balance 0], doing := .moving } := by decide +kernel
  obtain rfl := Option.some.inj (e.symm.trans hl)
  decide +kernel

/-- A state in FAULT goes on. -/
theorem witness_FaultLastsUntilReset :
    (inFault service).jc.store = .fault ∧ (match exec .secondsTick (inFault service) with | .next _ => true | _ => false) = true := by
  decide +kernel

/-- Nothing waits; and a card read waits between a sweep read and a later card read. -/
theorem witness_PortServesLowestClass :
    service.jc.waiting = [] ∧ PortOp.cardRead 0 1 ≠ .append ∧ (∀ x ∈ [PortOp.sweepRead 1], (PortOp.cardRead 0 1).cls < x.cls)
      ∧ ∀ x ∈ [PortOp.cardRead 1 2, .configRead 0], (PortOp.cardRead 0 1).cls ≤ x.cls := by decide +kernel

/-- A request and a frame of no request kind, each with its frame's parts. -/
theorem witness_HostFramesReadBack :
    (Instr.partStatus 255 []).wf = true ∧ hostParts (.partStatus 255 []) = some (0x30, 255, [])
      ∧ (Instr.noRequestKindFrame 0xFF 1 (List.replicate 240 9)).wf = true := by decide +kernel

/-- A station at the ends of its ranges. -/
theorem witness_TillAnswersReadBack :
    ({ stationReset with merchant := 240, lane := 15 } : Station).merchant < 256
      ∧ ({ stationReset with merchant := 240, lane := 15 } : Station).lane < 256 ∧ ([] : List Byte).length < 240 := by decide +kernel

/-- A card record with its greatest values. -/
theorem witness_CardRecordsReadBack :
    let r : CardRec := { state := .cashed, number := 4294967295, paid := 9999999, bonus := 9999999, lastJournal := 281474976710655,
                         activation := 4294967295, lastPeriod := 4294967295, count := 65535 }
    r.state ≠ .blank ∧ 1 ≤ r.number ∧ r.number < 256 ^ 4 ∧ r.paid ≤ 9999999 ∧ r.bonus ≤ 9999999 ∧ r.lastJournal < 256 ^ 6
      ∧ r.activation < 256 ^ 4 ∧ r.lastPeriod < 256 ^ 4 ∧ r.count < 256 ^ 2 := by decide +kernel

/-- A movement of the trading day as a journal body. -/
def dayMovement (k : CardKind) (kind : MoveKind) : Movement :=
  { kind := kind, req := dayReq k 3700, amount := 3700, paidDelta := -3700, bonusDelta := 0, newState := .active, paid := 1100,
    bonus := 200, readCount := 1, readActivation := 20, held := 5000 }

/-- A journal body and a totals record within their widths. -/
theorem witness_BookRecordsReadBack :
    let b := movementBody (dayMovement .capture .capture) 281474976710655 4294967295
    (b.number < 256 ^ 6 ∧ b.newState < 256 ∧ b.period < 256 ^ 4 ∧ b.merchant < 256 ∧ b.reqKind < 256 ∧ b.card < 256 ^ 4
        ∧ b.slot < 256 ^ 3 ∧ b.amount < 256 ^ 3) ∧ (fitsSigned 4 b.paidDelta = true ∧ fitsSigned 4 b.bonusDelta = true)
      ∧ (b.ref < 256 ^ 6 ∧ b.imagePaid < 256 ^ 3 ∧ b.imageBonus < 256 ^ 3 ∧ b.imageActivation < 256 ^ 4 ∧ b.imageCount < 256 ^ 2)
      ∧ b.origin = .station 1 7
      ∧ totalsFit { totalsReset with outPaid := 140737488355327, paidOut := -140737488355328 } = true
      ∧ (freshTotals 1048576 255).mark < 256 ^ 4 ∧ (freshTotals 1048576 255).capacity < 256 ^ 3 := by decide +kernel

/-- Remainders and signs at their ends; each state of the payout table; a split of all there is; no room left. -/
theorem witness_Arithmetic :
    (9999 < 10000 ∧ ((-1 : Int) = 1 ∨ (-1 : Int) = -1)) ∧ MerchantState.closing = .closing
      ∧ (∀ o : Bool, (if o then PurseOrder.paidFirst else .bonusFirst) = .paidFirst ∨ o = false) ∧ 1300 ≤ 1000 + 300
      ∧ (50000 + 0 ≤ bonusWindow.maxBalance ∧ bonusWindow.bonusThreshold ≤ 50000 ∧ 4999 < bonusWindow.bonusThreshold) := by
  decide +kernel

/-- A station that takes replies, one that does not, and a lock with and without a waiter. -/
theorem witness_AnswersReachTheirOrigin :
    (day.station 3 47).state = .disabled
      ∧ ((day.setStation 3 47 { stationReset with state := .present }).station 3 47).state ≠ .faulty
      ∧ ((day.setStation 3 47 { stationReset with state := .present }).station 3 47).state ≠ .disabled
      ∧ lively.lock 3 = some { card := 60001234, owner := dayReq .block 0, waiters := [dayReq .balance 0], doing := .moving }
      ∧ ((day.setLock 15 (some { card := 1, owner := dayReq .block 0, waiters := [], doing := .moving })).lock 15).isSome = true
      ∧ service.hlp.outbound = [] := by decide +kernel

/-- No access, a read, and a write in service. -/
theorem witness_ResetCommand :
    service.jc.serving = none ∧ State.reset.jc.serving = some .startupTotalsRead ∧ PortOp.startupTotalsRead.write? = none
      ∧ (PortOp.commitMark 1 0 0).write?.isSome = true := by decide +kernel

/-- A length of 1, a sum that is not 0, and a frame broken off. -/
theorem witness_RejectedFramesAreAnswered :
    service.hlp.deaf = false ∧ receive (service.hlp.inbound ++ [0xC5, 1, 0]) = .rejected 4
      ∧ receive (service.hlp.inbound ++ [0xC5, 2, 0, 0x30, 1, 0, 0]) = .rejected 5
      ∧ receive (service.hlp.inbound ++ [0xC5, 2, 0, 0x30]) = .partialFrame := by decide +kernel

/-- A frame of the outbound queue that resets, and one that does not. -/
theorem witness_ReplyFrameSent :
    let f : OutFrame := { kind := 0xB3, tag := 1, reply := plainReply 0x33 .ok, tagged := true, resets := true, begun := true }
    ({ service with hlp := { service.hlp with outbound := [f] } } : State).hlp.outbound = [f] ∧ f.resets = true
      ∧ ({ f with resets := false } : OutFrame).resets = false := by decide +kernel

/-- Kind bytes that name no request. -/
theorem witness_UnknownKindIsRefused : bodyLength? (0xFF : Byte).toNat = none ∧ bodyLength? (0 : Byte).toNat = none := by decide

/-- Tag 0, a tag in flight, and a full table. -/
theorem witness_TagTestRefusals :
    let full : State := { service with hlp := { service.hlp with inFlight := [1, 2, 3, 4, 5, 6, 7, 8] } }
    (requestOf 0x30 0 []).isSome = true ∧ service.hlp.deaf = false ∧ (0 : Byte).toNat = 0
      ∧ ((8 : Byte).toNat ≠ 0 ∧ (8 : Byte).toNat ∈ full.hlp.inFlight)
      ∧ ((9 : Byte).toNat ≠ 0 ∧ (9 : Byte).toNat ∉ full.hlp.inFlight ∧ 8 ≤ full.hlp.inFlight.length) := by decide +kernel

/-- A request of start-up. -/
theorem witness_StartUpAnswersBusy :
    (requestOf 0x30 255 []).isSome = true ∧ 0x30 ≠ 0x32 ∧ State.reset.jc.phase = .startup := by decide +kernel

/-- BALANCE of card 60,001,234 by merchant 57. -/
def dayBalance : List Byte := [57, 0xD2, 0x8B, 0x93, 0x03]

/-- The day's card is in window 1 alone, no slot locks it, and slot 0 is free. -/
theorem witness_CardRequestTakesLock :
    (cardRequest? .balance (.link 1) dayBalance).map CardReq.card = some 60001234
      ∧ (day.window 0).enabled = true ∧ (day.window 0).low ≤ 60001234 ∧ 60001234 ≤ (day.window 0).high
      ∧ (∀ j, j < 16 → day.lock j = none) ∧ day.hlp.deaf = false ∧ day.jc.phase = .service := by decide +kernel

/-- Every slot taken by other cards, or by the day's card in slot 0 with 6 waiters. -/
def crowded (waiters : Nat) (card : Nat) : State :=
  let l (c : Nat) : LockSlot :=
    { card := c, owner := { dayReq .block 0 with card := c }, waiters := List.replicate waiters (dayReq .balance 0), doing := .moving }
  { day with ce := { day.ce with locks := Vector.ofFn fun k : Fin 16 => some (l (if k.val = 0 then card else k.val)) } }

/-- A card in no window; 5 and 6 waiters; every slot taken by another card; a body whose card number is 0. -/
theorem witness_CardRequestWaitsOrIsRefused :
    (∀ v, v < 8 → ¬((service.window v).enabled = true ∧ (service.window v).low ≤ 60001234 ∧ 60001234 ≤ (service.window v).high))
      ∧ ((crowded 5 60001234).lock 0).map (fun l => (l.card, l.waiters.length)) = some (60001234, 5)
      ∧ ((crowded 6 60001234).lock 0).map (fun l => (l.card, l.waiters.length)) = some (60001234, 6)
      ∧ (∀ i, i < 16 → ((crowded 0 77).lock i).map (fun l => decide (l.card ≠ 60001234)) = some true)
      ∧ cardRequest? .balance (.link 1) [57, 0, 0, 0, 0] = none := by decide +kernel

/-- Merchants 1 and 240, store NORMAL and FAULT. -/
theorem witness_BookRequestsJoinAppendQueue :
    service.jc.store = .normal ∧ (inFault service).jc.store = .fault ∧ (1 ≤ 240 ∧ 240 ≤ 240) ∧ [byteOf 240] = [(240 : Byte)] := by
  decide +kernel

/-- A state with untaken records, from number 5 to 7. -/
def untaken : State := { service with jc := { service.jc with oldest := 5, next := 8, untaken := 3 } }

/-- A TAKE-ADVICE in progress at number 5. -/
def advising : State := { untaken with jc := { untaken.jc with advice := some { tag := 1, count := 3, u := 5, records := [] } } }

/-- Records to read, none, FAULT, and another TAKE-ADVICE before it. -/
theorem witness_TakeAdviceIsServed :
    (untaken.jc.advice = none ∧ untaken.jc.store = .normal ∧ untaken.jc.oldest < untaken.jc.next)
      ∧ (service.jc.advice = none ∧ service.jc.next ≤ service.jc.oldest) ∧ (inFault untaken).jc.store = .fault
      ∧ advising.jc.advice ≠ none := by decide +kernel

/-- A list with one entry in each state, its cursor at the entry or at the end. -/
def listing (st : ListState) (cursor : Nat) : State :=
  { service with pcu := { service.pcu with
      state := st, cursor := cursor, period := 20, entries := [.groupEnd 0 1 { g := 0, v := 0, f := 0, s := 0, c := 0, x := 0, payout := 0 }] } }

/-- Each row of R104's table. -/
theorem witness_ReadPayoutFollowsTheCursor :
    ((listing .building 0).pcu.state ≠ .empty ∧ ((listing .building 0).pcu.entries[(listing .building 0).pcu.cursor]?).isSome = true)
      ∧ (listing .building 1).pcu.cursor = (listing .building 1).pcu.entries.length
      ∧ ((listing .complete 1).pcu.state = .complete ∧ (listing .complete 1).pcu.cursor = (listing .complete 1).pcu.entries.length)
      ∧ service.pcu.state = .empty := by decide +kernel

/-- A COMPLETE list with the store NORMAL and in FAULT, and an EMPTY one. -/
theorem witness_ReleasePayoutWritesTotals :
    ((listing .complete 0).pcu.state = .complete ∧ (listing .complete 0).pcu.releasing = false
        ∧ (listing .complete 0).jc.store = .normal ∧ (listing .complete 0).mau.totalsBusy = none)
      ∧ ((inFault (listing .complete 0)).pcu.state = .complete ∧ (inFault (listing .complete 0)).jc.store = .fault)
      ∧ service.pcu.state ≠ .complete := by decide +kernel

/-- A sweep in each state, with and without an outstanding read. -/
def sweeping (st : SweepState) (cursor : Nat) (stale : Bool) : State :=
  { service with asu := { service.asu with state := st, cursor := cursor, outstanding := true, stale := stale }
                 mau := { service.mau with copy := { service.mau.copy with capacity := 3 } } }

/-- IDLE with and without an outstanding read, RUNNING, and FAULT. -/
theorem witness_SweepStartsAndStops :
    (service.jc.store = .normal ∧ service.asu.state = .idle ∧ service.asu.outstanding = false)
      ∧ ((sweeping .idle 0 true).asu.state = .idle ∧ (sweeping .idle 0 true).asu.outstanding = true)
      ∧ (sweeping .running 1 false).asu.state = .running ∧ (inFault service).jc.store = .fault := by decide +kernel

/-- Entry 47 of line 3 as merchant 57 in a state; entry 0 of line 0 with the same identity. -/
def stationed (st other : StationState) (merchant : Nat) : State :=
  (day.setStation 3 47 { stationReset with merchant := merchant, state := st }).setStation 0 0
    { stationReset with merchant := merchant, state := other }

/-- In use; DISABLED with a merchant that trades and no other of its identity; with no merchant; with another. -/
theorem witness_EnableStation :
    ((stationed .silent .disabled 57).station 3 47).state = .silent
      ∧ ((stationed .disabled .disabled 57).station 3 47).state = .disabled
      ∧ (1 ≤ 57 ∧ 57 ≤ 240 ∧ ((stationed .disabled .disabled 57).admission 57).state = .active)
      ∧ (∀ n', n' < 4 → ∀ e', e' < 48 → (n', e') ≠ (3, 47) → ((stationed .disabled .disabled 57).station n' e').state = .disabled)
      ∧ ((stationed .faulty .present 57).station 3 47).state = .faulty
      ∧ (((stationed .faulty .present 57).station 0 0).state ≠ .disabled
        ∧ ((stationed .faulty .present 57).station 0 0).merchant = 57)
      ∧ ((stationed .disabled .disabled 0).station 3 47).merchant = 0 := by decide +kernel

/-- An entry with a held reply, offered the turn. -/
def delivering : State :=
  let s := day.setStation 3 47 { stationReset with merchant := 57, state := .present, outstanding := true,
                                                   held := some (plainReply 7 .ok) }
  s.setLine 3 { s.line 3 with state := .delivering, offered := some 47, answering := true, de := false }

/-- A held reply and none; the entry of the offer in progress. -/
theorem witness_DisableStation :
    (delivering.station 3 47).held = some (plainReply 7 .ok) ∧ (delivering.line 3).offered = some 47
      ∧ (day.station 3 47).held = none := by decide +kernel

/-- The greatest seconds and the one below it; the greatest value to set. -/
theorem witness_NoticesRestartAndTime :
    4294967295 < 256 ^ 4 ∧ service.ht.seconds < 4294967295
      ∧ 4294967295 ≤ ({ service with ht := { service.ht with seconds := 4294967295 } } : State).ht.seconds := by decide +kernel

/-- A SET-LINE with good fields; SET-MERCHANT of a merchant that is not CLOSED, and of a CLOSED one; FAULT. -/
theorem witness_ConfigRequestsReachThePort :
    (requestOf 0x3D 1 [3, 3, 20, 1] = some (.setLine 1 [3, 3, 20, 1])
        ∧ itemFields 0x3D [3, 3, 20, 1] = some (.line 3 { rate := 3, window := 20, enabled := true }))
      ∧ (setup.jc.cfg = none ∧ setup.jc.phase = .setup ∧ setup.jc.store = .normal ∧ (setup.admission 240).state ≠ .closed)
      ∧ ((setup.setAdmission 1 { state := .closed, cls := 0, group := 0 }).admission 1).state = .closed
      ∧ (inFault setup).jc.store = .fault := by decide +kernel

/-- SETUP with empty books, with untaken records, and with a list to release. -/
theorem witness_FormatBegins :
    (setup.jc.cfg = none ∧ setup.jc.untaken = 0 ∧ setup.pcu.state = .empty)
      ∧ (({ setup with jc := { setup.jc with untaken := 1 } } : State).jc.phase = .setup
        ∧ 0 < ({ setup with jc := { setup.jc with untaken := 1 } } : State).jc.untaken)
      ∧ ({ setup with pcu := { setup.pcu with state := .complete } } : State).pcu.state ≠ .empty
      ∧ (1 ≤ 1048576 ∧ 1048576 ≤ 1048576) := by decide +kernel

/-- SETUP with a window that fits, the time set, and two enabled stations of different identities on an enabled line. -/
def ready : State :=
  let s := { setup with windows := vset setup.windows 0 dayWindow, ht := { setup.ht with timeSet := true }
                        mau := { setup.mau with copy := { setup.mau.copy with capacity := 100000 } } }
  let s := s.setAdmission 57 { state := .active, cls := 2, group := 3 }
  let s := s.setLine 1 { s.line 1 with copy := { rate := 2, window := 4, enabled := true } }
  (s.setStation 1 7 { stationReset with merchant := 57, enabled := true, state := .absent }).setStation 1 8
    { stationReset with merchant := 57, lane := 1, enabled := true, state := .absent }

/-- Every check of OPEN-SERVICE passes there: the windows, and the stations. -/
theorem witness_OpenServiceOpensLines :
    (ready.jc.store = .normal ∧ ready.ht.timeSet = true ∧ ready.jc.phase = .setup ∧ ready.jc.cfg = none)
      ∧ (∀ i, i < 8 → (ready.window i).enabled = true → (ready.window i).low ≤ (ready.window i).high
        ∧ (ready.window i).base + ((ready.window i).high - (ready.window i).low) ≤ ready.mau.copy.capacity)
      ∧ (∀ i, i < 8 → (ready.window i).enabled = true → i = 0) := by decide +kernel

/-- And the stations pass. -/
theorem witness_OpenServiceOpensLines_stations :
    (∀ n, n < 4 → ∀ e, e < 48 → (ready.station n e).enabled = true → n = 1 ∧ (e = 7 ∨ e = 8))
      ∧ (1 ≤ (ready.station 1 7).merchant ∧ (ready.station 1 7).merchant ≤ 240)
      ∧ (1 ≤ (ready.station 1 8).merchant ∧ (ready.station 1 8).merchant ≤ 240) := by decide +kernel

/-- With merchants that serve, unlike lanes, and their line enabled. -/
theorem witness_OpenServiceOpensLines_lines :
    (ready.admission (ready.station 1 7).merchant).state = .active
      ∧ (ready.admission (ready.station 1 8).merchant).state = .active
      ∧ (ready.station 1 7).lane ≠ (ready.station 1 8).lane ∧ (ready.line 1).copy.enabled = true
      ∧ (ready.line 0).copy.enabled = false := by decide +kernel

/-- The state with a request of R170 being worked on. -/
def configuring (what : ConfigWhat) (op : PortOp) : State :=
  serving op { setup with jc := { setup.jc with cfg := some { tag := 1, kind := 0x3D, what := what } } }

/-- The write of a line record in service for its request. -/
theorem witness_ConfigWriteCompletes :
    let i : ConfigItem := .line 3 { rate := 3, window := 20, enabled := true }
    (configuring (.item i) (.configWrite i)).jc.serving = some (.configWrite i)
      ∧ (configuring (.item i) (.configWrite i)).jc.cfg = some { tag := 1, kind := 0x3D, what := .item i }
      ∧ (configuring (.item i) (.configWrite i)).jc.cfgWaiting = [] := by decide +kernel

/-- Merchant 57, set up, with nothing in its bank. -/
def activeMerchant : MerchantRec := { freshMerchant 57 with state := .active }

/-- A stored merchant record. -/
def withMerchant (r : MerchantRec) (s : State) : State := storing (merchantAddress r.merchant) r.bytes s

/-- Merchant 240 as FORMAT leaves it, read and written for SET-MERCHANT. -/
theorem witness_SetMerchantCompletes :
    let r := freshMerchant 240
    let s := withMerchant r (configuring (.merchant 240 7 7) (.setMerchantRead 1 240 7 7))
    (s.jc.serving = some (.setMerchantRead 1 240 7 7) ∧ s.jc.store = .normal
        ∧ readMerchant (Memory.readMany s.mem (merchantAddress 240) 256) = some r)
      ∧ ((configuring (.merchant 240 7 7) (.setMerchantWrite 1 240 .unconfigured r)).jc.serving
          = some (.setMerchantWrite 1 240 .unconfigured r)) := by decide +kernel

/-- FORMAT in each of the stages the statement names. -/
theorem witness_FormatWritesFollow :
    let s (job : FormatJob) : State := serving (.formatWrite job.stage 0 0 []) { setup with jc := { setup.jc with format := some job } }
    (s { tag := 1, capacity := 1, stage := 4, written := 4094 }).jc.serving = some (.formatWrite 4 0 0 []) ∧ 4094 + 1 < 4096
      ∧ (s { tag := 1, capacity := 1, stage := 5, written := 0 }).jc.format
        = some { tag := 1, capacity := 1, stage := 5, written := 0 } ∧ 0 + 1 = 1
      ∧ (s { tag := 1, capacity := 1, stage := 6, written := 0 }).jc.store = .normal
      ∧ (s { tag := 1, capacity := 1, stage := 1, written := 0 }).jc.cfgWaiting = [] := by decide +kernel

/-- A failed write of each owner: an accrual's, a walk's, FORMAT's and a totals write's. -/
theorem witness_FailedWritesSetFault :
    let b := movementBody (dayMovement .capture .capture) 5 20
    let a : Accrual := { body := b, stage2 := true, delta := 0, rem := 0 }
    let w : Walk := { j := 6, period := 20, group := 7, merchant := 240 }
    let s : State := { service with mau := { service.mau with accrual := some a } }
    (serving (.accrualWrite 57 (freshMerchant 57)) s).mau.accrual = some a
      ∧ (serving (.totalsWrite .accrual totalsReset 0) s).jc.serving = some (.totalsWrite .accrual totalsReset 0)
      ∧ ({ service with mau := { service.mau with walk := some w } } : State).mau.walk = some w
      ∧ ({ service with mau := { service.mau with walk := some w } } : State).mau.accrual = none
      ∧ (serving (.formatWrite 5 0 335872 []) { setup with jc := { setup.jc with
          format := some { tag := 1, capacity := 1, stage := 5, written := 0 } } }).jc.format.isSome = true := by decide +kernel

/-- The hold of the trading day, in a state. -/
def dayHold (st : HoldState) : Hold :=
  { newHold day (dayReq .hold 6000) { held := 5000, paid := 4800, bonus := 200, available := 5000 } with state := st }

/-- The day with that hold, at a second. -/
def holding (st : HoldState) (seconds : Nat) : State :=
  { day with ht := { day.ht with holds := [dayHold st], serial := 2, seconds := seconds } }

/-- A hold due, one not due, a CLAIMED one, none; a hold on its way to a table with room; a full one is HoldTableFull's. -/
theorem witness_HoldsExpireAndEnter :
    let named (x : Hold) : Bool := x.epoch == (62 : Byte).toNat && x.serial == (1 : BitVec 16).toNat
    ((holding .active 36350).ht.holds.find? named = some (dayHold .active) ∧ (dayHold .active).expiry ≤ 36350)
      ∧ 36349 < (dayHold .active).expiry ∧ (holding .claimed 36350).ht.holds.find? named = some (dayHold .claimed)
      ∧ day.ht.holds.find? named = none
      ∧ (let p : HoldPlan := { held := 5000, paid := 4800, bonus := 200, available := 5000 }
         let s := day.setLock 15 (some { card := 60001234, owner := dayReq .hold 6000, waiters := [], doing := .entering p })
         s.lock 15 = some { card := 60001234, owner := dayReq .hold 6000, waiters := [], doing := .entering p }
           ∧ s.ht.holds.length < 512 ∧ s.ht.serial ∉ s.ht.holds.map Hold.serial) := by decide +kernel

/-- A table of 512 holds of serials 1 to 512 meets HoldsOk, and a hold cannot enter it. -/
theorem witness_HoldTableFull :
    let s : State := { day with ht := { day.ht with serial := 65535, holds := (List.range 512).map fun i =>
      { dayHold .active with serial := i + 1 } } }
    512 ≤ s.ht.holds.length ∧ s.ht.holds.length ≤ 512 ∧ (s.ht.holds.map Hold.serial).Nodup ∧ 1 ≤ s.ht.serial ∧ s.ht.serial ≤ 65535 := by
  decide +kernel

/-- The capture of the trading day at its claim, in lock 0. -/
def claiming (amount merchant : Nat) (s : State) : State :=
  s.setLock 0 (some { card := 60001234, waiters := [], doing := .claiming (dayCard .active 4800 200)
                      owner := { dayReq .capture amount with epoch := 62, serial := 1, merchant := merchant } })

/-- Its hold ACTIVE with the same merchant, another, and too small; CLAIMED or gone with value left, too little, or a group
the window does not allow. -/
theorem witness_HoldClaimDecides :
    let named (x : Hold) : Bool := x.card == 60001234 && x.slot == 1235 && (x.epoch == 62 && x.serial == 1)
    ((claiming 3700 57 (holding .active 36350)).ht.holds.find? named = some (dayHold .active) ∧ (dayHold .active).merchant = 57
        ∧ 3700 ≤ (dayHold .active).held ∧ (dayHold .active).held < 5001 ∧ (dayHold .active).merchant ≠ 58)
      ∧ ((claiming 3700 57 (holding .claimed 36350)).ht.holds.find? named = some (dayHold .claimed)
        ∧ (dayHold .claimed).state = .claimed)
      ∧ (claiming 3700 57 day).ht.holds.find? named = none ∧ ((claiming 3700 57 day).lock 0).isSome = true
      ∧ (dayWindow.groupMask.testBit (day.admission 57).group = true ∧ 3700 ≤ 4800 + 200 ∧ 4800 + 200 < 5001)
      ∧ ({ dayWindow with groupMask := 0xF7 } : Window).groupMask.testBit (day.admission 57).group = false := by decide +kernel

/-- Whether the reading state has what the statements on card reads ask: the access, the lock, and the card. -/
def readsCard (req : CardReq) (r : CardRec) : Bool :=
  let s := reading req r
  decide (s.jc.serving = some (.cardRead 0 1235)) && decide (s.jc.store = .normal)
    && decide (s.lock 0 = some { card := 60001234, owner := req, waiters := [], doing := .reading })
    && decide (readCard (Memory.readMany s.mem (335872 + (1235 - 1) * 32) 32) = some r)

/-- The card read in each state the kinds ask for, and the tests of each kind. -/
theorem witness_CardReadDecidesMovements :
    (readsCard (dayReq .activate 4800) blankCard = true ∧ readsCard (dayReq .load 100) (dayCard .active 4800 100) = true
        ∧ readsCard (dayReq .unblock 0) (dayCard .blocked 4800 200) = true)
      ∧ 4800 ≤ dayWindow.maxBalance ∧ 4800 + 100 + 100 ≤ dayWindow.maxBalance ∧ dayWindow.reloadable = true
      ∧ dayWindow.cashable = true ∧ dayWindow.groupMask.testBit (day.admission 57).group = true
      ∧ (let e : RingEntry := { journal := 300002, card := 60001234, merchant := 57, paid := 100, bonus := 0, period := 20, voided := false }
         ({ day.ce with ring := [e] } : CardEngine).ring.find? (fun x => x.journal == 300002) = some e
           ∧ 4800 + 100 + (e.paid + e.bonus) ≤ dayWindow.maxBalance) := by decide +kernel

/-- A record that fails its check, another card's record, the day's card, and a card with a hold. -/
theorem witness_CardReadAnswers :
    readCard (Memory.readMany (storing (cardAddress 1235) [1] day).mem (335872 + (1235 - 1) * 32) 32) = none
      ∧ readsCard (dayReq .release 0) { dayCard .active 4800 200 with number := 5 } = true
      ∧ readsCard (dayReq .balance 0) (dayCard .cashed 0 0) = true ∧ readsCard (dayReq .hold 6000) (dayCard .active 4800 200) = true
      ∧ ((holding .active 36050).ht.holds.filter fun x => x.card == 60001234 && x.slot == 1235) = [dayHold .active]
      ∧ ((dayHold .active).epoch == 62 && (dayHold .active).serial == 1) = true ∧ (day.admission 57).state = .active := by
  decide +kernel

/-- A record at the head of the append queue: its append due, not due with 32 PENDING, and its write in service. -/
theorem witness_AppendsAreMade :
    let item : AppendItem := .cutoff 1
    let s : State := { service with jc := { service.jc with appendQueue := [item], pendingCount := 31, next := 1 } }
    (s.jc.appendQueue ≠ [] ∧ s.jc.appendIssued = false ∧ s.jc.pendingCount < 32 ∧ s.jc.store = .normal ∧ s.jc.serving = none
        ∧ s.jc.waiting = [])
      ∧ appendTest { s with mau := { s.mau with copy := { s.mau.copy with accrued := 1 } }, jc := { s.jc with appendPeriod := 1 } } item
        = none
      ∧ (serving (.sweepRead 1) s).jc.serving = some (.sweepRead 1) ∧ 32 ≤ ({ s.jc with pendingCount := 32 } : Jc).pendingCount
      ∧ (serving (.appendWrite (itemBody item 1 1)) s).jc.serving = some (.appendWrite (itemBody item 1 1)) := by decide +kernel

/-- The card write of the day's capture in service, with its hold CLAIMED and a sweep past its slot. -/
theorem witness_CardWriteCompletesMovement :
    let s := serving (.cardWrite 0 (dayMovement .capture .capture) 300002 20) (claiming 3700 57 (holding .claimed 36350))
    s.jc.serving = some (.cardWrite 0 (dayMovement .capture .capture) 300002 20) ∧ (dayMovement .capture .capture).kind = .capture
      ∧ ({ s.asu with state := .running, cursor := 1235 } : Asu).cursor = (dayMovement .capture .capture).req.slot := by decide +kernel

/-- The record of the day's capture, and the first marker. -/
def dayBody : JBody := movementBody (dayMovement .capture .capture) 1 20
def dayMarker : JBody := itemBody (.cutoff 1) 1 20

/-- A record next in the queue with a merchant and without one; its merchant's record read; its write in service. -/
theorem witness_AccrualStages :
    let s (b : JBody) : State := { service with mau := { service.mau with queue := [b] } }
    let a : Accrual := { body := dayBody, stage2 := false, delta := 0, rem := 0 }
    let r := freshMerchant 57
    let t := withMerchant r { service with mau := { service.mau with accrual := some a } }
    ((s dayBody).jc.store = .normal ∧ (s dayBody).mau.accrual = none ∧ (s dayBody).mau.walk = none ∧ (s dayBody).jc.phase ≠ .startup
        ∧ (s dayBody).jc.stage = .none)
      ∧ (s dayBody).mau.queue.find? (fun x => x.number == (s dayBody).mau.copy.lastApplied + 1) = some dayBody
      ∧ (dayBody.kind ≠ .periodEnd ∧ 1 ≤ dayBody.merchant ∧ dayBody.merchant ≤ 240 ∧ dayBody.kind ≠ .cashOut ∧ dayBody.kind ≠ .cardState)
      ∧ (totalsFit (applyTotals { dayBody with merchant := 0 } totalsReset) = true ∧ service.mau.totalsBusy = none)
      ∧ readMerchant (Memory.readMany t.mem (12288 + (57 - 1) * 256) 256) = some r ∧ r.lastApplied < dayBody.number
      ∧ bankFits (applyMerchant dayBody tariffReset r).1.bank = true := by decide +kernel

/-- Totals writes in service for an accrual, a walk, a release and an advance, and one due behind them. -/
theorem witness_TotalsWritesComplete :
    let w : Walk := { j := 1, period := 20, group := 7, merchant := 240 }
    let a : Accrual := { body := dayBody, stage2 := true, delta := 0, rem := 0 }
    let s : State := { service with mau := { service.mau with totalsBusy := some .accrual, accrual := some a } }
    (serving (.totalsWrite .accrual totalsReset 0) s).jc.store = .normal ∧ s.mau.accrual = some a ∧ s.mau.totalsDue = []
      ∧ ({ s.mau with walk := some w } : Mau).walk = some w ∧ s.jc.adviceWaiting = []
      ∧ ({ s.mau with totalsDue := [.release 1 20] } : Mau).totalsDue = .release 1 20 :: [] := by decide +kernel

/-- A commit mark in service for an accrual, and for a walk. -/
theorem witness_CommitMarkCompletes :
    let w : Walk := { j := 4096, period := 20, group := 7, merchant := 240 }
    let s := serving (.commitMark 4096 101 7500) service
    s.jc.serving = some (.commitMark 4096 101 7500) ∧ s.jc.stage = .none ∧ s.mau.walk = none
      ∧ ({ s.mau with walk := some w } : Mau).walk = some w ∧ w.j = 4096 := by decide +kernel

/-- A marker next in the queue; a merchant to close, one to pass over, and the last but one; a write in service. -/
theorem witness_CloseWalkCourse :
    let s : State := { service with mau := { service.mau with queue := [dayMarker] } }
    let r : MerchantRec := { freshMerchant 57 with state := .suspended, carry := -300 }
    let w : Walk := { j := 1, period := 20, group := 0, merchant := 239 }
    let t := withMerchant r (serving (.walkRead 57) { service with mau := { service.mau with walk := some w } })
    (s.mau.queue.find? (fun x => x.number == s.mau.copy.lastApplied + 1) = some dayMarker ∧ dayMarker.kind = .periodEnd)
      ∧ (readMerchant (Memory.readMany t.mem (12288 + (57 - 1) * 256) 256) = some r ∧ r.lastClosed ≠ w.period
        ∧ r.group = w.group ∧ r.state ≠ .closed ∧ r.carry ≠ 0 ∧ fitsSigned 6 r.carry = true)
      ∧ ((freshMerchant 57).bank = bankReset ∧ (freshMerchant 57).carry = 0 ∧ (freshMerchant 57).state ≠ .closing)
      ∧ w.merchant < 240 ∧ (closedRecord 20 r (payoutOf 57 20 r)).lastResult = some (payoutOf 57 20 r) := by decide +kernel

/-- A good totals record and a fresh memory's; a merchant's record and a bad one; a COMMITTED slot. -/
theorem witness_BookReadsAreAnswered :
    let bs := dayBody.bytes ++ commitBytes 101 7500
    let s := storing (journalAddress 1) bs advising
    recordOk (Memory.readMany (storing 8192 (freshTotals 3 1).bytes service).mem 8192 64) = true
      ∧ recordOk (Memory.readMany (storing 8192 [1] service).mem 8192 64) = false
      ∧ readMerchant (Memory.readMany (withMerchant (freshMerchant 1) service).mem (12288 + (1 - 1) * 256) 256) = some (freshMerchant 1)
      ∧ readMerchant (Memory.readMany (storing 12288 [1] service).mem (12288 + (1 - 1) * 256) 256) = none
      ∧ (readBody (Memory.readMany s.mem (73728 + (1 - 1) % 4096 * 64) 64) = some dayBody
        ∧ isCommitted (Memory.readMany s.mem (73728 + (1 - 1) % 4096 * 64) 64) = true)
      ∧ (([bs].length < 3 ∧ 5 + [bs].length < advising.jc.next) ∧ advising.mau.totalsBusy = none) := by decide +kernel

/-- A sweep of 3 slots at its first read and at its last, with a readable and an unreadable slot; a stale read. -/
theorem witness_SweepReads :
    (serving (.sweepRead 1) (sweeping .running 0 false)).jc.serving = some (.sweepRead 1)
      ∧ ((sweeping .running 0 false).asu.stale = false ∧ (sweeping .running 0 false).asu.state = .running)
      ∧ (sweeping .running 0 false).asu.cursor + 1 ≠ (sweeping .running 0 false).mau.copy.capacity
      ∧ (sweeping .running 2 false).asu.cursor + 1 = (sweeping .running 2 false).mau.copy.capacity
      ∧ readCard (Memory.readMany service.mem (335872 + (1 - 1) * 32) 32) = some blankCard
      ∧ readCard (Memory.readMany (storing 335872 [1] service).mem (335872 + (1 - 1) * 32) 32) = none
      ∧ (sweeping .idle 0 true).asu.stale = true ∧ (sweeping .running 0 true).asu.state = .running := by decide +kernel

/-- The three totals records start-up may find; a good and a bad configuration record; merchants 1 and 240. -/
theorem witness_StartUpReads :
    (totalsFields (Memory.readMany State.reset.mem 8192 64)).mark ≠ 0x53433438 ∧ State.reset.jc.serving = some .startupTotalsRead
      ∧ ((totalsFields (Memory.readMany (storing 8192 (freshTotals 3 1).bytes State.reset).mem 8192 64)).mark = 0x53433438
        ∧ recordOk (Memory.readMany (storing 8192 (freshTotals 3 1).bytes State.reset).mem 8192 64) = true
        ∧ State.reset.mau.totalsBusy = none)
      ∧ ((totalsFields (Memory.readMany (storing 8192 [0x38, 0x34, 0x43, 0x53] State.reset).mem 8192 64)).mark = 0x53433438
        ∧ recordOk (Memory.readMany (storing 8192 [0x38, 0x34, 0x43, 0x53] State.reset).mem 8192 64) = false)
      ∧ ((readItem 211 (Memory.readMany State.reset.mem (211 * 32) 32)).isSome = true
        ∧ readItem 0 (Memory.readMany (storing 0 [1] State.reset).mem (0 * 32) 32) = none)
      ∧ readMerchant (Memory.readMany (withMerchant (freshMerchant 240) service).mem (12288 + (240 - 1) * 256) 256)
        = some (freshMerchant 240) := by decide +kernel

/-- The scan at a slot that holds its number and at one that does not; recovery's card behind and level; a stored result. -/
theorem witness_RecoverySteps :
    let bs := dayBody.slotBytes
    let s : State := serving (.scanRead 1) (storing (journalAddress 1) bs { State.reset with jc := { State.reset.jc with stage := .scan 1 [] } })
    let r : MerchantRec := { closedRecord 20 activeMerchant (payoutOf 57 20 activeMerchant) with lastClosed := 20 }
    (s.jc.serving = some (.scanRead 1) ∧ s.jc.stage = .scan 1 [] ∧ readBody (Memory.readMany s.mem (73728 + (1 - 1) % 4096 * 64) 64) = some dayBody
        ∧ dayBody.number = 1)
      ∧ (readBody (Memory.readMany s.mem (73728 + (2 - 1) % 4096 * 64) 64)).all (fun b => b.number != 2) = true
      ∧ (2 ≠ s.mau.copy.lastApplied ∧ s.jc.store = .normal ∧ s.pcu.state = .empty
        ∧ s.mau.copy.accrued ≤ s.mau.copy.released + 1)
      ∧ (1 ≤ dayBody.slot ∧ dayBody.slot ≤ 1048576 ∧ dayBody.newState ≤ 3)
      ∧ (recordOk (Memory.readMany (reading (dayReq .capture 1) (dayCard .active 1 1)).mem (335872 + (1235 - 1) * 32) 32) = true
        ∧ dayBody.number ≤ field (Memory.readMany (reading (dayReq .capture 1) (dayCard .active 1 1)).mem (335872 + (1235 - 1) * 32) 32) 11 6
        ∧ field (Memory.readMany service.mem (335872 + (1235 - 1) * 32) 32) 11 6 < dayBody.number)
      ∧ readMerchant (Memory.readMany (withMerchant r service).mem (12288 + (57 - 1) * 256) 256) = some r
      ∧ (r.lastClosed = 20 ∧ r.lastResult.isSome = true) := by decide +kernel

/-- Line 3 in IDLE-GAP with entry 47 as given, at round 8. -/
def turning (st : StationState) (held : Option Reply) : State :=
  let s := day.setStation 3 47 { stationReset with merchant := 57, state := st, held := held }
  s.setLine 3 { s.line 3 with state := .idleGap, round := 8, position := 47 }

/-- An eligible entry with and without a held reply; none eligible; frames sent; all-station frames pending. -/
theorem witness_LineTurns :
    (((turning .silent none).line 3).state = .idleGap ∧ ((turning .silent none).line 3).serviceOpen = none
        ∧ ((turning .silent none).line 3).periodChange = none ∧ ((turning .silent none).line 3).emptyWait = false
        ∧ ((turning .silent none).line 3).position ≤ 47
        ∧ ((turning .silent none).station 3 47).state = .silent ∧ ((turning .silent none).line 3).round % 8 = 0)
      ∧ ((turning .present (some (plainReply 7 .ok))).station 3 47).held.isSome = true
      ∧ ((∀ e, e < 48 → ((turning .faulty none).station 3 e).state = .faulty ∨ ((turning .faulty none).station 3 e).state = .disabled)
        ∧ ((turning .faulty none).line 3).offeredInRound = false)
      ∧ ((delivering.line 3).state = .delivering) := by decide +kernel

/-- Entry 47 of line 3 awaiting its answer: the frames it may hear, and each of its states. -/
theorem witness_LineAnswers :
    ((delivering.line 3).answering = true ∧ (delivering.line 3).offered = some 47 ∧ (delivering.line 3).dropAnswer = false)
      ∧ hear (delivering.station 3 47) [57, 0, 0x11, 0, 0xB6, 0xFF] = .good .pass
      ∧ hear (delivering.station 3 47) [57, 0, 0x12, 1, 5, 0xAF, 0xFF] = .good (.request 5 [])
      ∧ hear (delivering.station 3 47) [57, 0, 0x11, 0, 0, 0] = .bad
      ∧ (delivering.station 3 47).state = .present ∧ (delivering.station 3 47).outstanding = true := by decide +kernel

/-- The link takes a request in any state with an empty in-flight table whose phase serves it. -/
theorem admits_of (c : ReqClass) (tag : Byte) (s : State) (ht : tag.toNat ≠ 0)
    (h : (s.hlp.deaf, s.hlp.inFlight, phaseRefusal c s.jc.phase s.jc.format.isSome) = (false, [], none)) : Admits c tag s := by
  simp only [Prod.mk.injEq] at h
  exact ⟨⟨h.1, ht, by simp [h.2.1], by simp [h.2.1]⟩, h.2.2⟩

/-- The states of the witnesses above take their requests too, each statement's hypotheses together. -/
theorem witness_Admits_states :
    Admits .trade 1 day ∧ Admits .trade 1 (crowded 5 60001234) ∧ Admits .trade 1 (crowded 0 77) ∧ Admits .trade 1 (inFault service)
      ∧ Admits .books 1 untaken ∧ Admits .books 1 (inFault untaken) ∧ Admits .books 1 advising
      ∧ Admits .books 1 (listing .building 0) ∧ Admits .books 1 (listing .building 1) ∧ Admits .books 1 (listing .complete 1)
      ∧ Admits .books 1 (inFault (listing .complete 0)) ∧ Admits .books 1 (sweeping .idle 0 true)
      ∧ Admits .books 1 (sweeping .running 1 false) ∧ Admits .trade 1 (stationed .disabled .disabled 57)
      ∧ Admits .trade 1 (stationed .faulty .present 57) ∧ Admits .trade 1 delivering ∧ Admits .config 1 ready := by
  refine ⟨?_, ?_, ?_, ?_, ?_, ?_, ?_, ?_, ?_, ?_, ?_, ?_, ?_, ?_, ?_, ?_, ?_⟩ <;>
    exact admits_of _ _ _ (by decide) (by decide +kernel)

/-- RewindPayoutSetsCursor, BookReadsAreIssued and CountsAndStatusRequests: merchants 1 and 240, the last entry of a table. -/
theorem witness_BookReadsAreIssued :
    Admits .books 1 service ∧ Admits .status 1 service ∧ (1 ≤ 1 ∧ 1 ≤ 240 ∧ 1 ≤ 240 ∧ 240 ≤ 240) ∧ 3 < 4 ∧ 47 < 48 :=
  ⟨admits_of _ _ _ (by decide) (by decide +kernel), admits_of _ _ _ (by decide) (by decide +kernel), by decide, by decide, by decide⟩

/-! ### What the wider statements' clauses meet

Each clause at a state that meets it; where a command is carried out, the value the rule gives is looked up after it. -/

/-- Whether a command goes on to a state with this property. -/
def after (c : Instr) (s : State) (p : State → Bool) : Bool :=
  match exec c s with
  | .next t => p t
  | _ => false

/-- Status and reason of the reply formed last. -/
def answer (s : State) : Option (Status × Nat) := s.hlp.outbound.getLast?.map fun f => (f.reply.status, f.reply.reason)

/-- Merchant 57's station 7 of line 1 has its movement at append, with station 8's reply held and the link's request waiting. -/
def trading : State :=
  let m : Movement := { dayMovement .capture .capture with req := dayReq .capture 3700 }
  let l : LockSlot := { card := 60001234, owner := dayReq .capture 3700, doing := .moving
                        waiters := [{ dayReq .balance 0 with origin := .link 5 }] }
  let s := day.setLock 3 (some l)
  let s := s.setStation 1 7 { stationReset with merchant := 57, state := .present, outstanding := true }
  let s := s.setStation 1 8 { stationReset with merchant := 57, lane := 1, state := .present, outstanding := true,
                                                held := some (plainReply 7 .ok) }
  { s with pending := [.secondsTick], jc := { s.jc with appendQueue := [.movement 3 m] } }

/-- Its one lock. -/
theorem trading_lock {k : Nat} {l : LockSlot} (h : trading.lock k = some l) :
    k = 3 ∧ l = { card := 60001234, owner := dayReq .capture 3700, doing := .moving
                  waiters := [{ dayReq .balance 0 with origin := .link 5 }] } := by
  by_cases hk : k < 16
  · have e : ∀ k, k < 16 → trading.lock k = if k = 3 then trading.lock 3 else none := by decide +kernel
    have e3 : trading.lock 3 = some { card := 60001234, owner := dayReq .capture 3700, doing := .moving
                                      waiters := [{ dayReq .balance 0 with origin := .link 5 }] } := by decide +kernel
    rw [e k hk] at h
    split at h
    · exact ⟨‹_›, (Option.some.inj (e3.symm.trans h)).symm⟩
    · cases h
  · simp [State.lock, vget, hk] at h

/-- StationsOk, LocksOk, ChainsOk and JournalOk hold there, no access of setup or start-up is in service, and a step goes on. -/
theorem witness_StepKeepsLockTable_stations :
    StationsOk trading ∧ (∀ op, trading.jc.serving ≠ some op) ∧ (match step trading with | .next _ => true | _ => false) = true := by
  have hs : ∀ n, n < 4 → ∀ e, e < 48 → (trading.station n e).held.isSome = true → (trading.station n e).outstanding = true := by
    decide +kernel
  have ho : ∀ n, n < 4 → (trading.line n).offered = none := by decide +kernel
  refine ⟨⟨by decide +kernel, fun t ht => ?_, fun k l hl => ?_, fun k k' l l' hne hl hl' => ?_, fun n e hh => ?_, fun n e he => ?_⟩,
    fun op => by rw [show trading.jc.serving = none from rfl]; simp, by decide +kernel⟩
  · have e : tickets trading = [(3, some (dayReq .capture 3700))] := by decide +kernel
    rw [e, List.mem_singleton] at ht
    subst ht
    exact ⟨{ card := 60001234, owner := dayReq .capture 3700, doing := .moving
             waiters := [{ dayReq .balance 0 with origin := .link 5 }] }, by decide +kernel, by decide +kernel⟩
  · obtain ⟨-, rfl⟩ := trading_lock hl
    decide +kernel
  · exact absurd ((trading_lock hl).1.trans (trading_lock hl').1.symm) hne
  · by_cases hn : n < 4 ∧ e < 48
    · exact hs n hn.1 e hn.2 (Option.isSome_iff_ne_none.2 hh)
    · exfalso; apply hh
      rcases not_and_or.1 hn with h | h
      · rw [State.station, State.line, vget_outside (Nat.le_of_not_lt h)]
        by_cases he : e < 48 <;> simp [vget, lineReset, stationReset, he]
      · rw [State.station, vget_outside (Nat.le_of_not_lt h)]; rfl
  · by_cases hn : n < 4
    · rw [ho n hn] at he; cases he
    · simp [State.line, vget, hn, lineReset] at he

/-- A card with 3 holds and a fourth on its way: LocksOk and ChainsOk hold there, and the entry makes 4. -/
def entering : State :=
  let p : HoldPlan := { held := 1, paid := 1, bonus := 0, available := 1 }
  let s := day.setLock 3 (some { card := 60001234, owner := dayReq .hold 1, waiters := [], doing := .entering p })
  { s with pending := [.holdEntry 3]
           ht := { s.ht with serial := 4, holds := (List.range 3).map fun i => { dayHold .active with serial := i + 1 } } }

theorem entering_lock {k : Nat} {l : LockSlot} (h : entering.lock k = some l) : k = 3 ∧ l.card = 60001234 ∧ l.owner = dayReq .hold 1
    ∧ l.waiters = [] := by
  by_cases hk : k < 16
  · have e : ∀ k, k < 16 → entering.lock k = if k = 3 then entering.lock 3 else none := by decide +kernel
    have e3 : entering.lock 3 = some { card := 60001234, owner := dayReq .hold 1, waiters := []
                                       doing := .entering { held := 1, paid := 1, bonus := 0, available := 1 } } := by decide +kernel
    rw [e k hk] at h
    split at h
    · obtain rfl := Option.some.inj (e3.symm.trans h)
      exact ⟨‹_›, rfl, rfl, rfl⟩
    · cases h
  · simp [State.lock, vget, hk] at h

theorem witness_StepKeepsHoldTable_chains :
    LocksOk entering ∧ ChainsOk entering
      ∧ (match step entering with | .next t => decide ((t.chain 60001234 1235).length = 4) | _ => false) = true := by
  refine ⟨⟨fun k l _ hl => ?_, fun k k' l l' _ _ hl hl' _ => (entering_lock hl).1.trans (entering_lock hl').1.symm⟩,
    ⟨fun card slot => ?_, fun k l p hl _ => ?_⟩, by decide +kernel⟩
  · obtain ⟨-, hc, ho, hw⟩ := entering_lock hl
    rw [ho, hw, hc]; decide
  · refine (List.length_filter_le _ _).trans ?_
    decide +kernel
  · rw [(entering_lock hl).2.2.1]; decide +kernel

/-- The last record of which there is room: 31 PENDING and 4,095 untaken, the append in service. -/
def nearlyFull : State :=
  let b : JBody := itemBody (.cutoff 1) 4096 20
  { service with jc := { service.jc with
      next := 4096, oldest := 1, untaken := 4095, pendingCount := 31, appendPeriod := 20, appendQueue := [.cutoff 1, .cutoff 2],
      appendIssued := true, serving := some (.appendWrite b) } }

theorem witness_StepKeepsLimits_journal :
    JournalOk nearlyFull ∧ after .appendWriteDone nearlyFull (fun t => decide (t.jc.pendingCount = 32 ∧ t.jc.untaken = 4096
      ∧ t.jc.appendIssued = false ∧ t.jc.serving = none)) = true := by
  refine ⟨⟨by decide, by decide, by decide, by decide, fun b h => by simp [nearlyFull, service, inPhase, State.reset, resetWith] at h,
    fun op h => ?_⟩, by decide +kernel⟩
  obtain rfl := Option.some.inj (show some _ = some op from h)
  exact ⟨by simp, fun b _ => by decide⟩

/-- An append access due, and not due at 32 PENDING; an append waiting below a card read, passed and refused. -/
theorem witness_PortServesLowestClass_append :
    let s : State := { day with jc := { day.jc with appendQueue := [.cutoff 1], pendingCount := 31, appendPeriod := 20, next := 1
                                                    oldest := 1 }
                                mau := { day.mau with copy := { day.mau.copy with accrued := 20 } } }
    let full : State := { s with jc := { s.jc with pendingCount := 32 } }
    let w : State := { s with jc := { s.jc with appendIssued := true, waiting := [.cardRead 0 1, .append, .sweepRead 1] } }
    let late : State := { w with mau := { w.mau with copy := { w.mau.copy with accrued := 19 } } }
    (mayAppend s = true ∧ mayAppend full = false ∧ (portNext 2 full).jc.serving = none)
      ∧ ((portNext 2 s).jc.serving = some (.appendWrite (itemBody (.cutoff 1) 1 20)) ∧ (portNext 2 s).jc.waiting = [])
      ∧ ((∀ x ∈ [PortOp.cardRead 0 1], PortOp.append.cls < x.cls) ∧ (∀ x ∈ [PortOp.sweepRead 1], PortOp.append.cls ≤ x.cls)
        ∧ (portNext 2 w).jc.serving = some (.appendWrite (itemBody (.cutoff 1) 1 20))
        ∧ (portNext 2 w).jc.waiting = [.cardRead 0 1, .sweepRead 1])
      ∧ (answer (portNext 2 late) = some (.closeRefused, 33) ∧ (portNext 2 late).jc.serving = some (.cardRead 0 1)
        ∧ (portNext 2 late).jc.appendQueue = []) := by decide +kernel

/-- Each outcome of the append tests, at the ends of their ranges. -/
theorem witness_PortServesLowestClass_tests :
    let s (next untaken period accrued : Nat) (st : MerchantState) (l : ListState) : State :=
      let s := day.setAdmission 57 { state := st, cls := 0, group := 0 }
      { s with jc := { s.jc with next := next, untaken := untaken, appendPeriod := period }
               mau := { s.mau with copy := { s.mau.copy with accrued := accrued } }, pcu := { s.pcu with state := l } }
    let test (t : State) (i : AppendItem) : Option (Status × Nat) := (appendTest t i).map fun x => (x.1, x.2.1)
    let move (k : MoveKind) (p : Nat) : AppendItem := .movement 0 { dayMovement .capture k with capturePeriod := p }
    let top := 281474976710655
    (test (s 1 4096 20 20 .active .empty) (move .capture 0) = some (.journalFull, 0)
        ∧ test (s top 4095 20 20 .active .empty) (move .capture 0) = some (.journalFull, 0)
        ∧ test (s (top - 1) 4095 20 20 .active .empty) (move .capture 0) = none
        ∧ test (s top 4095 20 20 .active .empty) (.cutoff 1) = none
        ∧ test (s (top + 1) 4095 20 20 .active .empty) (.cutoff 1) = some (.journalFull, 0))
      ∧ (test (s 1 0 20 20 .suspended .empty) (move .capture 0) = none
        ∧ test (s 1 0 20 20 .suspended .empty) (move .redeem 0) = some (.merchantState, 0)
        ∧ test (s 1 0 20 20 .closing .empty) (move .capture 0) = some (.merchantState, 0)
        ∧ test (s 1 0 20 20 .active .empty) (move .void 20) = none
        ∧ test (s 1 0 20 20 .active .empty) (move .void 19) = some (.voidTooLate, 0))
      ∧ (test (s 1 0 20 20 .suspended .empty) (.admin 1 .resume 57) = none
        ∧ test (s 1 0 20 20 .closing .empty) (.admin 1 .close 57) = some (.merchantState, 0))
      ∧ (test (s 1 0 20 20 .active .complete) (.cutoff 1) = some (.closeRefused, 32)
        ∧ test (s 1 0 20 19 .active .empty) (.cutoff 1) = some (.closeRefused, 33)
        ∧ test (s 1 0 4294967295 4294967295 .active .empty) (.cutoff 1) = some (.closeRefused, 34)
        ∧ test (s 1 0 4294967294 4294967294 .active .empty) (.cutoff 1) = none)
      ∧ test (inFault (s 1 0 20 20 .active .empty)) (.cutoff 1) = some (.storeFault, 0) := by decide +kernel

/-- A merchant record and the four configuration records at the ends of their fields' ranges. -/
theorem witness_BookRecordsReadBack_records :
    let k : Bank := { bankReset with g := 140737488355327, x := -140737488355328, captures := 4294967295, rho := 65535 }
    let r : MerchantRec := { freshMerchant 240 with
      cls := 7, group := 7, carry := -140737488355328, bank := k, lastApplied := 281474976710655, lastClosed := 4294967295
      lastResult := some { payoutOf 240 4294967295 activeMerchant with group := 7, payout := 140737488355327 } }
    (bankFits k = true ∧ fitsSigned 6 r.carry = true ∧ readMerchant r.bytes = some r)
      ∧ (let i : ConfigItem := .window 7 { dayWindow with low := 4294967295, high := 4294967295, base := 16777215, groupMask := 255 }
         readItem i.index i.bytes = some i)
      ∧ (let i : ConfigItem := .tariff 7 { rate := 65535, fee := 65535, cap := 16777215 }; readItem i.index i.bytes = some i)
      ∧ (let i : ConfigItem := .line 3 { rate := 3, window := 255, enabled := true }; readItem i.index i.bytes = some i)
      ∧ (let i : ConfigItem := .station 3 47 255 255 true; i.index = 211 ∧ readItem i.index i.bytes = some i) := by decide +kernel

/-- Holds that set aside all of both purses but 1: a hold of that 1, a redemption of it, and a capture of the hold's all. -/
theorem witness_PurseAndBonusRules_holds :
    let h : Hold := { dayHold .active with held := 4999, paid := 4800, bonus := 199 }
    let s : State := { day with ht := { day.ht with holds := [h] } }
    let r := dayCard .active 4800 200
    ((s.ht.holds.map Hold.paid).sum ≤ r.paid ∧ (s.ht.holds.map Hold.bonus).sum ≤ r.bonus ∧ h.paid + h.bonus = h.held)
      ∧ decideHold s dayWindow (dayReq .hold 1) r = .enter { held := 1, paid := 0, bonus := 1, available := 1 }
      ∧ (match decideRedeem s dayWindow (dayReq .redeem 1) r with | .move m => decide (m.bonus = 199) | _ => false) = true
      ∧ (captureMovement dayWindow (dayReq .capture 4999) r h).paid = 0 := by decide +kernel

/-- Good and bad fields of a request; each row of the phase table; FORMAT running. -/
theorem witness_StartUpAnswersBusy_phases :
    let bare := inPhase .unformatted
    let formatting : State := { setup with jc := { setup.jc with format := some { tag := 9, capacity := 1, stage := 1, written := 0 } } }
    let got (c : Instr) (s : State) (st : Status) (reason : Nat) : Bool := after c s fun t => decide (answer t = some (st, reason))
    (goodFields 0x30 1 [] = true ∧ goodFields 0x30 1 [0] = false ∧ goodFields 0x05 1 dayBalance = true
        ∧ goodFields 0x1D 1 [0] = false ∧ goodFields 0x1D 1 [240] = true ∧ goodFields 0x3E 1 [] = true)
      ∧ (got (.partStatus 1 [0]) State.reset .badRequest 1 = true ∧ got (.partStatus 1 []) State.reset .busy 0 = true
        ∧ got (.setTime 1 [0, 0, 0, 0]) State.reset .ok 0 = true)
      ∧ (got (.restart 1 []) formatting .busy 0 = true ∧ got (.partStatus 1 []) formatting .ok 0 = true)
      ∧ (got (.readTotals 1 []) bare .notInPhase 0 = true ∧ got (.openService 1 []) bare .notInPhase 0 = true
        ∧ got (.balance 1 dayBalance) setup .notInPhase 0 = true ∧ got (.startSweep 1 []) setup .notInPhase 0 = true)
      ∧ (got (.setLine 1 [3, 3, 20, 1]) service .configRefused 25 = true ∧ got (.format 1 [1, 0, 0]) service .configRefused 25 = true
        ∧ got (.openService 1 []) service .configRefused 23 = true) := by decide +kernel

/-- A CUTOFF with its append due on an idle port and on a busy one, and not due at 32 PENDING. -/
theorem witness_BookRequestsJoinAppendQueue_due :
    let s (pending : Nat) : State := { day with jc := { day.jc with pendingCount := pending, next := 1, appendPeriod := 20 }
                                                mau := { day.mau with copy := { day.mau.copy with accrued := 20 } } }
    after (.cutoff 1 []) (s 31) (fun t => decide (t.jc.serving = some (.appendWrite (itemBody (.cutoff 1) 1 20)))) = true
      ∧ after (.cutoff 1 []) (serving (.sweepRead 1) (s 31)) (fun t => decide (t.jc.waiting = [.append])) = true
      ∧ after (.cutoff 1 []) (s 32) (fun t => decide (t.jc.serving = none ∧ t.jc.appendQueue = [.cutoff 1])) = true := by
  decide +kernel

/-- A request of R170 behind another; a waiting one taken in SETUP, in FAULT and in SERVICE. -/
theorem witness_ConfigRequestsReachThePort_waiting :
    let busy := configuring (.merchant 240 7 7) (.setMerchantRead 1 240 7 7)
    let i : ConfigItem := .line 3 { rate := 3, window := 20, enabled := true }
    let q : ConfigReq := { tag := 2, kind := 0x3D, what := .item i }
    (busy.jc.cfg ≠ none ∧ after (.setLine 2 [3, 3, 20, 1]) busy (fun t => decide (t.jc.cfgWaiting = [q])) = true
        ∧ after (.openService 2 []) busy (fun t => decide (t.jc.cfgWaiting.length = 1)) = true)
      ∧ ((runCfg [q] setup).jc.serving = some (.configWrite i) ∧ answer (runCfg [q] (inFault setup)) = some (.storeFault, 0)
        ∧ answer (runCfg [q] service) = some (.configRefused, 25)
        ∧ answer (runCfg [{ q with kind := 0x3E, what := .openService }] service) = some (.configRefused, 23)) := by decide +kernel

/-- Each check of OPEN-SERVICE, failing first. -/
theorem witness_OpenServiceOpensLines_checks :
    let got (s : State) (reason : Nat) (item : List Byte) : Bool := after (.openService 1 []) s fun t =>
      decide (answer t = some (.configRefused, reason)) && decide (t.hlp.outbound.getLast?.map (fun f => f.reply.figures) = some item)
    let window (i : Nat) (w : Window) (s : State) : State := { s with windows := vset s.windows i w }
    (got (inFault ready) 16 [] = true ∧ got { ready with ht := { ready.ht with timeSet := false } } 17 [] = true)
      ∧ (got (window 7 { dayWindow with low := 2, high := 1 } ready) 18 [8] = true
        ∧ got (window 7 { dayWindow with base := 1 + 1 } ready) 19 [8] = true
        ∧ got (window 7 { dayWindow with low := 1, high := 1, base := 100000 } ready) 20 [8] = true)
      ∧ (got (ready.setStation 3 47 { stationReset with enabled := true, state := .absent }) 21 [3, 47] = true
        ∧ got (ready.setStation 3 47 { stationReset with merchant := 57, lane := 1, enabled := true, state := .absent }) 22 [3, 47] = true)
      ∧ after (.openService 1 []) ready (fun t => decide (t.jc.phase = .service ∧ (t.line 1).state = .idleGap
          ∧ (t.line 0).state = .closed ∧ answer t = some (.ok, 0))) = true := by decide +kernel

/-- SET-MERCHANT's read: good, in FAULT, bad, bad in FAULT; its write's OK. -/
theorem witness_SetMerchantCompletes_reads :
    let s (r : List Byte) : State :=
      storing (merchantAddress 240) r (configuring (.merchant 240 7 7) (.setMerchantRead 1 240 7 7))
    let good := s (freshMerchant 240).bytes
    let bad := s [1]
    let told (t : State) : Bool := decide (t.jc.store = .fault) && decide (answer t = some (.storeFault, 0))
      && decide (t.hlp.notices.storeFault = some { region := .merchants, journal := 0 })
    (after .setMerchantReadDone good (fun t => decide (t.jc.serving = some (.setMerchantWrite 1 240 .unconfigured
          { freshMerchant 240 with cls := 7, group := 7, state := .active }))) = true
        ∧ after .setMerchantReadDone (inFault good) (fun t => decide (answer t = some (.storeFault, 0)
          ∧ t.hlp.notices.storeFault = none)) = true)
      ∧ (after .setMerchantReadDone bad told = true ∧ after .setMerchantReadDone (inFault bad) told = true)
      ∧ after .setMerchantWriteDone (configuring (.merchant 240 7 7) (.setMerchantWrite 1 240 .unconfigured
          { freshMerchant 240 with cls := 7, group := 7, state := .active }))
        (fun t => decide (answer t = some (.ok, 0) ∧ t.admission 240 = { state := .active, cls := 7, group := 7 })) = true := by
  decide +kernel

/-- FORMAT's write number `written` of a stage in service, with 2 slots to format. -/
def formatting (stage written : Nat) : State :=
  let job : FormatJob := { tag := 1, capacity := 2, stage := stage, written := written }
  let r := formatRecord 2 62 stage written
  let s : State := { setup with
    ht := { setup.ht with epoch := 62 }
    jc := { setup.jc with format := some job, cfg := some { tag := 1, kind := 0x38, what := .format 2 } } }
  serving (.formatWrite stage written r.1 r.2)
    ((s.setAdmission 57 { state := .active, cls := 2, group := 3 }).setStation 3 47 { stationReset with merchant := 57, enabled := true })

/-- Every stage inside it and its passage to the next: which write FORMAT makes next. -/
theorem witness_FormatWritesFollow_stages :
    let next (stage written stage' index a : Nat) : Bool := after .formatWriteDone (formatting stage written) fun t =>
      match t.jc.serving with
      | some (.formatWrite st i a' _) => decide (st = stage' ∧ i = index ∧ a' = a)
      | _ => false
    (next 1 0 2 0 0 = true ∧ next 2 0 2 1 32 = true ∧ next 2 210 2 211 (211 * 32) = true ∧ next 2 211 3 0 12288 = true)
      ∧ (next 3 238 3 239 (12288 + 239 * 256) = true ∧ next 3 239 4 0 73728 = true)
      ∧ (next 4 4094 4 4095 (73728 + 4095 * 64) = true ∧ next 4 4095 5 0 335872 = true)
      ∧ (next 5 0 5 1 (335872 + 32) = true ∧ next 5 1 6 0 8192 = true) := by decide +kernel

/-- The last write in NORMAL and in FAULT: the books are fresh either way. -/
theorem witness_FormatWritesFollow_ends :
    let books (t : State) : Bool := decide (t.admission 57 = admissionReset) && decide (t.station 3 47 = stationReset)
      && decide ((t.jc.next, t.jc.oldest, t.jc.appendPeriod, t.mau.copy.capacity, t.mau.copy.epoch) = (1, 1, 1, 2, 62))
      && decide (answer t = some (.ok, 0))
    after .formatWriteDone (formatting 6 0) (fun t => books t && decide (t.jc.phase = .setup ∧ t.hlp.deaf = false)) = true
      ∧ after .formatWriteDone (inFault (formatting 6 0)) (fun t => books t && decide (t.jc.store = .fault ∧ t.hlp.deaf = true)) = true := by
  decide +kernel

/-- A failed FORMAT write of each stage names its region and leaves the part UNFORMATTED. -/
theorem witness_FailedWritesSetFault_format :
    ∀ p ∈ [(1, Region.totals), (2, .config), (3, .merchants), (4, .journal), (5, .cards), (6, .totals)],
      after (.formatWriteFails .unwritten) (formatting p.1 0) (fun t => decide (t.jc.store = .fault ∧ t.jc.phase = .unformatted
        ∧ t.jc.format = none ∧ t.hlp.notices.storeFault = some { region := p.2, journal := 0 })) = true := by decide +kernel

/-- What FAULT ends: an append queue behind an issued append, with a claimed hold; a running sweep; totals writes due. -/
theorem witness_FailedWritesSetFault_effects :
    let m : Movement := { dayMovement .capture .capture with req := { dayReq .capture 3700 with origin := .link 7, epoch := 62, serial := 1 } }
    let s0 := holding .claimed 36350
    let s1 := s0.setLock 0 (some { card := 60001234, owner := m.req, waiters := [], doing := .moving })
    let s : State := { s1 with
      jc := { s1.jc with appendIssued := true, appendQueue := [.cutoff 1, .movement 0 m, .admin 3 .close 57] }
      mau := { s1.mau with totalsDue := [.accrual, .release 4 20, .advice 5 1 []], accrual := some { body := dayBody, stage2 := true, delta := 0, rem := 0 } }
      pcu := { s1.pcu with state := .complete, releasing := true }
      asu := { s1.asu with state := .running, outstanding := true } }
    let t := enterFault .journal 9 s
    s.jc.store = .normal ∧ t.jc.store = .fault ∧ t.jc.appendQueue = [.cutoff 1]
      ∧ (t.hlp.outbound.map fun f => (f.tag, f.reply.kind, f.reply.status))
        = [(7, 6, .storeFault), (3, 0x12, .storeFault), (4, 0x1B, .storeFault), (5, 0x18, .storeFault)]
      ∧ t.ht.holds = [dayHold .active] ∧ (t.mau.totalsDue = [] ∧ t.mau.accrual = none ∧ t.pcu.releasing = false)
      ∧ (t.asu.state = .idle ∧ t.asu.stale = true) := by decide +kernel

/-- An append that completes in FAULT and one that fails; a card write that fails. -/
theorem witness_FailedWritesSetFault_replies :
    let told (t : State) : Bool := decide (answer t = some (.storeFault, 0)) && decide (t.jc.store = .fault ∧ t.jc.appendQueue = [])
    let s : State := { nearlyFull with jc := { nearlyFull.jc with appendQueue := [.cutoff 1] } }
    after .appendWriteDone (inFault s) told = true ∧ after (.appendWriteFails .unwritten) s told = true
      ∧ after (.cardWriteFails .written) (serving (.cardWrite 0 { dayMovement .capture .capture with
            req := { dayReq .capture 3700 with origin := .link 7, epoch := 62, serial := 1 } } 300002 20)
          (claiming 3700 57 (holding .claimed 36350)))
        (fun t => told t && decide (t.ht.holds = [] ∧ t.lock 0 = none)) = true := by decide +kernel

/-- The refusals of each decision, at the values next to those it takes. -/
theorem witness_CardReadAnswers_refusals :
    let got (f : State → State) (req : CardReq) (r : CardRec) (st : Status) : Bool :=
      after .cardReadDone (f (reading { req with origin := .link 7 } r)) fun t => decide (answer t = some (st, 0))
    let win (f : Window → Window) (s : State) : State := { s with windows := vset s.windows 0 (f dayWindow) }
    let held (n : Nat) (s : State) : State :=
      { s with ht := { s.ht with holds := (List.range n).map fun i => { dayHold .active with serial := i + 1, paid := 1, bonus := 0 } } }
    let active := dayCard .active 4800 200
    let noGroup := win fun w => { w with groupMask := 0xF7 }
    (got noGroup (dayReq .activate 1) blankCard .programmeRule = true ∧ got noGroup (dayReq .hold 1) active .programmeRule = true
        ∧ got (win fun w => { w with reloadable := false }) (dayReq .load 1) active .programmeRule = true
        ∧ got (win fun w => { w with cashable := false }) (dayReq .cashOut 0) active .programmeRule = true
        ∧ got id (dayReq .refund 1) active .programmeRule = true)
      ∧ (got id (dayReq .activate 5001) blankCard .overLimit = true ∧ got id (dayReq .load 1) active .overLimit = true
        ∧ got id { dayReq .refund 1 with merchant := 0 } active .overLimit = true)
      ∧ (got id (dayReq .redeem 5001) active .insufficient = true
        ∧ got id { dayReq .redeem 1 with partialFlag := true } (dayCard .active 0 0) .insufficient = true)
      ∧ (got (fun s => s.setAdmission 57 { state := .suspended, cls := 2, group := 3 }) (dayReq .hold 1) active .merchantState = true
        ∧ got (held 4) (dayReq .hold 1) active .holdLimit = true ∧ got (held 1) (dayReq .cashOut 0) active .holdsPresent = true)
      ∧ got id { dayReq .void 0 with voided := 300002 } active .voidTooLate = true := by decide +kernel

/-- A table full of other cards' holds; a VOID whose shares no longer fit. -/
theorem witness_CardReadAnswers_full :
    let full (s : State) : State :=
      { s with ht := { s.ht with holds := List.replicate 512 { dayHold .active with card := 5 } } }
    let e : RingEntry := { journal := 300002, card := 60001234, merchant := 57, paid := 1, bonus := 0, period := 20, voided := false }
    after .cardReadDone (full (reading { dayReq .hold 1 with origin := .link 7 } (dayCard .active 4800 200)))
        (fun t => decide (answer t = some (.holdTableFull, 0))) = true
      ∧ (let s := reading { dayReq .void 0 with origin := .link 7, voided := 300002 } (dayCard .active 4800 200)
         after .cardReadDone { s with ce := { s.ce with ring := [e] } } (fun t => decide (answer t = some (.overLimit, 0)))) = true := by
  decide +kernel

/-- The append that brings the untaken count to 3,072, and the ones around it. -/
theorem witness_AppendsAreMade_high :
    let s (untaken : Nat) : State := { nearlyFull with jc := { nearlyFull.jc with untaken := untaken, appendQueue := [.cutoff 1] } }
    let high (untaken : Nat) (n : Option Nat) : Bool := after .appendWriteDone (s untaken) fun t => decide (t.hlp.notices.journalHigh = n)
    high 3070 none = true ∧ high 3071 (some 3072) = true ∧ high 3072 none = true := by decide +kernel

/-- The walk at merchant 240 of group 0 and of group 7, with and without records, and at a stored result. -/
theorem witness_CloseWalkCourse_ends :
    let r : MerchantRec := { activeMerchant with merchant := 240, lastClosed := 20, lastResult := some (payoutOf 240 20 activeMerchant) }
    let at240 (group : Nat) (r : MerchantRec) : State := withMerchant r (serving (.walkRead 240) { service with
      mau := { service.mau with walk := some { j := 1, period := 20, group := group, merchant := 240 } }
      pcu := { service.pcu with state := .building, period := 20 } })
    let got (group : Nat) (r : MerchantRec) (n : Nat) (op : PortOp → Bool) : Bool :=
      after .walkMerchantReadDone (at240 group r) fun t => decide (t.pcu.entries.length = n) && (t.jc.serving.any op)
    (got 0 (freshMerchant 240) 0 (fun op => decide (op = .walkRead 1)) = true ∧ got 0 r 2 (fun op => decide (op = .walkRead 1)) = true)
      ∧ (got 7 r 1 (fun op => match op with | .totalsWrite .walkEnd c _ => decide (c.accrued = 21 ∧ c.lastApplied = 1) | _ => false) = true
        ∧ sumsFit (sumsOf [payoutOf 240 20 activeMerchant]) = true) := by decide +kernel

/-- TAKE-ADVICE at a PENDING slot, first and second, and at a bad one in NORMAL and in FAULT; a last result. -/
theorem witness_BookReadsAreAnswered_stops :
    let s (records : List (List Byte)) (slot : List Byte) : State := storing (journalAddress 5) slot (serving (.adviceRead 5)
      { untaken with jc := { untaken.jc with advice := some { tag := 1, count := 3, u := 5, records := records } } })
    let told (t : State) : Bool := decide (answer t = some (.storeFault, 0)) && decide (t.hlp.notices.storeFault = some { region := .journal, journal := 5 })
    after .adviceReadDone (s [] dayBody.slotBytes) (fun t => decide (answer t = some (.ok, 0) ∧ t.jc.advice = none)) = true
      ∧ after .adviceReadDone (s [[]] dayBody.slotBytes) (fun t => t.jc.serving.any fun op =>
          match op with | .totalsWrite _ c _ => decide (c.oldest = 6) | _ => false) = true
      ∧ (after .adviceReadDone (s [] [1]) told = true ∧ after .adviceReadDone (inFault (s [] [1])) told = true)
      ∧ (lastResultFigures (some (payoutOf 240 20 activeMerchant))).length = 91 ∧ (lastResultFigures none).length = 91 := by
  decide +kernel

/-- The rebuild at merchant 240 of its first and its last pass. -/
theorem witness_RecoverySteps_rebuild :
    let r : MerchantRec := { activeMerchant with merchant := 240, lastClosed := 20, lastResult := some (payoutOf 240 20 activeMerchant) }
    let s (group : Nat) : State := withMerchant r (serving (.rebuildRead 240) { State.reset with
      jc := { State.reset.jc with stage := .rebuild }
      pcu := { State.reset.pcu with state := .building, period := 20, rebuild := some (group, 240) } })
    after .rebuildReadDone (s 0) (fun t => decide (t.pcu.rebuild = some (1, 1) ∧ t.pcu.entries.length = 2
        ∧ t.jc.serving = some (.rebuildRead 1))) = true
      ∧ after .rebuildReadDone (s 7) (fun t => decide (t.pcu.rebuild = none ∧ t.pcu.state = .complete ∧ t.pcu.entries.length = 1
        ∧ t.jc.serving = some (.admissionRead 1))) = true := by decide +kernel

/-! ### What the statements' later clauses meet: failing reads, overflows, recovery, FAULT, and the requests that wait -/

/-- The region and journal number of the STORE-FAULT notice. -/
def faulted (t : State) : Option (Region × Nat) :=
  if t.jc.store = .fault then t.hlp.notices.storeFault.map fun d => (d.region, d.journal) else none

/-- Start-up at a stage of its recovery. -/
def recoveringAt (stage : StartStage) : State := { State.reset with jc := { State.reset.jc with stage := stage, serving := none } }

/-- A frame that resets, sent with a commit mark in service, with a read and with none: what the mark leaves of its record. -/
theorem witness_ReplyFrameSent_resets :
    let f : OutFrame := { kind := 0xB3, tag := 1, reply := plainReply 0x33 .ok, tagged := true, resets := true, begun := true }
    let s : State := { setup with hlp := { setup.hlp with outbound := [f], straps := 2 } }
    let w := serving (.commitMark 1 0 0) s
    let bs := commitBytes 0 0
    let left (r : Residue) (m : List Byte) (s : State) : Bool := after (.replyFrameSent r) s fun t =>
      decide (Memory.readMany t.mem (73728 + 54) 10 = m) && decide (t.jc.cause = .restart ∧ t.jc.phase = .startup ∧ t.hlp.straps = 2)
    ((PortOp.commitMark 1 0 0).write?.isSome = true ∧ (PortOp.sweepRead 1).write?.isNone = true ∧ commitOk (List.replicate 54 0 ++ List.replicate 9 0 ++ [1]) = false)
      ∧ (left .written bs w = true ∧ left .unwritten (List.replicate 10 0) w = true
        ∧ left (.torn (List.replicate 9 0 ++ [1])) (List.replicate 9 0 ++ [1]) w = true
        ∧ left (.torn bs) (List.replicate 10 0) w = true ∧ left (.torn [1]) (List.replicate 10 0) w = true)
      ∧ (left .written (List.replicate 10 0) s = true ∧ left .written (List.replicate 10 0) (serving (.sweepRead 1) s) = true)
      ∧ after (.replyFrameSent .written) service (fun t => decide (t = service)) = true := by decide +kernel

/-- The six rows of R97's table, at the values where they meet. -/
theorem witness_PayoutSplitsTheNet_rows :
    let pay (st : MerchantState) (carry : Int) : Int × Int × PayStatus :=
      let p := payoutOf 57 20 { freshMerchant 57 with state := st, carry := carry }
      (p.payout, p.carryAfter, p.status)
    (pay .active 1 = (1, 0, .paid) ∧ pay .active 0 = (0, 0, .nil) ∧ pay .active (-1) = (0, -1, .debt))
      ∧ (pay .suspended 1 = (0, 1, .withheld) ∧ pay .suspended (-1) = (0, -1, .withheld))
      ∧ (pay .closing 0 = (0, 0, .final) ∧ pay .closing (-1) = (0, -1, .finalDebt))
      ∧ (closedRecord 20 { freshMerchant 57 with state := .closing } (payoutOf 57 20 { freshMerchant 57 with state := .closing })).state
        = .closed := by decide +kernel

/-- A TAKE-ADVICE that waits, taken with a record to read, with none, and in FAULT. -/
theorem witness_TakeAdviceIsServed_waiting :
    (runAdvice [(7, 3)] untaken).jc.serving = some (.adviceRead 5)
      ∧ answer (runAdvice [(7, 3)] { untaken with jc := { untaken.jc with next := 5 } }) = some (.ok, 0)
      ∧ answer (runAdvice [(7, 3)] (inFault untaken)) = some (.storeFault, 0)
      ∧ (runAdvice [] advising).jc.advice = none := by decide +kernel

/-- RELEASE-PAYOUT while an accrual's totals write is in progress. -/
theorem witness_ReleasePayoutWritesTotals_busy :
    let s := listing .complete 0
    after (.releasePayout 1 []) { s with mau := { s.mau with totalsBusy := some .accrual } } (fun t =>
      decide (t.mau.totalsDue = [.release 1 20] ∧ t.pcu.releasing = true ∧ t.mau.copy = s.mau.copy)) = true := by decide +kernel

/-- LINE-STATUS of the WEAKEST: a tie of entries 5 and 47, entry 6 with a lower counter but FAULTY, and no entry at all. -/
theorem witness_CountsAndStatusRequests_weakest :
    let x (st : StationState) (run : Nat) : Station := { stationReset with merchant := 57, state := st, run := run }
    let s := ((day.setStation 2 5 (x .silent 3)).setStation 2 6 (x .faulty 0)).setStation 2 47 (x .present 3)
    let first (s : State) : Option (List Byte) :=
      match exec (.lineStatus 1 [2, 0xFF]) s with
      | .next t => t.hlp.outbound.getLast?.map fun f => (f.reply.figures.drop 6).take 2
      | _ => none
    first s = some [5, 57] ∧ first (s.setStation 2 5 (x .silent 4)) = some [47, 57] ∧ first day = some [0, 0] := by decide +kernel

/-- TAKE-NOTICES of two kinds, and of none. -/
theorem witness_NoticesRestartAndTime_notices :
    let s : State := { setup with hlp := { setup.hlp with attnLow := true, notices :=
      { storeFault := some { region := .cards, journal := 258 }, holdsExpired := some 65535 } } }
    let got (s : State) (fs : List Byte) : Bool := after (.takeNotices 1 []) s fun t =>
      decide (t.hlp.outbound.getLast?.map (fun f => f.reply.figures) = some fs) && decide (t.hlp.notices = {} ∧ t.hlp.attnLow = false)
    got s [2, 2, 5, 2, 1, 0, 0, 0, 0, 7, 255, 255] = true ∧ got setup [0] = true := by decide +kernel

/-- Each request of R170 that waits, taken in its turn: SET-MERCHANT of a merchant, of a CLOSED one and in FAULT; FORMAT with
its guard and past it; in UNFORMATTED; OPEN-SERVICE; and none. -/
theorem witness_ConfigRequestsReachThePort_turns :
    let m : ConfigReq := { tag := 2, kind := 0x3B, what := .merchant 240 7 7 }
    let f : ConfigReq := { tag := 2, kind := 0x38, what := .format 1 }
    let bare := inPhase .unformatted
    let full : State := { setup with jc := { setup.jc with untaken := 1 } }
    let listed : State := { setup with pcu := { setup.pcu with state := .complete } }
    let begun (s : State) : Bool := decide ((runCfg [f] s).jc.serving = some (.formatWrite 1 0 8192 (List.replicate 64 0)))
    ((runCfg [m] setup).jc.serving = some (.setMerchantRead 2 240 7 7)
        ∧ answer (runCfg [m] (setup.setAdmission 240 { state := .closed, cls := 0, group := 0 })) = some (.configRefused, 24)
        ∧ answer (runCfg [m] (inFault setup)) = some (.storeFault, 0) ∧ answer (runCfg [m] bare) = some (.notInPhase, 0))
      ∧ (begun setup = true ∧ begun bare = true ∧ begun (inFault full) = true
        ∧ answer (runCfg [f] full) = some (.formatRefused, 48) ∧ answer (runCfg [f] listed) = some (.formatRefused, 32)
        ∧ answer (runCfg [f] service) = some (.configRefused, 25))
      ∧ ((runCfg [{ m with kind := 0x3E, what := .openService }, m] ready).jc.phase = .service
        ∧ answer (runCfg [{ m with kind := 0x3E, what := .openService }, m] ready) = some (.configRefused, 25))
      ∧ (runCfg [] (configuring .openService (.sweepRead 1))).jc.cfg = none := by decide +kernel

/-- A request of R170 waits at each completion: it is taken once the answer is given. -/
theorem witness_ConfigWriteCompletes_waiting :
    let i : ConfigItem := .line 3 { rate := 3, window := 20, enabled := true }
    let q : ConfigReq := { tag := 2, kind := 0x3B, what := .merchant 1 0 0 }
    let waits (s : State) : State := { s with jc := { s.jc with cfgWaiting := [q] } }
    let taken (t : State) : Bool := decide (answer t = some (.ok, 0)) && decide (t.jc.serving = some (.setMerchantRead 2 1 0 0))
      && decide (t.jc.cfg = some q)
    after .lineConfigWriteDone (waits (configuring (.item i) (.configWrite i))) taken = true
      ∧ after .setMerchantWriteDone (waits (configuring (.merchant 240 7 7) (.setMerchantWrite 1 240 .active (freshMerchant 240)))) taken
        = true
      ∧ after .formatWriteDone (waits (formatting 6 0)) taken = true := by decide +kernel

/-- At FAULT a station's refused movement is held, and discarded in FAULTY; in FAULT the notice alone is raised again. -/
theorem witness_FailedWritesSetFault_stations :
    let m : Movement := dayMovement .redeem .redeem
    let s (st : StationState) : State :=
      let s := (day.setLock 0 (some { card := 60001234, owner := m.req, waiters := [], doing := .moving })).setStation 1 7
        { stationReset with merchant := 57, state := st, outstanding := true }
      { s with jc := { s.jc with appendQueue := [.movement 0 m] } }
    let held (t : State) : Option (Status × Nat) := (t.station 1 7).held.map fun r => (r.status, r.kind)
    (held (enterFault .journal 9 (s .present)) = some (.storeFault, 7) ∧ (enterFault .journal 9 (s .present)).lock 0 = none)
      ∧ (held (enterFault .journal 9 (s .faulty)) = none ∧ ((enterFault .journal 9 (s .faulty)).station 1 7).outstanding = false)
      ∧ (faulted (enterFault .cards 3 (inFault (s .present))) = some (.cards, 3)
        ∧ (enterFault .cards 3 (inFault (s .present))).jc.appendQueue = [.movement 0 m]) := by decide +kernel

/-- The serial counter at 65,535 in use, and 1 in use: the hold takes 2, and the counter goes to 3. -/
theorem witness_HoldsExpireAndEnter_serials :
    let p : HoldPlan := { held := 5000, paid := 4800, bonus := 200, available := 5000 }
    let s := day.setLock 15 (some { card := 60001234, owner := dayReq .hold 6000, waiters := [], doing := .entering p })
    let s : State := { s with ht := { s.ht with
      serial := 65535, holds := [{ dayHold .active with serial := 65535 }, { dayHold .active with serial := 1 }] } }
    let free : State := { s with ht := { s.ht with holds := s.ht.holds.drop 1 } }
    after (.holdEntry 15) s (fun t => decide (t.ht.serial = 3) && decide (t.ht.holds.map Hold.serial = [65535, 1, 2])) = true
      ∧ after (.holdEntry 15) free (fun t => decide (t.ht.serial = 1) && decide (t.ht.holds.map Hold.serial = [1, 65535])) = true := by
  decide +kernel

/-- A claim and a decision in FAULT: STORE-FAULT at once, the hold ACTIVE, the lock free. -/
theorem witness_HoldClaimDecides_fault :
    let s := (claiming 3700 57 (holding .active 36350))
    let s := s.setLock 0 ((s.lock 0).map fun l => { l with owner := { l.owner with origin := .link 7 } })
    let told (t : State) : Bool := decide (answer t = some (.storeFault, 0)) && decide (t.lock 0 = none)
    after (.holdClaim 0) (inFault s) (fun t => told t && decide (t.ht.holds = [dayHold .active])) = true
      ∧ after .cardReadDone (inFault (reading { dayReq .redeem 1 with origin := .link 7 } (dayCard .active 4800 200))) told = true := by
  decide +kernel

/-- The accrual of the day's record with its merchant's record bad, too full, and applied already; then with the totals too
full, in FAULT, and with another totals write in progress. -/
theorem witness_AccrualStages_fails :
    let a : Accrual := { body := dayBody, stage2 := false, delta := 0, rem := 0 }
    let s (bs : List Byte) : State := storing (merchantAddress 57) bs (serving (.accrualRead 57)
      { service with mau := { service.mau with accrual := some a } })
    let r := freshMerchant 57
    let full : Totals := { totalsReset with outPaid := -140737488355328 }
    let done (r : MerchantRec) : State := s { r with lastApplied := 1 }.bytes
    let copy (t : Totals) (s : State) : State := { s with mau := { s.mau with copy := t } }
    (after .accrualMerchantReadDone (s [1]) (fun t => decide (faulted t = some (.merchants, 1) ∧ t.mau.accrual = none)) = true
        ∧ after .accrualMerchantReadDone (s { r with bank := { bankReset with g := 140737488355327 } }.bytes)
          (fun t => decide (faulted t = some (.merchants, 1) ∧ t.mau.accrual = none)) = true)
      ∧ (after .accrualMerchantReadDone (done r) (fun t => decide (t.mau.copy.lastApplied = 1) && decide (t.mau.totalsBusy = some .accrual))
          = true
        ∧ after .accrualMerchantReadDone (copy full (done r)) (fun t => decide (faulted t = some (.totals, 1) ∧ t.mau.accrual = none)) = true
        ∧ after .accrualMerchantReadDone (inFault (done r)) (fun t => decide (t.mau.accrual = none ∧ t.jc.serving = none)) = true
        ∧ after .accrualMerchantReadDone ({ done r with mau := { (done r).mau with totalsBusy := some (.release 1 20) } })
          (fun t => decide (t.mau.totalsDue = [.accrual]) && decide (t.mau.copy.lastApplied = 1)) = true)
      ∧ (after (.accrualMerchantWriteDone none) (inFault (serving (.accrualWrite 57 r) (s []))) (fun t =>
          decide (t.mau.accrual = none ∧ readMerchant (Memory.readMany t.mem (merchantAddress 57) 256) = some r)) = true) := by
  decide +kernel

/-- Recovery: its record whose card step is done is taken, one the merchant carries already has its delta found again, and one
the totals carry too goes to its commit mark; a bad merchant record ends the recovery. -/
theorem witness_AccrualStages_recovery :
    let s := recoveringAt (.recover [dayBody] true)
    let a : Accrual := { body := dayBody, stage2 := false, delta := 0, rem := 0 }
    let r : MerchantRec := { freshMerchant 57 with lastApplied := 1, bank := { bankReset with rho := 7500 } }
    let at57 (bs : List Byte) (applied : Nat) : State := storing (merchantAddress 57) bs (serving (.accrualRead 57)
      { s with jc := { s.jc with tariffs := vset s.jc.tariffs 0 { rate := 275, fee := 0, cap := 0 } }
               mau := { s.mau with accrual := some a, copy := { s.mau.copy with lastApplied := applied } } })
    after .accrualStart s (fun t => decide (t.jc.serving = some (.accrualRead 57))) = true
      ∧ (after .accrualMerchantReadDone (at57 r.bytes 0) (fun t => decide (t.mau.copy.lastApplied = 1)
          && decide (t.mau.accrual = some { a with stage2 := true, delta := 101, rem := 7500 })) = true
        ∧ after .accrualMerchantReadDone (at57 r.bytes 1) (fun t => decide (t.jc.serving = some (.commitMark 1 101 7500))) = true
        ∧ after .accrualMerchantReadDone (at57 [1] 0) (fun t => decide (faulted t = some (.merchants, 1))
          && decide (t.jc.stage = .admission 1)) = true) := by decide +kernel

/-- Totals writes that complete in FAULT; an advance with a later TAKE-ADVICE waiting. -/
theorem witness_TotalsWritesComplete_fault :
    let a : Accrual := { body := dayBody, stage2 := true, delta := 0, rem := 0 }
    let s : State := { service with mau := { service.mau with totalsBusy := some .accrual, accrual := some a } }
    let w : State := { service with mau := { service.mau with
      totalsBusy := some .walkEnd, walk := some { j := 1, period := 20, group := 7, merchant := 240 } } }
    let v : State := { advising with mau := { advising.mau with totalsBusy := some (.advice 1 5 [[]]) }
                                     jc := { advising.jc with adviceWaiting := [(9, 1)] } }
    (after .totalsWriteDone (inFault (serving (.totalsWrite .accrual totalsReset 0) s)) (fun t =>
          decide (t.mau.accrual = none ∧ t.mau.totalsBusy = none ∧ t.jc.serving = none)) = true
        ∧ after .totalsWriteDone (inFault (serving (.totalsWrite .walkEnd totalsReset 0) w)) (fun t => decide (t.mau.walk = none)) = true)
      ∧ (after .totalsWriteDone (serving (.totalsWrite (.advice 1 5 [[]]) totalsReset 5) v) (fun t => decide (t.jc.oldest = 6)
          && decide (t.jc.serving = some (.adviceRead 6)) && decide (t.jc.adviceWaiting = [])) = true
        ∧ after .totalsWriteDone (inFault (serving (.totalsWrite (.advice 1 5 [[]]) totalsReset 5) v)) (fun t =>
          decide (t.jc.oldest = 6) && decide (answer t = some (.storeFault, 0))) = true) := by decide +kernel

/-- Commit marks of recovery: its last record, one before a movement, and one before a marker. -/
theorem witness_CommitMarkCompletes_recovery :
    let s (rest : List JBody) : State := serving (.commitMark 1 0 0) (recoveringAt (.recover (dayBody :: rest) true))
    let next := { dayBody with number := 2 }
    after .commitMarkDone (s []) (fun t => decide (t.jc.recovered = 1) && decide (t.jc.stage = .admission 1)) = true
      ∧ after .commitMarkDone (s [next]) (fun t => decide (t.jc.serving = some (.recoveryCardRead next))) = true
      ∧ after .commitMarkDone (s [dayMarker]) (fun t => decide (t.jc.stage = .recover [dayMarker] true ∧ t.jc.serving = none)) = true := by
  decide +kernel

/-- A walk at merchant 57 of period 20. -/
def walking (bs : List Byte) : State :=
  storing (merchantAddress 57) bs (serving (.walkRead 57) { service with
    pcu := { service.pcu with state := .building, period := 20 }
    mau := { service.mau with walk := some { j := 9, period := 20, group := 0, merchant := 57 } } })

/-- The walk's bad record, its net out of range, a good record in FAULT, a write verified in FAULT; its start in recovery. -/
theorem witness_CloseWalkCourse_fails :
    let top : Int := 140737488355327
    let r : MerchantRec := { activeMerchant with bank := { bankReset with g := top }, carry := 1 }
    let stopped (t : State) : Bool := decide (t.mau.walk = none ∧ t.jc.serving = none ∧ t.pcu.state = .building)
    let w := closedRecord 20 activeMerchant (payoutOf 57 20 activeMerchant)
    (after .walkMerchantReadDone (walking [1]) (fun t => stopped t && decide (faulted t = some (.merchants, 9))) = true
        ∧ after .walkMerchantReadDone (walking r.bytes) (fun t => stopped t && decide (faulted t = some (.merchants, 9))) = true
        ∧ after .walkMerchantReadDone (walking { r with carry := 0 }.bytes) (fun t => decide (t.jc.store = .normal)
          && t.jc.serving.any fun op => match op with | .walkWrite _ r' => decide (r'.carry = 0) | _ => false) = true)
      ∧ (after .walkMerchantReadDone (inFault (walking activeMerchant.bytes)) stopped = true
        ∧ after .walkMerchantWriteDone (inFault (serving (.walkWrite 57 w) (walking []))) (fun t => stopped t
          && decide (t.pcu.entries.length = 1)) = true)
      ∧ after .closeWalkStart (recoveringAt (.recover [dayMarker] true)) (fun t => decide (t.jc.serving = some (.walkRead 1))
          && decide (t.pcu.state = .building)) = true := by decide +kernel

/-- Two payouts whose sum does not fit: in one group the pass fails, in two groups the list does; another totals write busy. -/
theorem witness_CloseWalkCourse_sums :
    let top : Int := 140737488355327
    let pay (m g : Nat) : Payout := { payoutOf m 20 activeMerchant with group := g, g := top }
    let r : MerchantRec := { activeMerchant with merchant := 240, lastClosed := 20, lastResult := some (pay 240 7) }
    let s (before : List PayEntry) : State := withMerchant r (serving (.walkRead 240) { service with
      mau := { service.mau with walk := some { j := 9, period := 20, group := 7, merchant := 240 }, totalsBusy := some .accrual }
      pcu := { service.pcu with state := .building, period := 20, entries := before } })
    let failed (n : Nat) (t : State) : Bool := decide (faulted t = some (.merchants, 9)) && decide (t.pcu.entries.length = n ∧ t.mau.walk = none)
    after .walkMerchantReadDone (s [.merchant (pay 1 7)]) (failed 2) = true
      ∧ after .walkMerchantReadDone (s [.merchant (pay 1 0)]) (failed 3) = true
      ∧ after .walkMerchantReadDone (s []) (fun t => decide (t.mau.totalsDue = [.walkEnd]) && decide (t.pcu.entries.length = 3)
        && decide (t.mau.copy.accrued = 21)) = true := by decide +kernel

/-- TAKE-ADVICE in FAULT at a good slot. -/
theorem witness_BookReadsAreAnswered_fault :
    let s := storing (journalAddress 5) (dayBody.bytes ++ commitBytes 0 0) (serving (.adviceRead 5)
      { untaken with jc := { untaken.jc with advice := some { tag := 1, count := 3, u := 5, records := [] } } })
    after .adviceReadDone (inFault s) (fun t => decide (answer t = some (.storeFault, 0) ∧ t.hlp.notices.storeFault = none)) = true := by
  decide +kernel

/-- A sweep whose last slot is unreadable, though its sums match. -/
theorem witness_SweepReads_last :
    after .sweepReadDone (serving (.sweepRead 3) (storing (335872 + 64) [1] (sweeping .running 2 false))) (fun t =>
      decide (t.hlp.notices.sweepDone = some { outcome := .mismatch, paid := 0, bonus := 0, expectedPaid := 0, expectedBonus := 0
                                               slots := 3, unreadable := 1 })
        && decide (t.asu.state = .idle)) = true := by decide +kernel

/-- The admission load at a bad record of merchant 239 and of merchant 240. -/
theorem witness_StartUpReads_bad :
    let s (m : Nat) : State := storing (merchantAddress m) [1] (serving (.admissionRead m) (recoveringAt (.admission m)))
    after .admissionLoadReadDone (s 239) (fun t => decide (faulted t = some (.merchants, 0))
        && decide (t.jc.serving = some (.admissionRead 240) ∧ t.admission 239 = admissionReset)) = true
      ∧ after .admissionLoadReadDone (s 240) (fun t => decide (faulted t = some (.merchants, 0)) && decide (t.jc.phase = .setup)
        && decide (t.hlp.notices.started.isSome = true)) = true := by decide +kernel

/-- The scan at a bad slot of the last applied number, and past it in FAULT with a record found. -/
theorem witness_RecoverySteps_scan :
    let s (n : Nat) : State :=
      let s := serving (.scanRead n) (recoveringAt (.scan n (if n = 5 then [] else [dayBody])))
      storing (journalAddress n) [1] { s with mau := { s.mau with copy := { s.mau.copy with lastApplied := 5, oldest := 5 } } }
    after .journalScanReadDone (s 5) (fun t => decide (faulted t = some (.journal, 5))
        && decide ((t.jc.next, t.jc.untaken, t.jc.pendingCount) = (6, 1, 0)) && decide (t.jc.stage = .admission 1)) = true
      ∧ after .journalScanReadDone (inFault (s 7)) (fun t => decide ((t.jc.next, t.jc.untaken, t.jc.pendingCount) = (7, 2, 1))
        && decide (t.jc.stage = .admission 1)) = true
      ∧ after .journalScanReadDone (s 7) (fun t => decide (t.jc.serving = some (.recoveryCardRead dayBody))) = true := by
  decide +kernel

/-- A failed card write of recovery; the start of a rebuild and none; a bad record in it, and one passed over. -/
theorem witness_RecoverySteps_fails :
    let b := { dayBody with merchant := 57 }
    let at20 (released : Nat) : State :=
      let s := recoveringAt (.recover [b] false)
      { s with mau := { s.mau with copy := { s.mau.copy with accrued := 21, released := released } } }
    let rebuild (bs : List Byte) : State := storing (merchantAddress 57) bs (serving (.rebuildRead 57) { recoveringAt .rebuild with
      pcu := { State.reset.pcu with state := .building, period := 20, rebuild := some (7, 57) } })
    after (.recoveryCardWriteDone (some .unwritten)) (serving (.recoveryCardWrite b) (at20 20)) (fun t =>
        decide (faulted t = some (.cards, 1)) && decide (t.jc.stage = .admission 1)) = true
      ∧ ((finishRecovery (at20 19)).jc.serving = some (.rebuildRead 1) ∧ (finishRecovery (at20 19)).pcu.period = 20
        ∧ (finishRecovery (at20 20)).jc.serving = some (.admissionRead 1))
      ∧ (after .rebuildReadDone (rebuild [1]) (fun t => decide (faulted t = some (.merchants, 0))
          && decide (t.pcu.state = .building ∧ t.pcu.rebuild = none ∧ t.jc.serving = some (.admissionRead 1))) = true
        ∧ after .rebuildReadDone (rebuild activeMerchant.bytes) (fun t => decide (t.jc.serving = some (.rebuildRead 58))) = true) := by
  decide +kernel

/-- Two results whose sums do not fit: in one group the rebuild fails at the pass's end, in two groups at the list's. -/
theorem witness_RecoverySteps_sums :
    let pay (m g : Nat) : Payout := { payoutOf m 20 activeMerchant with group := g, g := 140737488355327 }
    let r : MerchantRec := { activeMerchant with merchant := 240, lastClosed := 20, lastResult := some (pay 240 7) }
    let s (before : List PayEntry) : State := withMerchant r (serving (.rebuildRead 240) { recoveringAt .rebuild with
      pcu := { State.reset.pcu with state := .building, period := 20, rebuild := some (7, 240), entries := before } })
    let failed (n : Nat) (t : State) : Bool := decide (faulted t = some (.merchants, 0)) && decide (t.pcu.entries.length = n)
      && decide (t.pcu.state = .building ∧ t.jc.serving = some (.admissionRead 1))
    after .rebuildReadDone (s [.merchant (pay 1 7)]) (failed 2) = true
      ∧ after .rebuildReadDone (s [.merchant (pay 1 0)]) (failed 3) = true := by decide +kernel

/-- Line 3 with the position past its one entry: an offer made in the round goes on to the next round, where a SILENT entry is
offered when its number is a multiple of 8; without one the line waits, and the wait's end begins the next round. -/
theorem witness_LineTurns_rounds :
    let s (st : StationState) (round : Nat) (offered : Bool) : State :=
      let s := day.setStation 3 5 { stationReset with merchant := 57, state := st }
      s.setLine 3 { s.line 3 with state := .idleGap, round := round, position := 6, offeredInRound := offered }
    let got (s : State) (round : Nat) (offered : Option Nat) (wait : Bool) : Bool := after (.offerStart 3) s fun t =>
      decide ((t.line 3).round = round ∧ (t.line 3).offered = offered ∧ (t.line 3).emptyWait = wait)
    (got (s .present 65535 true) 0 (some 5) false = true ∧ got (s .silent 7 true) 8 (some 5) false = true
        ∧ got (s .silent 8 true) 9 none true = true ∧ got (s .present 8 false) 8 none true = true)
      ∧ (let w := s .present 8 false
         after (.emptyRoundWaitExpiry 3) (w.setLine 3 { w.line 3 with emptyWait := true }) (fun t =>
           decide ((t.line 3).round = 9 ∧ (t.line 3).position = 0 ∧ (t.line 3).emptyWait = false)) = true) := by decide +kernel

/-- The last byte of an offer; both all-station frames pending, SERVICE-OPEN first; its last byte. -/
theorem witness_LineTurns_frames :
    let s (f : Line → Line) : State := day.setLine 3 (f { day.line 3 with state := .idleGap })
    let got (c : Instr) (s : State) (p : Line → Bool) : Bool := after c s fun t => p (t.line 3)
    (got (.offerSent 3) (s fun l => { l with state := .offering, offered := some 5, de := true, wire := [1] })
          (fun l => decide (l.answering = true ∧ l.de = false ∧ l.wire = [])) = true)
      ∧ (got (.broadcastStart 3) (s fun l => { l with serviceOpen := some 20, periodChange := some 21 })
          (fun l => decide (l.wire = tillFrame 0 0 0x03 [20, 0, 0, 0] ∧ l.serviceOpen = none ∧ l.periodChange = some 21)) = true
        ∧ got (.broadcastStart 3) (s fun l => { l with periodChange := some 21 })
          (fun l => decide (l.wire = tillFrame 0 0 0x04 [21, 0, 0, 0] ∧ l.state = .broadcasting)) = true
        ∧ got (.broadcastSent 3) (s fun l => { l with state := .broadcasting, de := true })
          (fun l => decide (l.state = .idleGap ∧ l.de = false)) = true) := by decide +kernel

/-- Entry 47 of line 3 after its offer, with its flag clear. -/
def answeringIn (s : State) : State :=
  let s := s.setStation 3 47 { stationReset with merchant := 57, state := .present }
  s.setLine 3 { s.line 3 with state := .offering, offered := some 47, answering := true }

/-- A REQUEST's frame of entry 47. -/
def requestFrame (kind : Byte) (body : List Byte) : List Byte := tillFrame 57 0 kindRequest (kind :: body)

/-- A REQUEST under a clear flag: bad fields, a kind no station may send, a card in no window, no room for it in the locks and
among the waiters, the sixth waiter, and the lowest free lock. -/
theorem witness_LineAnswers_requests :
    let card : List Byte := [0xD2, 0x8B, 0x93, 0x03]
    let held (kind : Byte) (body : List Byte) (s : State) : Option (Status × Nat) :=
      match exec (.goodAnswer 3 (requestFrame kind body)) (answeringIn s) with
      | .next t => if (t.station 3 47).outstanding then (t.station 3 47).held.map fun r => (r.status, r.reason) else none
      | _ => none
    let goes (s : State) (p : State → Bool) : Bool := after (.goodAnswer 3 (requestFrame 5 card)) (answeringIn s) fun t =>
      p t && decide ((t.station 3 47).outstanding = true) && decide ((t.station 3 47).held = none)
    (held 5 [0, 0, 0, 0] day = some (.badRequest, 1) ∧ held 0x0A card day = some (.badRequest, 1)
        ∧ held 5 card service = some (.unknownCard, 0))
      ∧ (held 5 card (crowded 0 77) = some (.busy, 0) ∧ held 5 card (crowded 6 60001234) = some (.busy, 0)
        ∧ goes (crowded 5 60001234) (fun t => decide ((t.lock 0).map (fun l => (l.waiters.length, l.waiters.getLast?.map CardReq.merchant))
          = some (6, some 57))) = true)
      ∧ goes day (fun t => decide ((t.lock 0).map LockSlot.owner
          = some { origin := .station 3 47, kind := .balance, merchant := 57, card := 60001234, slot := 1235 })
        && decide (t.jc.serving = some (.cardRead 0 1235))) = true := by decide +kernel

/-- The third bad answer with a held reply, and the answers to an offer whose entry was disabled meanwhile. -/
theorem witness_LineAnswers_dropped :
    let x : Station := { stationReset with merchant := 57, state := .present, bad := 2, outstanding := true
                                           held := some { plainReply 7 .ok with journal := 205310 } }
    let s := delivering.setStation 3 47 x
    let dropped := s.setLine 3 { s.line 3 with dropAnswer := true }
    let pass : List Byte := [57, 0, 0x11, 0, 0xB6, 0xFF]
    let kept (t : State) : Bool := decide (t.station 3 47 = x) && decide ((t.line 3).state = .idleGap ∧ (t.line 3).dropAnswer = false)
    (after (.answerGapExpiry 3) s (fun t => decide ((t.station 3 47).state = .faulty ∧ (t.station 3 47).held = none)
        && decide (t.hlp.notices.replyDiscarded = some { line := 3, entry := 47, journal := 205310, count := 1 })) = true)
      ∧ (after (.goodAnswer 3 pass) dropped kept = true ∧ after (.answerWindowExpiry 3) dropped kept = true
        ∧ after (.answerGapExpiry 3) dropped kept = true ∧ after (.badAnswer 3 [57, 0, 0x11, 0, 0, 0]) dropped kept = true) := by
  decide +kernel

end Sys2Proof.Tests
end

section
/-! PROOF. Bytes and records (O13, O14): figures of fixed width and their read-back, the two checks, and the layouts. -/

namespace Sys2Proof.Machine
open Sys2Proof Sys2Proof.Safety

/-! ### Bytes and figures (R176) -/

@[simp] theorem leBytes_length (w n : Nat) : (leBytes w n).length = w := by
  induction w generalizing n with
  | zero => rfl
  | succ w ih => simp [leBytes, ih]

@[simp] theorem fig_length (w n : Nat) : (fig w n).length = w := leBytes_length _ _
@[simp] theorem sfig_length (w : Nat) (x : Int) : (sfig w x).length = w := leBytes_length _ _
@[simp] theorem flagByte_length (b : Bool) : (flagByte b).length = 1 := rfl
@[simp] theorem originBytes_length (o : Origin) : (originBytes o).length = 2 := by cases o <;> rfl

theorem leNat_leBytes (w n : Nat) : leNat (leBytes w n) = n % 256 ^ w := by
  induction w generalizing n with
  | zero => simp [leBytes, leNat, Nat.mod_one]
  | succ w ih =>
    have hb : (byteOf n).toNat = n % 256 := BitVec.toNat_ofNat n 8
    rw [leBytes, leNat, ih, hb, pow_succ', Nat.mod_mul]

theorem leNat_fig {w n : Nat} (h : n < 256 ^ w) : leNat (fig w n) = n := by
  rw [fig, if_pos h, leNat_leBytes, Nat.mod_eq_of_lt h]

/-- A signed figure within its width is read back (R176). -/
theorem leInt_sfig {w : Nat} {x : Int} (h : fitsSigned w x = true) : leInt (sfig w x) = x := by
  have hr : -(256 ^ w : Int) ≤ 2 * x ∧ 2 * x < (256 ^ w : Int) := of_decide_eq_true h
  have hpow : ((256 ^ w : Nat) : Int) = (256 : Int) ^ w := by push_cast; rfl
  have hn : leNat (sfig w x) = (x % (256 ^ w : Int)).toNat := by
    rw [sfig, if_pos h, leNat_leBytes]
    apply Nat.mod_eq_of_lt
    have hlt := Int.emod_lt_of_pos x (show (0 : Int) < 256 ^ w by positivity)
    omega
  simp only [leInt, hn, sfig_length]
  generalize (256 : Int) ^ w = p at *
  generalize 256 ^ w = q at *
  subst hpow
  rcases lt_or_ge x 0 with hneg | hpos
  · have hm : x % (q : Int) = x + q := by
      rw [← Int.add_emod_right, Int.emod_eq_of_lt] <;> omega
    rw [hm]; split <;> omega
  · have hm : x % (q : Int) = x := Int.emod_eq_of_lt hpos (by omega)
    rw [hm]; split <;> omega

/-! ### Fields of a record -/

/-- A field that lies behind the first part of a record. -/
theorem field_append_right {a b : List Byte} {i w : Nat} (h : a.length ≤ i) : field (a ++ b) i w = field b (i - a.length) w := by
  rw [field, field, List.drop_append, List.drop_eq_nil_of_le h, List.nil_append]

theorem sfield_append_right {a b : List Byte} {i w : Nat} (h : a.length ≤ i) : sfield (a ++ b) i w = sfield b (i - a.length) w := by
  rw [sfield, sfield, List.drop_append, List.drop_eq_nil_of_le h, List.nil_append]

theorem field_drop (bs : List Byte) (k i w : Nat) : field (bs.drop k) i w = field bs (k + i) w := by
  rw [field, field, List.drop_drop]

theorem sfield_drop (bs : List Byte) (k i w : Nat) : sfield (bs.drop k) i w = sfield bs (k + i) w := by
  rw [sfield, sfield, List.drop_drop]

/-- The first part of a record is its first field. -/
theorem field_append_left {a b : List Byte} {w : Nat} (h : a.length = w) : field (a ++ b) 0 w = leNat a := by
  rw [field, List.drop_zero, List.take_append_of_le_length h.ge, List.take_of_length_le h.le]

theorem sfield_append_left {a b : List Byte} {w : Nat} (h : a.length = w) : sfield (a ++ b) 0 w = leInt a := by
  rw [sfield, List.drop_zero, List.take_append_of_le_length h.ge, List.take_of_length_le h.le]

/-- A figure within its width is read back, whatever stands behind it. -/
theorem field_fig {w n : Nat} {rest : List Byte} (h : n < 256 ^ w) : field (fig w n ++ rest) 0 w = n :=
  (field_append_left (fig_length w n)).trans (leNat_fig h)

theorem sfield_sfig {w : Nat} {x : Int} {rest : List Byte} (h : fitsSigned w x = true) : sfield (sfig w x ++ rest) 0 w = x :=
  (sfield_append_left (sfig_length w x)).trans (leInt_sfig h)

theorem field_flagByte {b : Bool} {rest : List Byte} : field (flagByte b ++ rest) 0 1 = if b then 1 else 0 := by
  rw [field_append_left (flagByte_length b)]; cases b <;> rfl

/-- A flag byte is read back (R176). -/
theorem readFlag_flagByte {b : Bool} {rest : List Byte} : readFlag (field (flagByte b ++ rest) 0 1) = b := by
  rw [field_flagByte]; cases b <;> rfl

/-- The two bytes of an origin are read back (R176). -/
theorem originOf_originBytes {o : Origin} {rest : List Byte}
    (h : match o with | .station l e => l < 255 ∧ e < 256 | .link t => t < 256) :
    originOf (field (originBytes o ++ rest) 0 1) (field (originBytes o ++ rest) 1 1) = o := by
  cases o with
  | station l e =>
    obtain ⟨hl, he⟩ := h
    rw [originBytes, List.append_assoc, field_fig (by omega), field_append_right (by simp), fig_length, field_fig (by omega),
      originOf, if_neg (by omega)]
  | link t =>
    rw [originBytes, List.append_assoc, field_fig (by omega), field_append_right (by simp), fig_length,
      field_fig (show t < 256 ^ 1 from h), originOf, if_pos rfl]

/-! ### The record check (R10, R110) -/

theorem wordSum_append {a b : List Byte} (h : a.length % 2 = 0) : wordSum (a ++ b) = wordSum a + wordSum b := by
  induction a using wordSum.induct with
  | case1 x y rest ih =>
    rw [List.cons_append, List.cons_append, wordSum, wordSum, ih (by simp only [List.length_cons] at h; omega)]
    omega
  | case2 x => simp at h
  | case3 => simp [wordSum]

theorem wordSum_leBytes_two (n : Nat) : wordSum (leBytes 2 n) = n % 65536 := by
  have h := leNat_leBytes 2 n
  simp only [leBytes, leNat, Nat.mul_zero, Nat.add_zero] at h
  simpa [leBytes, wordSum] using h

/-- A body of even length closed by its check passes it (R10). -/
theorem recordOk_withCheck {body : List Byte} (h : body.length % 2 = 0) : recordOk (withCheck body) = true := by
  rw [recordOk, withCheck, wordSum_append h, wordSum_leBytes_two, checkOf]
  exact decide_eq_true (by omega)

@[simp] theorem withCheck_length (body : List Byte) : (withCheck body).length = body.length + 2 := by simp [withCheck]

@[simp] theorem padTo_length (n : Nat) (body : List Byte) : (padTo n body).length = max body.length n := by
  simp only [padTo, List.length_append, List.length_replicate]; omega

/-! ### Skipping the parts of a layout -/

section Skip
variable {rest : List Byte} {i v w : Nat}

theorem field_skip_fig {n : Nat} (h : w ≤ i) : field (fig w n ++ rest) i v = field rest (i - w) v := by
  rw [field_append_right (by simpa using h), fig_length]
theorem field_skip_sfig {x : Int} (h : w ≤ i) : field (sfig w x ++ rest) i v = field rest (i - w) v := by
  rw [field_append_right (by simpa using h), sfig_length]
theorem field_skip_flagByte {b : Bool} (h : 1 ≤ i) : field (flagByte b ++ rest) i v = field rest (i - 1) v := by
  rw [field_append_right (by simpa using h), flagByte_length]
theorem field_skip_originBytes {o : Origin} (h : 2 ≤ i) : field (originBytes o ++ rest) i v = field rest (i - 2) v := by
  rw [field_append_right (by simpa using h), originBytes_length]
theorem field_skip_replicate {b : Byte} (h : w ≤ i) : field (List.replicate w b ++ rest) i v = field rest (i - w) v := by
  rw [field_append_right (by simpa using h), List.length_replicate]
theorem sfield_skip_fig {n : Nat} (h : w ≤ i) : sfield (fig w n ++ rest) i v = sfield rest (i - w) v := by
  rw [sfield_append_right (by simpa using h), fig_length]
theorem sfield_skip_sfig {x : Int} (h : w ≤ i) : sfield (sfig w x ++ rest) i v = sfield rest (i - w) v := by
  rw [sfield_append_right (by simpa using h), sfig_length]
theorem sfield_skip_flagByte {b : Bool} (h : 1 ≤ i) : sfield (flagByte b ++ rest) i v = sfield rest (i - 1) v := by
  rw [sfield_append_right (by simpa using h), flagByte_length]
theorem sfield_skip_originBytes {o : Origin} (h : 2 ≤ i) : sfield (originBytes o ++ rest) i v = sfield rest (i - 2) v := by
  rw [sfield_append_right (by simpa using h), originBytes_length]
theorem sfield_skip_replicate {b : Byte} (h : w ≤ i) : sfield (List.replicate w b ++ rest) i v = sfield rest (i - w) v := by
  rw [sfield_append_right (by simpa using h), List.length_replicate]

end Skip

/-! ### Codes are read back (R178) -/

theorem cardStateOf_code (st : CardState) : cardStateOf? st.code = some st := by cases st <;> rfl
theorem merchantStateOf_code (st : MerchantState) : merchantStateOf st.code = st := by cases st <;> rfl
theorem purseOrderOf_code (o : PurseOrder) : purseOrderOf o.code = o := by cases o <;> rfl
theorem moveKindOf_code (k : MoveKind) : moveKindOf k.code = k := by cases k <;> rfl
theorem payStatusOf_code (st : PayStatus) : payStatusOf st.code = st := by cases st <;> rfl
theorem namedCode_of_lt {table bound code : Nat} (h : code < bound) : namedCode table bound code = code := if_pos h

theorem cardState_code_lt (st : CardState) : st.code < 256 := by cases st <;> decide
theorem merchantState_code_lt (st : MerchantState) : st.code < 256 := by cases st <;> decide
theorem purseOrder_code_lt (o : PurseOrder) : o.code < 256 := by cases o <;> decide
theorem moveKind_code_lt (k : MoveKind) : k.code < 256 := by cases k <;> decide
theorem payStatus_code_lt (st : PayStatus) : st.code < 256 := by cases st <;> decide

/-! ### Card records (R10) -/

theorem cardRec_bytes_length (r : CardRec) : r.bytes.length = 32 := by simp [CardRec.bytes]

theorem cardRec_bytes_ok (r : CardRec) : recordOk r.bytes = true := recordOk_withCheck (by simp)

/-- The 32 bytes of a card record give its fields back (R10). -/
theorem cardFields_bytes {r : CardRec} (hn : r.number < 256 ^ 4) (hp : r.paid < 256 ^ 3) (hb : r.bonus < 256 ^ 3)
    (hj : r.lastJournal < 256 ^ 6) (ha : r.activation < 256 ^ 4) (hl : r.lastPeriod < 256 ^ 4) (hc : r.count < 256 ^ 2) :
    field r.bytes 0 1 = r.state.code ∧ cardFields r.state r.bytes = r := by
  have hs := cardState_code_lt r.state
  constructor <;> simp only [CardRec.bytes, withCheck, padTo, List.append_assoc, cardFields]
  · rw [field_fig (by omega)]
  · simp only [field_skip_fig, Nat.reduceLeDiff, Nat.reduceSub]
    simp (disch := omega) only [field_fig]

/-- Settles O13: the fields of a stored card record come back, and its check passes. -/
theorem cardRecordsReadBack : Obligations.CardRecordsReadBack := by
  intro r hst h1 hn hp hb hj ha hl hc
  obtain ⟨hstate, hfields⟩ := cardFields_bytes hn (by omega) (by omega) hj ha hl hc
  refine ⟨cardRec_bytes_length r, ?_⟩
  have hgood : ¬(r.paid > Config.maxAmount ∨ r.bonus > Config.maxAmount ∨ r.number = 0) := by
    simp only [Config.maxAmount]; omega
  rw [readCard, cardRec_bytes_ok, hstate, cardStateOf_code]
  cases hs : r.state with
  | blank => exact absurd hs hst
  | active | blocked | cashed => rw [hs] at hfields; simp [hfields, hgood]

/-! ### Journal slots (R114, R180) -/

theorem body_bytes_length (b : JBody) : b.bytes.length = 54 := by simp [JBody.bytes]

theorem body_bytes_ok (b : JBody) : recordOk b.bytes = true := recordOk_withCheck (by simp)

/-- The body of a slot is read back, whatever its commit part holds (R114). -/
theorem readBody_bytes {b : JBody} (commit : List Byte) (h1 : b.number < 256 ^ 6) (h2 : b.newState < 256)
    (h3 : b.period < 256 ^ 4) (h4 : b.merchant < 256) (h5 : b.reqKind < 256) (h6 : b.card < 256 ^ 4) (h7 : b.slot < 256 ^ 3)
    (h8 : b.amount < 256 ^ 3) (h9 : fitsSigned 4 b.paidDelta = true) (h10 : fitsSigned 4 b.bonusDelta = true)
    (h11 : b.ref < 256 ^ 6) (h12 : b.imagePaid < 256 ^ 3) (h13 : b.imageBonus < 256 ^ 3) (h14 : b.imageActivation < 256 ^ 4)
    (h15 : b.imageCount < 256 ^ 2) (ho : match b.origin with | .station l e => l < 255 ∧ e < 256 | .link t => t < 256) :
    readBody (b.bytes ++ commit) = some b := by
  have hk := moveKind_code_lt b.kind
  have hcheck : recordOk ((b.bytes ++ commit).take 54) = true := by
    rw [List.take_append_of_le_length (body_bytes_length b).ge, List.take_of_length_le (body_bytes_length b).le]
    exact body_bytes_ok b
  rw [readBody, if_pos hcheck]
  simp only [JBody.bytes, withCheck, List.append_assoc]
  simp only [field_skip_fig, field_skip_sfig, sfield_skip_fig, sfield_skip_sfig, field_skip_originBytes, sfield_skip_originBytes, Nat.reduceLeDiff, Nat.reduceSub]
  simp (disch := first | omega | with_reducible assumption) only [field_fig, sfield_sfig, originOf_originBytes, moveKindOf_code]

theorem commitPart_of_slot (b : JBody) (commit : List Byte) : (b.bytes ++ commit).drop 54 = commit := by
  rw [List.drop_append_of_le_length (body_bytes_length b).ge, List.drop_of_length_le (body_bytes_length b).le, List.nil_append]

/-- A slot is COMMITTED by its commit part alone (R114). -/
theorem isCommitted_bytes (b : JBody) (commit : List Byte) :
    isCommitted (b.bytes ++ commit) = (decide (field commit 0 2 = Config.commitMark) && recordOk commit) := by
  rw [isCommitted, commitOk, commitPart_of_slot, field_append_right (body_bytes_length b).le, body_bytes_length]

theorem commitBytes_committed (d : Int) (rem : Nat) :
    field (commitBytes d rem) 0 2 = Config.commitMark ∧ recordOk (commitBytes d rem) = true := by
  refine ⟨?_, recordOk_withCheck (by simp)⟩
  simp only [commitBytes, withCheck, List.append_assoc]
  exact field_fig (by decide)

/-! ### The totals record (R131) -/

theorem totals_bytes_length (t : Totals) : t.bytes.length = 64 := by simp [Totals.bytes]

theorem totals_bytes_ok (t : Totals) : recordOk t.bytes = true := recordOk_withCheck (by simp)

theorem totalsFields_bytes {t : Totals} (h1 : t.mark < 256 ^ 4) (h2 : t.capacity < 256 ^ 3) (h3 : t.epoch < 256)
    (h4 : t.accrued < 256 ^ 4) (h5 : t.released < 256 ^ 4) (h6 : t.oldest < 256 ^ 6) (h7 : t.lastApplied < 256 ^ 6)
    (hfit : totalsFit t = true) : totalsFields t.bytes = t := by
  simp only [totalsFit, Bool.and_eq_true] at hfit
  obtain ⟨⟨⟨⟨f1, f2⟩, f3⟩, f4⟩, f5⟩ := hfit
  simp only [totalsFields, Totals.bytes, withCheck, padTo, List.append_assoc]
  simp only [field_skip_fig, sfield_skip_fig, sfield_skip_sfig, Nat.reduceLeDiff, Nat.reduceSub]
  simp (disch := first | omega | with_reducible assumption) only [field_fig, sfield_sfig]

/-! ### Merchant records (R69, R97) -/

theorem bank_bytes_length (k : Bank) : k.bytes.length = 60 := by simp [Bank.bytes]

/-- (`delta`, for the equation lemma of so long an append is costly to make.) -/
theorem payout_bytes_length (p : Payout) : p.bytes.length = 90 := by
  delta Payout.bytes
  simp only [List.length_append, fig_length, sfig_length, Nat.reduceAdd]

theorem merchant_bytes_length (r : MerchantRec) : r.bytes.length = 256 := by
  cases h : r.lastResult <;> simp [MerchantRec.bytes, h, bank_bytes_length, payout_bytes_length]

theorem merchant_bytes_ok (r : MerchantRec) : recordOk r.bytes = true := by
  refine recordOk_withCheck ?_
  cases h : r.lastResult <;> simp [bank_bytes_length, payout_bytes_length]

/-- The figures of a bank lie in their widths (R69, R70). -/
def BankFigures (k : Bank) : Prop :=
  bankFits k = true ∧ k.captures < 256 ^ 4 ∧ k.voids < 256 ^ 4 ∧ k.refunds < 256 ^ 4 ∧ k.sales < 256 ^ 4 ∧ k.rho < 256 ^ 2

/-- The figures of a payout record lie in their widths (R181). -/
def PayoutFigures (p : Payout) : Prop :=
  p.merchant < 256 ∧ p.group < 8 ∧ p.period < 256 ^ 4 ∧ p.captures < 256 ^ 4
    ∧ p.voids < 256 ^ 4 ∧ p.refunds < 256 ^ 4 ∧ p.sales < 256 ^ 4
    ∧ ∀ x ∈ [p.g, p.bf, p.v, p.f, p.s, p.c, p.x, p.carryBefore, p.n, p.payout, p.carryAfter], fitsSigned 6 x = true

/-- The open bank is read back behind the 24 bytes of a merchant record's head (R69, R70). -/
theorem readBank_bytes {k : Bank} {head rest : List Byte} (hlen : head.length = 24) (h : BankFigures k) :
    readBank (head ++ (k.bytes ++ rest)) = k := by
  obtain ⟨hfit, h1, h2, h3, h4, h5⟩ := h
  simp only [bankFits, Bool.and_eq_true] at hfit
  obtain ⟨⟨⟨⟨⟨⟨f1, f2⟩, f3⟩, f4⟩, f5⟩, f6⟩, f7⟩ := hfit
  simp only [readBank, Bank.bytes, List.append_assoc]
  simp only [field_append_right, sfield_append_right, hlen, field_skip_fig, field_skip_sfig, sfield_skip_fig,
    sfield_skip_sfig, Nat.reduceLeDiff, Nat.reduceSub]
  simp (disch := first | omega | with_reducible assumption) only [field_fig, sfield_sfig]

/-- A payout record is read back (R97, R181). -/
theorem readPayout_bytes {p : Payout} {rest : List Byte} (h : PayoutFigures p) : readPayout (p.bytes ++ rest) = p := by
  obtain ⟨h1, h2, h3, h4, h5, h6, h7, hfit⟩ := h
  simp only [List.forall_mem_cons, List.not_mem_nil, false_imp_iff, implies_true, and_true] at hfit
  obtain ⟨f1, f2, f3, f4, f5, f6, f7, f8, f9, f10, f11⟩ := hfit
  have hs := merchantState_code_lt p.state
  have hp := payStatus_code_lt p.status
  delta Payout.bytes
  simp only [readPayout, List.append_assoc]
  simp only [field_skip_fig, field_skip_sfig, sfield_skip_fig, sfield_skip_sfig, Nat.reduceLeDiff, Nat.reduceSub]
  simp (disch := first | omega | with_reducible assumption) only [field_fig, sfield_sfig, namedCode_of_lt, merchantStateOf_code, payStatusOf_code]

/-- The head of a merchant record: its 24 bytes before the bank (R69). -/
def merchantHead (r : MerchantRec) : List Byte :=
  padTo 24 (fig 1 r.merchant ++ fig 1 r.cls ++ fig 1 r.group ++ fig 1 r.state.code ++ sfig 6 r.carry ++ fig 6 r.lastApplied
    ++ fig 4 r.lastClosed ++ flagByte r.lastResult.isSome)

/-- The bytes of a stored last result, none where there is none (R69). -/
def resultBytes (r : MerchantRec) : List Byte := match r.lastResult with | some p => p.bytes | none => []

theorem merchantHead_length (r : MerchantRec) : (merchantHead r).length = 24 := by simp [merchantHead]

/-- A merchant record is its head, its bank, its last result, and what closes it. -/
theorem merchant_bytes_eq (r : MerchantRec) :
    ∃ rest, r.bytes = merchantHead r ++ (r.bank.bytes ++ (resultBytes r ++ rest)) := by
  let body := merchantHead r ++ r.bank.bytes ++ resultBytes r
  refine ⟨List.replicate (254 - body.length) 0 ++ leBytes 2 (checkOf (wordSum (padTo 254 body))), ?_⟩
  simp only [← List.append_assoc]
  rfl

/-- The fields of a merchant record's head are read back (R69). -/
theorem merchantHead_fields {r : MerchantRec} {rest : List Byte} (h1 : r.merchant < 256) (h2 : r.cls < 8) (h3 : r.group < 8)
    (h4 : fitsSigned 6 r.carry = true) (h5 : r.lastApplied < 256 ^ 6) (h6 : r.lastClosed < 256 ^ 4) :
    let bs := merchantHead r ++ rest
    field bs 0 1 = r.merchant ∧ field bs 1 1 = r.cls ∧ field bs 2 1 = r.group ∧ field bs 3 1 = r.state.code
      ∧ sfield bs 4 6 = r.carry ∧ field bs 10 6 = r.lastApplied ∧ field bs 16 4 = r.lastClosed
      ∧ readFlag (field bs 20 1) = r.lastResult.isSome := by
  have hs := merchantState_code_lt r.state
  simp only [merchantHead, padTo, List.append_assoc]
  simp only [field_skip_fig, field_skip_sfig, sfield_skip_fig, Nat.reduceLeDiff, Nat.reduceSub]
  simp (disch := first | omega | with_reducible assumption) only [field_fig, sfield_sfig, readFlag_flagByte, and_self]

/-- A merchant record is read back with its bank and its last result (R69, R70, R97). -/
theorem readMerchant_bytes {r : MerchantRec} (h1 : r.merchant < 256) (h2 : r.cls < 8) (h3 : r.group < 8)
    (h4 : fitsSigned 6 r.carry = true) (h5 : r.lastApplied < 256 ^ 6) (h6 : r.lastClosed < 256 ^ 4) (hb : BankFigures r.bank)
    (hp : ∀ p, r.lastResult = some p → PayoutFigures p) : readMerchant r.bytes = some r := by
  obtain ⟨rest, heq⟩ := merchant_bytes_eq r
  rw [readMerchant, if_pos (merchant_bytes_ok r), heq, readBank_bytes (merchantHead_length r) hb]
  obtain ⟨e1, e2, e3, e4, e5, e6, e7, e8⟩ :=
    merchantHead_fields (rest := r.bank.bytes ++ (resultBytes r ++ rest)) h1 h2 h3 h4 h5 h6
  have hresult : (merchantHead r ++ (r.bank.bytes ++ (resultBytes r ++ rest))).drop 84 = resultBytes r ++ rest := by
    rw [← List.append_assoc, List.drop_append_of_le_length, List.drop_of_length_le, List.nil_append] <;>
      simp [merchantHead_length, bank_bytes_length]
  rw [hresult, e1, e2, e3, e4, e5, e6, e7, e8, namedCode_of_lt h2, namedCode_of_lt h3, merchantStateOf_code]
  cases hr : r.lastResult with
  | none => rw [Option.isSome_none, if_neg (by decide), ← hr]
  | some p => rw [Option.isSome_some, if_pos rfl, resultBytes, hr, readPayout_bytes (hp p hr), ← hr]

/-! ### Configuration records (R110) -/

theorem configItem_bytes_length (i : ConfigItem) : i.bytes.length = 32 := by
  cases i <;> simp [ConfigItem.bytes, Window.bytes, Tariff.bytes, LineCopy.bytes, stationBytes]

/-- A window record is read back (R3, R110). -/
theorem readWindow_bytes {w : Window} (h1 : w.low < 256 ^ 4) (h2 : w.high < 256 ^ 4) (h3 : w.base < 256 ^ 3)
    (h4 : w.maxBalance < 256 ^ 3) (h5 : w.bonusRate < 256 ^ 2) (h6 : w.bonusThreshold < 256 ^ 3) (h7 : w.bonusCap < 256 ^ 3)
    (h8 : w.lifetime < 256 ^ 2) (h9 : w.groupMask < 256) : readWindow w.bytes = some w := by
  have ho := purseOrder_code_lt w.order
  rw [readWindow, if_pos (show recordOk w.bytes = true from recordOk_withCheck (by simp))]
  simp only [Window.bytes, withCheck, padTo, List.append_assoc]
  simp only [field_skip_fig, field_skip_flagByte, Nat.reduceLeDiff, Nat.reduceSub]
  simp (disch := omega) only [field_fig, readFlag_flagByte, purseOrderOf_code]

theorem readTariff_bytes {t : Tariff} (h1 : t.rate < 256 ^ 2) (h2 : t.fee < 256 ^ 2) (h3 : t.cap < 256 ^ 3) :
    readTariff t.bytes = some t := by
  rw [readTariff, if_pos (show recordOk t.bytes = true from recordOk_withCheck (by simp))]
  simp only [Tariff.bytes, withCheck, padTo, List.append_assoc]
  simp only [field_skip_fig, Nat.reduceLeDiff, Nat.reduceSub]
  simp (disch := omega) only [field_fig]

theorem readLineCopy_bytes {c : LineCopy} (h1 : c.rate < 4) (h2 : c.window < 256) : readLineCopy c.bytes = some c := by
  rw [readLineCopy, if_pos (show recordOk c.bytes = true from recordOk_withCheck (by simp))]
  simp only [LineCopy.bytes, withCheck, padTo, List.append_assoc]
  simp only [field_skip_fig, Nat.reduceLeDiff, Nat.reduceSub]
  simp (disch := omega) only [field_fig, readFlag_flagByte, namedCode_of_lt]

theorem readStationRecord_bytes {m lane : Nat} {en : Bool} (h1 : m < 256) (h2 : lane < 256) :
    readStationRecord (stationBytes m lane en) = some (m, lane, en) := by
  rw [readStationRecord, if_pos (show recordOk (stationBytes m lane en) = true from recordOk_withCheck (by simp))]
  simp only [stationBytes, withCheck, padTo, List.append_assoc]
  simp only [field_skip_fig, Nat.reduceLeDiff, Nat.reduceSub]
  simp (disch := omega) only [field_fig, readFlag_flagByte]

/-- Settles O14: the records of the books and of the configuration, each by the read-back of its layout. -/
theorem bookRecordsReadBack : Obligations.BookRecordsReadBack := by
  refine ⟨?_, ?_, ?_, ?_⟩
  · intro b d rem h1 h2 h3 h4 h5 h6 h7 h8 h9 h10 h11 h12 h13 h14 h15 ho
    have hread := fun commit => readBody_bytes (b := b) commit h1 h2 h3 h4 h5 h6 h7 h8 h9 h10 h11 h12 h13 h14 h15 ho
    obtain ⟨hmark, hok⟩ := commitBytes_committed d rem
    refine ⟨by simp [JBody.slotBytes, body_bytes_length], hread _, ?_, ?_, hread _⟩
    · rw [JBody.slotBytes, isCommitted_bytes]; rfl
    · rw [isCommitted_bytes, hmark, hok]; rfl
  · intro t h1 h2 h3 h4 h5 h6 h7 hfit
    exact ⟨totals_bytes_length t, totals_bytes_ok t, totalsFields_bytes h1 h2 h3 h4 h5 h6 h7 hfit⟩
  · intro r h1 h2 h3 h4 h5 h6 hfit b1 b2 b3 b4 b5 hp
    exact ⟨merchant_bytes_length r, readMerchant_bytes h1 h2 h3 h4 h5 h6 ⟨hfit, b1, b2, b3, b4, b5⟩ hp⟩
  · intro i hi
    refine ⟨configItem_bytes_length i, ?_⟩
    cases i with
    | window k w =>
      obtain ⟨hk, h1, h2, h3, h4, h5, h6, h7, h8, h9⟩ := hi
      simp [readItem, ConfigItem.index, ConfigItem.bytes, hk, readWindow_bytes h1 h2 h3 h4 h5 h6 h7 h8 h9]
    | tariff c t =>
      obtain ⟨hc, h1, h2, h3⟩ := hi
      simp [readItem, ConfigItem.index, ConfigItem.bytes, show 8 + c < 16 by omega, readTariff_bytes h1 h2 h3]
    | line n c =>
      obtain ⟨hn, h1, h2⟩ := hi
      simp [readItem, ConfigItem.index, ConfigItem.bytes, show ¬ 16 + n < 8 by omega, show ¬ 16 + n < 16 by omega,
        show 16 + n < 20 by omega, readLineCopy_bytes h1 h2]
    | station n e m lane en =>
      obtain ⟨hn, he, h1, h2⟩ := hi
      have hindex : ¬ 20 + n * 48 + e < 20 := by omega
      simp [readItem, ConfigItem.index, ConfigItem.bytes, show ¬ 20 + n * 48 + e < 8 by omega,
        show ¬ 20 + n * 48 + e < 16 by omega, hindex, readStationRecord_bytes h1 h2]
      omega

end Sys2Proof.Machine
end

section
/-! Reset and the purses (O2, O17): the tables right after reset, and what every decision leaves of a card's purses. -/

namespace Sys2Proof.Machine
open Sys2Proof Sys2Proof.Safety

/-! ### The state right after reset -/

/-- Every entry of a table filled with one value is that value, outside the table too. -/
theorem vget_replicate {α : Type} {n i : Nat} {d : α} : vget (Vector.replicate n d) i d = d := by
  rw [vget, Vector.getElem?_replicate]; split <;> rfl

theorem reset_line (n : Nat) : State.reset.line n = lineReset := vget_replicate
theorem reset_station (n e : Nat) : State.reset.station n e = stationReset := by
  rw [State.station, reset_line]; exact vget_replicate
theorem reset_window (i : Nat) : State.reset.window i = windowReset := vget_replicate
theorem reset_tariff (c : Nat) : State.reset.tariff c = tariffReset := vget_replicate
theorem reset_lock (k : Nat) : State.reset.lock k = none := vget_replicate
theorem reset_admission (m : Nat) : State.reset.admission m = admissionReset := by
  rw [State.admission]; split
  · rfl
  · exact vget_replicate

/-- Settles O2: every table entry by the lemmas above, every single field by its definition. -/
theorem resetValues : Obligations.ResetValues := by
  refine ⟨rfl, fun n _ => ?_, fun i _ => ⟨reset_window i, reset_tariff i⟩, fun k _ => reset_lock k, rfl, rfl, reset_admission,
    rfl, rfl, rfl, rfl, rfl, rfl⟩
  rw [reset_line]
  exact ⟨rfl, rfl, rfl, rfl, rfl, rfl, rfl, fun e _ => reset_station n e⟩

/-! ### The purse split and the bonus (R18, R19) -/

theorem splitPurses_sum {order : PurseOrder} {a paid bonus : Nat} :
    (splitPurses order a paid bonus).1 + (splitPurses order a paid bonus).2 = a := by
  cases order <;> simp only [splitPurses] <;> omega

/-- No share of an amount within the two purses is more than its purse (R18). -/
theorem splitPurses_le {order : PurseOrder} {a paid bonus : Nat} (h : a ≤ paid + bonus) :
    (splitPurses order a paid bonus).1 ≤ paid ∧ (splitPurses order a paid bonus).2 ≤ bonus := by
  cases order <;> simp only [splitPurses] <;> omega

/-- The bonus with the uncapped bonus of R19 step 1 written as the lesser of it and the room left. -/
theorem bonusGiven_eq (w : Window) (a paidAfter bonusBefore : Nat) :
    bonusGiven w a paidAfter bonusBefore = (min (bonusUncapped w a) (w.maxBalance - (paidAfter + bonusBefore)),
      decide (w.maxBalance - (paidAfter + bonusBefore) < bonusUncapped w a)) := by
  simp only [bonusGiven, min_lt_iff, lt_irrefl, false_or]

/-! ### What a decision leaves of the purses (R27) -/

/-- The parts of a card's holds lie within these purses (R27). -/
def PartsWithin (hs : List Hold) (paid bonus : Nat) : Prop := heldPaid hs ≤ paid ∧ heldBonus hs ≤ bonus

section Decisions
variable {s : State} {w : Window} {req : CardReq} {r : CardRec} {m : Movement}

theorem PartsWithin.mono {hs : List Hold} {paid bonus paid' bonus' : Nat} (h : PartsWithin hs paid bonus) (hp : paid ≤ paid')
    (hb : bonus ≤ bonus') : PartsWithin hs paid' bonus' := ⟨h.1.trans hp, h.2.trans hb⟩

/-- A split of an amount within the available value leaves the parts of the holds in the purses (R17, R18). -/
theorem PartsWithin.afterSplit {hs : List Hold} {a : Nat} (order : PurseOrder) (h : PartsWithin hs r.paid r.bonus)
    (ha : a ≤ (r.paid - heldPaid hs) + (r.bonus - heldBonus hs)) :
    let p := splitPurses order a (r.paid - heldPaid hs) (r.bonus - heldBonus hs)
    PartsWithin hs (r.paid - p.1) (r.bonus - p.2) := by
  obtain ⟨hp, hb⟩ := h
  obtain ⟨h1, h2⟩ := splitPurses_le (order := order) ha
  constructor <;> omega

/-- A decided hold's parts lie within the purses beside those of the holds there (R27, R30, R31). -/
theorem decideHold_parts {p : HoldPlan} (h : PartsWithin (s.chain req.card req.slot) r.paid r.bonus)
    (hd : decideHold s w req r = .enter p) :
    heldPaid (s.chain req.card req.slot) + p.paid ≤ r.paid ∧ heldBonus (s.chain req.card req.slot) + p.bonus ≤ r.bonus := by
  obtain ⟨hp, hb⟩ := h
  simp only [decideHold] at hd
  split_ifs at hd with _ _ _ _ _ ha
  · obtain ⟨h1, h2⟩ := splitPurses_le (order := w.order) ha
    cases hd
    simp only [availOf, State.availPaid, State.availBonus] at h1 h2 ⊢
    omega
  · cases hd
    simp only [availOf, State.availPaid, State.availBonus]
    omega

/-- An ACTIVATE is decided on a BLANK card, which holds nothing (R14, R49). -/
theorem decideActivate_blank (hd : decideActivate s w req r = .move m) : r.state = .blank := by
  by_contra hb
  simp [decideActivate, hb] at hd

theorem decideLoad_purses (hd : decideLoad s w req r = .move m) : r.paid ≤ m.paid ∧ r.bonus ≤ m.bonus := by
  simp only [decideLoad] at hd
  split_ifs at hd
  cases hd
  simp [movementOf]

theorem decideRedeem_parts (h : PartsWithin (s.chain req.card req.slot) r.paid r.bonus)
    (hd : decideRedeem s w req r = .move m) : PartsWithin (s.chain req.card req.slot) m.paid m.bonus := by
  simp only [decideRedeem] at hd
  split_ifs at hd with _ _ ha
  · cases hd
    exact h.afterSplit w.order ha
  · cases hd
    obtain ⟨hp, hb⟩ := h
    constructor <;> simp only [movementOf, availOf, State.availPaid, State.availBonus] <;> omega

theorem decideLate_parts (h : PartsWithin (s.chain req.card req.slot) r.paid r.bonus)
    (hd : decideLate s w req r = .move m) : PartsWithin (s.chain req.card req.slot) m.paid m.bonus := by
  simp only [decideLate] at hd
  split_ifs at hd with _ ha
  cases hd
  exact h.afterSplit w.order (Nat.le_of_not_lt ha)

theorem decideVoid_purses (hd : decideVoid s w req r = .move m) : r.paid ≤ m.paid ∧ r.bonus ≤ m.bonus := by
  simp only [decideVoid] at hd
  split_ifs at hd
  split at hd
  · cases hd
  · split_ifs at hd
    cases hd
    simp [movementOf]

theorem decideRefund_purses (hd : decideRefund s w req r = .move m) : r.paid ≤ m.paid ∧ r.bonus ≤ m.bonus := by
  simp only [decideRefund] at hd
  split_ifs at hd
  cases hd
  simp [movementOf]

/-- A CASH-OUT is decided on a card without a hold (R66). -/
theorem decideCashOut_noHold (hd : decideCashOut s w req r = .move m) : s.chain req.card req.slot = [] := by
  by_contra hc
  simp only [decideCashOut] at hd
  split_ifs at hd

theorem decideBlock_purses (hd : decideBlock req r = .move m) : r.paid = m.paid ∧ r.bonus = m.bonus := by
  simp only [decideBlock] at hd
  split_ifs at hd
  cases hd
  simp [movementOf]

theorem decideUnblock_purses (hd : decideUnblock req r = .move m) : r.paid = m.paid ∧ r.bonus = m.bonus := by
  simp only [decideUnblock] at hd
  split_ifs at hd
  cases hd
  simp [movementOf]

/-- An entry taken out of a list takes its figure out of the sum. -/
theorem sum_filter_add_le {α : Type} {q : α → Bool} {f : α → Nat} {l : List α} {x : α} (hx : x ∈ l) (hq : q x = false) :
    ((l.filter q).map f).sum + f x ≤ (l.map f).sum := by
  have hsub : ∀ l : List α, ((l.filter q).map f).sum ≤ (l.map f).sum := fun l =>
    (List.Sublist.map f List.filter_sublist).sum_le_sum (fun _ _ => Nat.zero_le _)
  induction l with
  | nil => cases hx
  | cons y l ih =>
    rcases List.mem_cons.mp hx with rfl | hmem
    · have := hsub l
      simp only [List.filter_cons, hq, Bool.false_eq_true, if_false, List.map_cons, List.sum_cons]
      omega
    · have := ih hmem
      by_cases hy : q y = true <;>
        simp only [List.filter_cons, hy, Bool.false_eq_true, if_true, if_false, List.map_cons, List.sum_cons] <;> omega

/-- A capture's purses hold the parts of the other holds of its card (R27, R55). -/
theorem captureMovement_parts {h : Hold} {hs : List Hold} (hw : PartsWithin hs r.paid r.bonus) (hmem : h ∈ hs)
    (hsum : h.paid + h.bonus = h.held) (ha : req.amount ≤ h.held) :
    PartsWithin (hs.filter fun x => !(x.epoch == h.epoch && x.serial == h.serial)) (captureMovement w req r h).paid
      (captureMovement w req r h).bonus := by
  obtain ⟨hp, hb⟩ := hw
  obtain ⟨h1, h2⟩ := splitPurses_le (order := w.order) (show req.amount ≤ h.paid + h.bonus by omega)
  have hpaid := sum_filter_add_le (q := fun x => !(x.epoch == h.epoch && x.serial == h.serial)) (f := Hold.paid) hmem (by simp)
  have hbonus := sum_filter_add_le (q := fun x => !(x.epoch == h.epoch && x.serial == h.serial)) (f := Hold.bonus) hmem (by simp)
  simp only [heldPaid, heldBonus] at hp hb
  constructor <;> simp only [captureMovement, movementOf, heldPaid, heldBonus] <;> omega

end Decisions

/-- Settles O17: the split and the bonus by arithmetic, and each decision by what it leaves of the purses. -/
theorem purseAndBonusRules : Obligations.PurseAndBonusRules := by
  refine ⟨?_, ?_, ?_⟩
  · intro order a paid bonus h
    obtain ⟨h1, h2⟩ := splitPurses_le (order := order) h
    refine ⟨splitPurses_sum, h1, h2, ?_, ?_⟩ <;> rintro rfl <;> rfl
  · intro w a paidAfter bonusBefore h
    simp only [bonusGiven_eq, bonusUncapped]
    refine ⟨by omega, ?_, ?_, ?_⟩
    · intro ha
      simp [Nat.not_le.mpr ha]
    · intro ha hroom
      simp only [ha, if_true, Prod.mk.injEq, decide_eq_false_iff_not]
      omega
    · intro ha hroom
      simp only [ha, if_true, Prod.mk.injEq, decide_eq_true_eq]
      omega
  · intro s w req r hblank chain within hwithin
    have hw : PartsWithin (s.chain req.card req.slot) r.paid r.bonus := hwithin
    refine ⟨fun p hp => decideHold_parts hw hp, fun v m hv hm => ?_, fun h hmem hsum ha => captureMovement_parts hw hmem hsum ha⟩
    subst hm
    simp only [List.mem_cons, List.not_mem_nil, or_false] at hv
    show PartsWithin (s.chain req.card req.slot) m.paid m.bonus
    rcases hv with hv | hv | hv | hv | hv | hv | hv | hv | hv
    · obtain ⟨hp, hb⟩ := hblank (decideActivate_blank hv.symm)
      exact hw.mono (by omega) (by omega)
    · obtain ⟨hp, hb⟩ := decideLoad_purses hv.symm
      exact hw.mono hp hb
    · exact decideRedeem_parts hw hv.symm
    · exact decideLate_parts hw hv.symm
    · obtain ⟨hp, hb⟩ := decideVoid_purses hv.symm
      exact hw.mono hp hb
    · obtain ⟨hp, hb⟩ := decideRefund_purses hv.symm
      exact hw.mono hp hb
    · rw [decideCashOut_noHold hv.symm]
      exact ⟨Nat.zero_le _, Nat.zero_le _⟩
    · obtain ⟨hp, hb⟩ := decideBlock_purses hv.symm
      exact hw.mono hp.le hb.le
    · obtain ⟨hp, hb⟩ := decideUnblock_purses hv.symm
      exact hw.mono hp.le hb.le

end Sys2Proof.Machine
end

section
/-! The lock table as a card request meets it (O25, O26): window match, lock search, and the five ways a request goes. -/

namespace Sys2Proof.Machine
open Sys2Proof Sys2Proof.Safety

/-! ### Searches of the windows and the locks (R6, R21) -/

/-- A card number lies in an enabled window (R6). -/
def InWindow (s : State) (card v : Nat) : Prop := (s.window v).enabled = true ∧ (s.window v).low ≤ card ∧ card ≤ (s.window v).high

section Search
variable {s : State} {card i : Nat}

/-- The first number below a bound with a property. -/
theorem find_range_eq_some {n : Nat} {p : Nat → Bool} (hi : i < n) (hp : p i = true) (hbefore : ∀ j, j < i → p j = false) :
    (List.range n).find? p = some i :=
  List.find?_range_eq_some.mpr ⟨hp, List.mem_range.mpr hi, fun j hj => by simp [hbefore j hj]⟩

theorem find_range_eq_none {n : Nat} {p : Nat → Bool} (h : ∀ j, j < n → p j = false) : (List.range n).find? p = none :=
  List.find?_range_eq_none.mpr fun j hj => by simp [h j hj]

theorem inWindow_iff {v : Nat} : ((s.window v).enabled && decide ((s.window v).low ≤ card) && decide (card ≤ (s.window v).high)) = true
    ↔ InWindow s card v := by
  simp [InWindow, and_assoc]

theorem matchWindow_eq_some (hi : i < 8) (hw : InWindow s card i) (hbefore : ∀ v, v < i → ¬InWindow s card v) :
    matchWindow s card = some i :=
  find_range_eq_some hi (inWindow_iff.mpr hw) fun v hv => Bool.eq_false_iff.mpr fun h => hbefore v hv (inWindow_iff.mp h)

theorem matchWindow_eq_none (h : ∀ v, v < 8 → ¬InWindow s card v) : matchWindow s card = none :=
  find_range_eq_none fun v hv => Bool.eq_false_iff.mpr fun hw => h v hv (inWindow_iff.mp hw)

theorem lockOf_eq_some {l : LockSlot} (hl : s.lock i = some l) (hc : l.card = card)
    (hbefore : ∀ j m, j < i → s.lock j = some m → m.card ≠ card) : lockOf s card = some i := by
  refine find_range_eq_some (lock_inside hl) (by simp [hl, hc]) fun j hj => ?_
  cases hm : s.lock j with
  | none => rfl
  | some m => simpa using hbefore j m hj hm

theorem lockOf_eq_none (h : ∀ j l, j < 16 → s.lock j = some l → l.card ≠ card) : lockOf s card = none := by
  refine find_range_eq_none fun j hj => ?_
  cases hm : s.lock j with
  | none => rfl
  | some m => simpa using h j m hj hm

theorem freeLock_eq_some (hi : i < 16) (hfree : s.lock i = none) (hbefore : ∀ j, j < i → s.lock j ≠ none) :
    freeLock s = some i :=
  find_range_eq_some hi (by simp [hfree]) fun j hj => Option.isNone_eq_false_iff.mpr (Option.isSome_iff_ne_none.mpr (hbefore j hj))

theorem freeLock_eq_none (h : ∀ j, j < 16 → s.lock j ≠ none) : freeLock s = none :=
  find_range_eq_none fun j hj => Option.isNone_eq_false_iff.mpr (Option.isSome_iff_ne_none.mpr (h j hj))

end Search

/-! ### The ways of a card request at the lock table (R6, R7, R21) -/

/-- A card request with the window and the slot of its card (R6, R7). -/
def matched (s : State) (req : CardReq) (w : Nat) : CardReq :=
  { req with window := w, slot := (s.window w).base + (req.card - (s.window w).low) }

section Ways
variable {s : State} {req : CardReq} {i w : Nat}

theorem refusal_eq_plainReply (req : CardReq) (st : Status) : refusal req st = plainReply req.kind.code st 0 (fig 4 req.card) := by
  simp [refusal, plainReply]

/-- A request for a card that no slot locks becomes owner of the lowest free slot (R21, R23). -/
theorem seekLock_takes (hother : ∀ j l, j < 16 → s.lock j = some l → l.card ≠ req.card) (hi : i < 16) (hfree : s.lock i = none)
    (hbefore : ∀ j, j < i → s.lock j ≠ none) :
    seekLock req s = issue (.cardRead i req.slot)
      (s.setLock i (some { card := req.card, owner := req, waiters := [], doing := .reading })) := by
  rw [seekLock, lockOf_eq_none hother, freeLock_eq_some hi hfree hbefore]; rfl

/-- A request for a locked card joins its waiters (R21). -/
theorem seekLock_joins {l : LockSlot} (hl : s.lock i = some l) (hc : l.card = req.card)
    (hbefore : ∀ j m, j < i → s.lock j = some m → m.card ≠ req.card) (hroom : l.waiters.length < 6) :
    seekLock req s = s.setLock i (some { l with waiters := l.waiters ++ [req] }) := by
  simp [seekLock, lockOf_eq_some hl hc hbefore, hl, Config.lockWaiters, hroom]

/-- With 6 waiters a request for a locked card is refused BUSY (R21). -/
theorem seekLock_full {l : LockSlot} (hl : s.lock i = some l) (hc : l.card = req.card)
    (hbefore : ∀ j m, j < i → s.lock j = some m → m.card ≠ req.card) (hfull : 6 ≤ l.waiters.length) :
    seekLock req s = sendReply req.origin (refusal req .busy) s := by
  simp [seekLock, lockOf_eq_some hl hc hbefore, hl, Config.lockWaiters, Nat.not_lt.mpr hfull]

/-- With every slot taken by another card a request is refused BUSY (R21). -/
theorem seekLock_noSlot (hother : ∀ j l, j < 16 → s.lock j = some l → l.card ≠ req.card) (htaken : ∀ j, j < 16 → s.lock j ≠ none) :
    seekLock req s = sendReply req.origin (refusal req .busy) s := by
  simp [seekLock, lockOf_eq_none hother, freeLock_eq_none htaken]

theorem takeCardRequest_unknown (h : ∀ v, v < 8 → ¬InWindow s req.card v) :
    takeCardRequest req s = sendReply req.origin (refusal req .unknownCard) s := by
  simp [takeCardRequest, matchWindow_eq_none h]

theorem takeCardRequest_matched (hw : w < 8) (h : InWindow s req.card w) (hbefore : ∀ v, v < w → ¬InWindow s req.card v) :
    takeCardRequest req s = seekLock (matched s req w) s := by
  rw [takeCardRequest, matchWindow_eq_some hw h hbefore]; rfl

end Ways

/-- A request that passes the field check is of its kind and origin (R45, R177). -/
theorem cardRequest_kind_origin {k : CardKind} {o : Origin} {body : List Byte} {req : CardReq}
    (h : cardRequest? k o body = some req) : req.kind = k ∧ req.origin = o := by
  simp only [cardRequest?] at h
  split at h
  · cases h
  · cases k with
    | balance | cashOut | block | unblock => cases h; exact ⟨rfl, rfl⟩
    | activate | load | refund | hold | redeem | release | capture | void =>
      simp only at h
      split at h <;> cases h
      exact ⟨rfl, rfl⟩

/-! ### Card requests of the link -/

section Link
variable {k : CardKind} {tag : Byte} {body : List Byte} {req : CardReq} {s : State}

theorem exec_cardCommand : exec (cardCommand k tag body) s = .next (hostCard k tag body s) := by cases k <;> rfl

/-- A card request that the link takes comes to the window match with its tag in flight (R44, R159, R160). -/
theorem exec_cardCommand_admitted (ha : Admits .trade tag s) (hf : cardRequest? k (.link tag.toNat) body = some req) :
    exec (cardCommand k tag body) s = .next (takeCardRequest req (taken tag s)) := by
  rw [exec_cardCommand, hostCard, hostRequest_admitted ha hf]

/-- A refusal of a card request of the link. -/
theorem sendReply_refusal (hf : cardRequest? k (.link tag.toNat) body = some req) (st : Status) (u : State) :
    sendReply req.origin (refusal req st) u = sendLink tag.toNat (plainReply k.code st 0 (fig 4 req.card)) u := by
  obtain ⟨hk, ho⟩ := cardRequest_kind_origin hf
  rw [ho, refusal_eq_plainReply, hk]; rfl

end Link

/-- Settles O25: the request is matched to its window and takes the lowest free slot. -/
theorem cardRequestTakesLock : Obligations.CardRequestTakesLock := by
  intro k tag body req w i s ha hf hw hen hlow hhigh hbefore hother hi hfree hlower own
  rw [exec_cardCommand_admitted ha hf, takeCardRequest_matched (s := taken tag s) hw ⟨hen, hlow, hhigh⟩ hbefore,
    seekLock_takes (s := taken tag s) (req := matched (taken tag s) req w) hother hi hfree hlower]
  rfl

/-- Settles O26: each way of a request at the lock table, and the refusal of a failed field check. -/
theorem cardRequestWaitsOrIsRefused : Obligations.CardRequestWaitsOrIsRefused := by
  refine ⟨?_, ?_⟩
  · intro k tag body s hfree hf
    rw [exec_cardCommand, hostCard, hostRequest_badField hfree hf]; rfl
  · intro k tag body req s ha hf c refused
    have hexec : exec c s = .next (takeCardRequest req (taken tag s)) := exec_cardCommand_admitted ha hf
    constructor
    · intro hno
      rw [hexec, takeCardRequest_unknown (s := taken tag s) hno, sendReply_refusal hf]
    · intro w hw hen hlow hhigh hbefore own
      rw [takeCardRequest_matched (s := taken tag s) hw ⟨hen, hlow, hhigh⟩ hbefore] at hexec
      have hbusy : sendReply own.origin (refusal own .busy) (taken tag s) = refused .busy := sendReply_refusal hf .busy _
      refine ⟨fun i l _ hl hc hfirst => ⟨fun hroom => ?_, fun hfull => ?_⟩, fun hall => ?_⟩
      · rw [hexec, seekLock_joins (s := taken tag s) (req := matched (taken tag s) req w) hl hc hfirst hroom]; rfl
      · rw [hexec, seekLock_full (s := taken tag s) (req := matched (taken tag s) req w) hl hc hfirst hfull]; exact congrArg _ hbusy
      · rw [hexec, seekLock_noSlot (s := taken tag s) (req := matched (taken tag s) req w)]
        · exact congrArg _ hbusy
        · intro j l hj hl
          obtain ⟨l', hl', hne⟩ := hall j hj
          cases hl.symm.trans hl'
          exact hne
        · intro j hj
          obtain ⟨l, hl, _⟩ := hall j hj
          exact fun h => by cases hl.symm.trans h

end Sys2Proof.Machine
end

section
/-! The requests of R170 (O38, O41, O43): how the JC takes one, waits, answers and takes the next, and the writes they make. -/

namespace Sys2Proof.Machine
open Sys2Proof Sys2Proof.Safety

/-! ### One request at a time (R170) -/

section Taking
variable {q : ConfigReq} {rest : List ConfigReq} {s t : State}

theorem runCfg_nil : runCfg [] s = { s with jc := { s.jc with cfg := none, cfgWaiting := [] } } := rfl

/-- A request that is done with at once lets the next one in. -/
theorem runCfg_done (h : startCfg q s = (t, false)) : runCfg (q :: rest) s = runCfg rest t := by simp [runCfg, h]

/-- A request that is worked on holds up those behind it. -/
theorem runCfg_works (h : startCfg q s = (t, true)) :
    runCfg (q :: rest) s = { t with jc := { t.jc with cfg := some q, cfgWaiting := rest } } := by simp [runCfg, h]

/-- The phase test refuses a request (R170). -/
theorem startCfg_refused {st : Status} {reason : Nat} (h : cfgPhase q.what s.jc.phase = some (st, reason)) :
    startCfg q s = (sendLink q.tag (plainReply q.kind st reason) s, false) := by simp [startCfg, h, plainReply]

theorem startCfg_item_fault {i : ConfigItem} (hp : s.jc.phase = .setup) (hw : q.what = .item i) (hs : s.jc.store = .fault) :
    startCfg q s = (sendLink q.tag (plainReply q.kind .storeFault) s, false) := by
  simp [startCfg, hp, hw, hs, cfgPhase, plainReply]

theorem startCfg_item {i : ConfigItem} (hp : s.jc.phase = .setup) (hw : q.what = .item i) (hs : s.jc.store = .normal) :
    startCfg q s = (issue (.configWrite i) s, true) := by
  simp [startCfg, hp, hw, hs, cfgPhase]

theorem startCfg_merchant_fault {m cls group : Nat} (hp : s.jc.phase = .setup) (hw : q.what = .merchant m cls group)
    (hs : s.jc.store = .fault) : startCfg q s = (sendLink q.tag (plainReply q.kind .storeFault) s, false) := by
  simp [startCfg, hp, hw, hs, cfgPhase, plainReply]

theorem startCfg_merchant_closed {m cls group : Nat} (hp : s.jc.phase = .setup) (hw : q.what = .merchant m cls group)
    (hs : s.jc.store = .normal) (hc : (s.admission m).state = .closed) :
    startCfg q s = (sendLink q.tag (plainReply q.kind .configRefused 24 (fig 1 m)) s, false) := by
  simp [startCfg, hp, hw, hs, hc, cfgPhase, plainReply, reasonMerchantClosed]

theorem startCfg_merchant {m cls group : Nat} (hp : s.jc.phase = .setup) (hw : q.what = .merchant m cls group)
    (hs : s.jc.store = .normal) (hc : (s.admission m).state ≠ .closed) :
    startCfg q s = (issue (.setMerchantRead q.tag m cls group) s, true) := by
  simp [startCfg, hp, hw, hs, hc, cfgPhase]

theorem cfgPhase_format {cap : Nat} (hp : s.jc.phase = .setup ∨ s.jc.phase = .unformatted) :
    cfgPhase (.format cap) s.jc.phase = none := by rcases hp with hp | hp <;> rw [hp] <;> rfl

theorem formatGuard_untaken (hp : s.jc.phase = .setup) (hs : s.jc.store = .normal) (hu : 0 < s.jc.untaken) :
    formatGuard s = some (48, fig 2 s.jc.untaken) := by simp [formatGuard, hp, hs, hu, reasonUntaken]

theorem formatGuard_list (hp : s.jc.phase = .setup) (hs : s.jc.store = .normal) (hu : s.jc.untaken = 0)
    (hl : s.pcu.state ≠ .empty) : formatGuard s = some (32, fig 1 s.pcu.state.code) := by
  simp [formatGuard, hp, hs, hu, hl, reasonListUnreleased]

/-- The guard is made in SETUP with the store NORMAL alone, and passes with no untaken record and an EMPTY list (R171). -/
theorem formatGuard_passes
    (h : ¬(s.jc.phase = .setup ∧ s.jc.store = .normal) ∨ (s.jc.untaken = 0 ∧ s.pcu.state = .empty)) : formatGuard s = none := by
  rcases h with h | ⟨hu, hl⟩
  · by_cases hp : s.jc.phase = .setup
    · cases hs : s.jc.store with
      | normal => exact absurd ⟨hp, hs⟩ h
      | fault => simp [formatGuard, hs]
    · simp [formatGuard, hp]
  · simp [formatGuard, hu, hl]

/-- FORMAT's guard refuses it (R171). -/
theorem startCfg_format_refused {cap reason : Nat} {figures : List Byte} (hp : s.jc.phase = .setup ∨ s.jc.phase = .unformatted)
    (hw : q.what = .format cap) (hg : formatGuard s = some (reason, figures)) :
    startCfg q s = (sendLink q.tag (plainReply q.kind .formatRefused reason figures) s, false) := by
  simp [startCfg, hw, cfgPhase_format hp, hg, plainReply]

/-- FORMAT begins with the write of an all-zero totals record (R171). -/
theorem startCfg_format {cap : Nat} (hp : s.jc.phase = .setup ∨ s.jc.phase = .unformatted) (hw : q.what = .format cap)
    (hg : formatGuard s = none) :
    startCfg q s = (issue (.formatWrite 1 0 8192 (List.replicate 64 0)) { s with jc := { s.jc with
      format := some { tag := q.tag, capacity := cap, stage := 1, written := 0 } } }, true) := by
  simp only [startCfg, hw, cfgPhase_format hp, hg]; rfl

theorem startCfg_openService (hp : s.jc.phase = .setup) (hw : q.what = .openService) :
    startCfg q s = (openService q.tag s, false) := by simp [startCfg, hp, hw, cfgPhase]

/-- The request being worked on is answered, and the next one taken (R170). -/
theorem answerCfg_eq {st : Status} {figures : List Byte} (h : s.jc.cfg = some q) :
    answerCfg st figures s = runCfg s.jc.cfgWaiting (sendLink q.tag (plainReply q.kind st 0 figures) s) := by
  simp [answerCfg, h, plainReply]

theorem takeCfg_idle {kind tag : Nat} {what : ConfigWhat} (h : s.jc.cfg = none) :
    takeCfg kind tag what s = runCfg [{ tag := tag, kind := kind, what := what }] s := by simp [takeCfg, h]

theorem takeCfg_waits {kind tag : Nat} {what : ConfigWhat} (h : s.jc.cfg ≠ none) :
    takeCfg kind tag what s
      = { s with jc := { s.jc with cfgWaiting := s.jc.cfgWaiting ++ [{ tag := tag, kind := kind, what := what }] } } := by
  obtain ⟨q, hq⟩ := Option.ne_none_iff_exists'.mp h
  simp [takeCfg, hq]

end Taking

/-- An access is issued alike whatever request is being worked on (R112). -/
theorem issue_cfg (op : PortOp) (c : Option ConfigReq) (w : List ConfigReq) (s : State) :
    issue op { s with jc := { s.jc with cfg := c, cfgWaiting := w } }
      = { issue op s with jc := { (issue op s).jc with cfg := c, cfgWaiting := w } } := by
  unfold issue
  cases s.jc.serving <;> rfl

/-! ### The frames of R170's requests -/

section Frames
variable {kind : Nat} {tag : Byte} {body : List Byte} {c : Instr} {i : ConfigItem} {s : State}

/-- A configuration request is taken in SETUP alone, where every request of R170 is (R160). -/
theorem admits_in_setup (h : Admits .config tag s) : s.jc.phase = .setup ∧ Admits .opening tag s ∧ Admits .format tag s := by
  obtain ⟨hfree, hphase⟩ := h
  simp only [Admits, phaseRefusal] at hphase ⊢
  cases hp : s.jc.phase <;> cases hf : s.jc.format.isSome <;> simp [hp, hf] at hphase ⊢
  exact hfree

/-- The four requests that set a configuration record, taken by the link (R5, R72, R173). -/
theorem exec_item (hc : requestOf kind tag body = some c) (hf : itemFields kind body = some i) (ha : Admits .config tag s) :
    exec c s = .next (takeCfg kind tag.toNat (.item i) (taken tag s)) := by
  have hexec : exec c s = .next (hostItem kind (itemFields kind) tag body s) := by
    unfold itemFields at hf
    split at hf
    all_goals first | cases hf | (cases hc; rfl)
  rw [hexec, hostItem, hostRequest_admitted ha hf]

theorem byteOf_toNat {n : Nat} (h : n < 256) : (byteOf n).toNat = n := by
  rw [byteOf, BitVec.toNat_ofNat]; exact Nat.mod_eq_of_lt h

theorem setMerchantFields_bytes {m cls group : Nat} (h1 : 1 ≤ m) (h2 : m ≤ 240) (h3 : cls ≤ 7) (h4 : group ≤ 7) :
    setMerchantFields? [byteOf m, byteOf cls, byteOf group] = some (m, cls, group) := by
  simp [setMerchantFields?, field, leNat, inRange, Config.merchants, byteOf_toNat (show m < 256 by omega),
    byteOf_toNat (show cls < 256 by omega), byteOf_toNat (show group < 256 by omega), h1, h2, h3, h4]

theorem exec_setMerchant {m cls group : Nat} (h1 : 1 ≤ m) (h2 : m ≤ 240) (h3 : cls ≤ 7) (h4 : group ≤ 7)
    (ha : Admits .config tag s) : exec (.setMerchant tag [byteOf m, byteOf cls, byteOf group]) s
      = .next (takeCfg 0x3B tag.toNat (.merchant m cls group) (taken tag s)) := by
  rw [exec, execSetMerchant, hostRequest_admitted ha (setMerchantFields_bytes h1 h2 h3 h4)]

theorem exec_openService (ha : Admits .config tag s) :
    exec (.openService tag []) s = .next (takeCfg 0x3E tag.toNat .openService (taken tag s)) := by
  obtain ⟨_, hopen, _⟩ := admits_in_setup ha
  rw [exec, execOpenService, hostRequest_admitted hopen (show noFields? [] = some () from rfl)]

theorem formatFields_bytes {cap : Nat} (h1 : 1 ≤ cap) (h2 : cap ≤ 1048576) : formatFields? (leBytes 3 cap) = some cap := by
  have hfield : field (leBytes 3 cap) 0 3 = cap := by
    rw [field, List.drop_zero, List.take_of_length_le (leBytes_length 3 cap).le, leNat_leBytes]
    exact Nat.mod_eq_of_lt (by omega)
  simp [formatFields?, hfield, inRange, Config.maxSlots, h1, h2]

theorem exec_format {cap : Nat} (h1 : 1 ≤ cap) (h2 : cap ≤ 1048576) (ha : Admits .config tag s) :
    exec (.format tag (leBytes 3 cap)) s = .next (takeCfg 0x38 tag.toNat (.format cap) (taken tag s)) := by
  obtain ⟨_, _, hformat⟩ := admits_in_setup ha
  rw [exec, execFormat, hostRequest_admitted hformat (formatFields_bytes h1 h2)]

/-- OPEN-SERVICE with no request of R170 before it (R174). -/
theorem exec_openService_idle (ha : Admits .config tag s) (hcfg : s.jc.cfg = none) :
    exec (.openService tag []) s = .next (runCfg [] (openService tag.toNat (taken tag s))) := by
  rw [exec_openService ha, takeCfg_idle (s := taken tag s) hcfg,
    runCfg_done (startCfg_openService (s := taken tag s) (admits_in_setup ha).1 rfl)]

end Frames

/-- Settles O38: the requests that come alone, those that wait, and the turn of each by its case of `startCfg`. -/
theorem configRequestsReachThePort : Obligations.ConfigRequestsReachThePort := by
  refine ⟨?_, ?_, ?_, ?_⟩
  · intro kind tag body c i s hc hf ha hcfg hp u
    rw [exec_item hc hf ha, takeCfg_idle (s := taken tag s) hcfg]
    refine ⟨fun hs => ?_, fun hs => ?_⟩
    · rw [runCfg_works (startCfg_item (s := taken tag s) hp rfl hs), ← issue_cfg]
    · rw [runCfg_done (startCfg_item_fault (s := taken tag s) hp rfl hs)]; rfl
  · intro tag m cls group s ha hp hcfg h1 h2 h3 h4 u idle c
    have hexec := exec_setMerchant h1 h2 h3 h4 ha
    rw [takeCfg_idle (s := taken tag s) hcfg] at hexec
    refine ⟨fun hs hc => ?_, fun hs hc => ?_, fun hs => ?_⟩
    · rw [hexec, runCfg_works (startCfg_merchant (s := taken tag s) hp rfl hs hc), ← issue_cfg]
    · rw [hexec, runCfg_done (startCfg_merchant_closed (s := taken tag s) hp rfl hs hc)]; rfl
    · rw [hexec, runCfg_done (startCfg_merchant_fault (s := taken tag s) hp rfl hs)]; rfl
  · intro tag s ha hcfg u waits
    have hwaits : ∀ kind what, takeCfg kind tag.toNat what u = _ := fun kind what => takeCfg_waits (s := taken tag s) hcfg
    refine ⟨fun kind body c i hc hf => ?_, fun m cls group h1 h2 h3 h4 => ?_, ?_, fun cap h1 h2 => ?_⟩
    · exact (exec_item hc hf ha).trans (congrArg _ (hwaits _ _))
    · exact (exec_setMerchant h1 h2 h3 h4 ha).trans (congrArg _ (hwaits _ _))
    · exact (exec_openService ha).trans (congrArg _ (hwaits _ _))
    · exact (exec_format h1 h2 ha).trans (congrArg _ (hwaits _ _))
  · intro q rest s refused works
    refine ⟨rfl, fun hp hw => ?_, fun hp hw => ?_, fun hp hw => ?_, fun i hp hs hw => ?_, fun i hp hs hw => ?_,
      fun m cls group hp hw => ⟨fun hs => ?_, fun hs hc => ?_, fun hs hc => ?_⟩,
      ?_, fun hp hw => ⟨?_, ?_⟩⟩
    · exact runCfg_done (startCfg_refused (by rw [hp, hw]; rfl))
    · refine runCfg_done (startCfg_refused ?_)
      rw [hp]
      cases hq : q.what with
      | openService => exact absurd hq hw
      | item | merchant | format => rfl
    · refine runCfg_done (startCfg_refused ?_)
      rw [hp]
      cases hq : q.what with
      | format cap => exact absurd hq (hw cap)
      | item | merchant | openService => rfl
    · exact runCfg_done (startCfg_item_fault hp hw hs)
    · exact runCfg_works (startCfg_item hp hw hs)
    · exact runCfg_done (startCfg_merchant_fault hp hw hs)
    · exact runCfg_done (startCfg_merchant_closed hp hw hs hc)
    · exact runCfg_works (startCfg_merchant hp hw hs hc)
    · intro cap hp hw guarded
      refine ⟨fun ⟨hset, hs⟩ hu => ?_, fun ⟨hset, hs⟩ hu hl => ?_, fun hno => ?_⟩
      · exact runCfg_done (startCfg_format_refused hp hw (formatGuard_untaken hset hs hu))
      · exact runCfg_done (startCfg_format_refused hp hw (formatGuard_list hset hs hu hl))
      · exact runCfg_works (startCfg_format hp hw (formatGuard_passes hno))
    · exact runCfg_done (startCfg_openService hp hw)
    · exact fun tag ha hcfg => exec_openService_idle ha hcfg

/-! ### Configuration writes (R5, R72, R144, R173) -/

theorem storeOp_eq {op : PortOp} {s : State} {a : Nat} {bs : List Byte} {ok : List Byte → Bool} (h : op.write? = some (a, bs, ok)) :
    storeOp op s = { s with mem := Memory.writeMany s.mem a bs } := by simp [storeOp, h]

theorem loadItem_cfg (i : ConfigItem) (s : State) :
    (loadItem i s).jc.cfg = s.jc.cfg ∧ (loadItem i s).jc.cfgWaiting = s.jc.cfgWaiting := by cases i <;> exact ⟨rfl, rfl⟩

theorem loadItem_line (n : Nat) (c : LineCopy) (mem : List Host.Cell) (s : State) :
    loadItem (.line n c) { s with mem := mem } = State.setLine { s with mem := mem } n { s.line n with copy := c } := rfl

theorem loadItem_station (n e m lane : Nat) (en : Bool) (s : State) : loadItem (.station n e m lane en) s
    = s.setStation n e { merchant := m, lane := lane, enabled := en, state := if en then .absent else .disabled,
                         misses := 0, bad := 0, run := 0, errors := 0, outstanding := false, held := none } := rfl

/-- A verified configuration write stores the record, loads the copy, answers OK and lets the next request in. -/
theorem itemWritten_eq {i : ConfigItem} {q : ConfigReq} {s t : State} {figures : List Byte} (h : s.jc.cfg = some q)
    (hf : itemFigures i = figures)
    (hl : loadItem i { s with mem := Memory.writeMany s.mem (configAddress i.index) i.bytes } = t) :
    itemWritten i s = runCfg s.jc.cfgWaiting (sendLink q.tag (plainReply q.kind .ok 0 figures) t) := by
  subst hf hl
  obtain ⟨hcfg, hwaiting⟩ := loadItem_cfg i { s with mem := Memory.writeMany s.mem (configAddress i.index) i.bytes }
  rw [itemWritten, storeOp_eq (show PortOp.write? (.configWrite i) = some (_, _, _) from rfl), answerCfg_eq (hcfg.trans h), hwaiting]

section Completions
variable {s : State}

/-- The event's work decides what the port's next access is (R112). -/
theorem portNext_congr {t u : State} (h : t = u) :
    (.next (portNext 2 t) : Host.Outcome State Fault Refusal) = .next (portNext 2 u) := by rw [h]

theorem exec_programmeWriteDone {k : Nat} {w : Window} (h : s.jc.serving = some (.configWrite (.window k w))) :
    exec .programmeWriteDone s = .next (portNext 2 (itemWritten (.window k w) s)) := by
  rw [exec, execProgrammeWriteDone, h]; rfl
theorem exec_tariffWriteDone {c : Nat} {t : Tariff} (h : s.jc.serving = some (.configWrite (.tariff c t))) :
    exec .tariffWriteDone s = .next (portNext 2 (itemWritten (.tariff c t) s)) := by rw [exec, execTariffWriteDone, h]; rfl
theorem exec_lineWriteDone {n : Nat} {c : LineCopy} (h : s.jc.serving = some (.configWrite (.line n c))) :
    exec .lineConfigWriteDone s = .next (portNext 2 (itemWritten (.line n c) s)) := by rw [exec, execLineConfigWriteDone, h]; rfl
theorem exec_stationWriteDone {n e m l : Nat} {en : Bool} (h : s.jc.serving = some (.configWrite (.station n e m l en))) :
    exec .lineConfigWriteDone s = .next (portNext 2 (itemWritten (.station n e m l en) s)) := by
  rw [exec, execLineConfigWriteDone, h]; rfl

end Completions

/-- Settles O41: one completion for each kind of record. -/
theorem configWriteCompletes : Obligations.ConfigWriteCompletes := by
  intro i q s hs hq u ok
  cases i with
  | window k w => exact (exec_programmeWriteDone hs).trans (portNext_congr (itemWritten_eq hq rfl rfl))
  | tariff c t => exact (exec_tariffWriteDone hs).trans (portNext_congr (itemWritten_eq hq rfl rfl))
  | line n c => exact (exec_lineWriteDone hs).trans (portNext_congr (itemWritten_eq hq rfl (loadItem_line n c _ s)))
  | station n e m lane en => exact (exec_stationWriteDone hs).trans (portNext_congr (itemWritten_eq hq rfl (loadItem_station ..)))

/-! ### The writes of FORMAT (R171, R172) -/

section Format
variable {job : FormatJob} {i a : Nat} {bs : List Byte} {s : State}

theorem execFormatWriteDone_eq (hs : s.jc.serving = some (.formatWrite job.stage i a bs)) (hf : s.jc.format = some job) :
    exec .formatWriteDone s = .next (portNext 2 (formatWritten job { s with mem := Memory.writeMany s.mem a bs })) := by
  rw [exec, execFormatWriteDone, hs]
  simp only [complete, storeOp_eq (show PortOp.write? (.formatWrite job.stage i a bs) = some (_, _, _) from rfl), formatArrives, hf]

/-- The next write of the stage (R171). -/
theorem formatWritten_next (h : job.written + 1 < stageCount job.capacity job.stage) :
    formatWritten job s = issueFormat { job with written := job.written + 1 } s := if_pos h

/-- The first write of the next stage (R171). -/
theorem formatWritten_stage (h : stageCount job.capacity job.stage ≤ job.written + 1) (h6 : job.stage < 6) :
    formatWritten job s = issueFormat { job with stage := job.stage + 1, written := 0 } s := by
  simp [formatWritten, Nat.not_lt.mpr h, h6]

theorem formatWritten_done (h6 : job.stage = 6) (hs : s.jc.store = .normal) : formatWritten job s = formatDone job s := by
  simp [formatWritten, h6, stageCount, hs]

theorem formatWritten_doneFault (h6 : job.stage = 6) (hs : s.jc.store = .fault) :
    formatWritten job s = formatDoneFault job s := by
  simp [formatWritten, h6, stageCount, hs]

theorem formatDone_eq {q : ConfigReq} (h : s.jc.cfg = some q) : formatDone job s
    = runCfg s.jc.cfgWaiting (sendLink q.tag (plainReply q.kind .ok 0 (fig 3 job.capacity ++ fig 1 s.ht.epoch))
        { freshBooks job s with jc := { (freshBooks job s).jc with phase := .setup } }) :=
  answerCfg_eq (s := { freshBooks job s with jc := { (freshBooks job s).jc with phase := .setup } }) h

end Format

/-- Settles O43: the next write of a stage, the passage to the next stage, and the two completions. -/
theorem formatWritesFollow : Obligations.FormatWritesFollow := by
  intro job i a bs s hs hf h1 h6 fresh count record u writes books done
  have hexec := execFormatWriteDone_eq hs hf
  have hcount : stageCount job.capacity job.stage = count job.stage := by
    rcases hst : job.stage with _ | _ | _ | _ | _ | _ | _ <;> rfl
  have hrecord : ∀ stage k, formatRecord job.capacity s.ht.epoch stage k = record stage k := by
    intro stage k
    rcases stage with _ | _ | _ | _ | _ | _ | _ <;> rfl
  refine ⟨fun hn => ?_, fun hn hlt => ?_, fun q hst hn hcfg hk => ?_, fun hst hn => ?_⟩
  · show exec _ _ = _
    rw [hexec, formatWritten_next (hcount ▸ hn), ← hrecord]; rfl
  · show exec _ _ = _
    rw [hexec, formatWritten_stage (hcount ▸ hn) hlt, ← hrecord]; rfl
  · rw [hexec, formatWritten_done (s := u) hst hn]
    refine portNext_congr ((formatDone_eq (s := u) hcfg).trans ?_)
    rw [hk]
    rfl
  · rw [hexec, formatWritten_doneFault (s := u) hst hn]
    rfl

end Sys2Proof.Machine
end

section
/-! OPEN-SERVICE (O40): the checks of R174 in their order, and the part that enters SERVICE. -/

namespace Sys2Proof.Machine
open Sys2Proof Sys2Proof.Safety

/-! ### The first failure in an ordered list -/

section Ordered
variable {α β : Type} {R : α → α → Prop} {l : List α} {p : α}

/-- In an ordered list the first result is that of the entry before which no other gives one. -/
theorem findSome_of_ordered {f : α → Option β} {b : β} (hl : l.Pairwise R) (hp : p ∈ l) (hf : f p = some b)
    (hbefore : ∀ q ∈ l, R q p → f q = none) : l.findSome? f = some b := by
  obtain ⟨pre, post, rfl⟩ := List.append_of_mem hp
  refine List.findSome?_eq_some_iff.mpr ⟨pre, p, post, rfl, hf, fun q hq => hbefore q (List.mem_append_left _ hq) ?_⟩
  exact (List.pairwise_append.mp hl).2.2 q hq p List.mem_cons_self

/-- In an ordered list the entries that stand before `p` are those less than it. -/
theorem mem_takeWhile_of_ordered [DecidableEq α] (hl : l.Pairwise R) (hirr : ∀ x, ¬R x x) (hasymm : ∀ x y, R x y → ¬R y x)
    (hp : p ∈ l) (q : α) : q ∈ l.takeWhile (fun x => decide (x ≠ p)) ↔ q ∈ l ∧ R q p := by
  obtain ⟨pre, post, rfl⟩ := List.append_of_mem hp
  obtain ⟨_, hpost, hpre⟩ := List.pairwise_append.mp hl
  have hless : ∀ x ∈ pre, R x p := fun x hx => hpre x hx p List.mem_cons_self
  have htake : (pre ++ p :: post).takeWhile (fun x => decide (x ≠ p)) = pre := by
    rw [List.takeWhile_append_of_pos, List.takeWhile_cons_of_neg (by simp), List.append_nil]
    intro x hx
    exact decide_eq_true fun h => hirr p (h ▸ hless x hx)
  rw [htake]
  refine ⟨fun hq => ⟨List.mem_append_left _ hq, hless q hq⟩, fun ⟨hq, hR⟩ => ?_⟩
  rcases List.mem_append.mp hq with hq | hq
  · exact hq
  · rcases List.mem_cons.mp hq with rfl | hq
    · exact absurd hR (hirr q)
    · exact absurd hR (hasymm p q ((List.pairwise_cons.mp hpost).1 q hq))

end Ordered

/-! ### The order of the entries (R174) -/

/-- Entry `q` stands before entry `p` in the order of lines and entries. -/
def EntryBefore (q p : Nat × Nat) : Prop := q.1 < p.1 ∨ (q.1 = p.1 ∧ q.2 < p.2)

theorem mem_allEntries {p : Nat × Nat} : p ∈ allEntries ↔ p.1 < 4 ∧ p.2 < 48 := by
  obtain ⟨n, e⟩ := p
  simp only [allEntries, List.mem_flatMap, List.mem_range, List.mem_map, Prod.mk.injEq, Config.lineEntries]
  constructor
  · rintro ⟨_, hn, _, he, rfl, rfl⟩; exact ⟨hn, he⟩
  · rintro ⟨hn, he⟩; exact ⟨n, hn, e, he, rfl, rfl⟩

theorem allEntries_ordered : allEntries.Pairwise EntryBefore := by
  rw [allEntries, List.pairwise_flatMap]
  constructor
  · intro n _
    rw [List.pairwise_map]
    exact List.pairwise_lt_range.imp fun h => Or.inr ⟨rfl, h⟩
  · refine List.pairwise_lt_range.imp fun hlt q hq p hp => Or.inl ?_
    obtain ⟨_, _, rfl⟩ := List.mem_map.mp hq
    obtain ⟨_, _, rfl⟩ := List.mem_map.mp hp
    exact hlt

/-! ### The checks of R8 and R174 -/

section Checks
variable {s : State} {i k : Nat} {p : Nat × Nat} {f : OpenFailure}

theorem windowFailure_none
    (h : (s.window i).enabled = true → (s.window i).low ≤ (s.window i).high ∧ (s.window i).lastSlot ≤ s.mau.copy.capacity) :
    windowFailure s i = none := by
  by_cases hon : (s.window i).enabled = true
  · obtain ⟨h1, h2⟩ := h hon
    simp [windowFailure, hon, Nat.not_lt.mpr h1, Nat.not_lt.mpr h2]
  · simp [windowFailure, hon]

theorem windowFailure_order (hon : (s.window i).enabled = true) (h : (s.window i).high < (s.window i).low) :
    windowFailure s i = some (18, fig 1 (i + 1)) := by simp [windowFailure, hon, h, reasonWindowOrder]

theorem windowFailure_capacity (hon : (s.window i).enabled = true) (h : (s.window i).low ≤ (s.window i).high)
    (hc : s.mau.copy.capacity < (s.window i).lastSlot) : windowFailure s i = some (19, fig 1 (i + 1)) := by
  simp [windowFailure, hon, Nat.not_lt.mpr h, hc, reasonWindowCapacity]

theorem windowsOverlap_iff {a b : Window} : windowsOverlap a b = true
    ↔ a.enabled = true ∧ b.enabled = true ∧ a.base ≤ b.lastSlot ∧ b.base ≤ a.lastSlot := by
  simp [windowsOverlap, and_assoc]

theorem overlapFailure_none (h : ∀ i, i < k → ¬windowsOverlap (s.window i) (s.window k) = true) : overlapFailure s k = none := by
  refine if_neg fun hany => ?_
  obtain ⟨i, hi, ho⟩ := List.any_eq_true.mp hany
  exact h i (List.mem_range.mp hi) ho

theorem overlapFailure_some (hi : i < k) (h : windowsOverlap (s.window i) (s.window k) = true) :
    overlapFailure s k = some (20, fig 1 (k + 1)) :=
  if_pos (List.any_eq_true.mpr ⟨i, List.mem_range.mpr hi, h⟩)

/-- The merchant of an entry may trade (R154, R174 check 4). -/
theorem stationMerchantOk_iff {x : Station} : stationMerchantOk s x = true
    ↔ 1 ≤ x.merchant ∧ x.merchant ≤ 240 ∧ (s.admission x.merchant).state ≠ .unconfigured ∧ (s.admission x.merchant).state ≠ .closed := by
  simp only [stationMerchantOk, inRange, Bool.and_eq_true, decide_eq_true_eq, and_assoc]
  rfl

/-- An enabled entry before `p` holds its identity (R174 check 5). -/
def IdentityBefore (s : State) (p : Nat × Nat) : Prop :=
  ∃ q : Nat × Nat, (q.1 < 4 ∧ q.2 < 48 ∧ (s.station q.1 q.2).enabled = true) ∧ EntryBefore q p
    ∧ (s.station q.1 q.2).merchant = (s.station p.1 p.2).merchant ∧ (s.station q.1 q.2).lane = (s.station p.1 p.2).lane

theorem identityBefore_iff (hp : p ∈ allEntries) :
    ((allEntries.takeWhile fun q => decide (q ≠ p)).any fun q =>
      (s.station q.1 q.2).enabled && decide ((s.station q.1 q.2).merchant = (s.station p.1 p.2).merchant)
        && decide ((s.station q.1 q.2).lane = (s.station p.1 p.2).lane)) = true ↔ IdentityBefore s p := by
  have hmem := mem_takeWhile_of_ordered allEntries_ordered (fun x h => by unfold EntryBefore at h; omega)
    (fun x y h h' => by unfold EntryBefore at h h'; omega) hp
  simp only [List.any_eq_true, hmem, mem_allEntries, Bool.and_eq_true, decide_eq_true_eq, IdentityBefore]
  exact exists_congr fun q => by tauto

theorem entryFailure_none (hp : p ∈ allEntries)
    (h : (s.station p.1 p.2).enabled = true → stationMerchantOk s (s.station p.1 p.2) = true ∧ ¬IdentityBefore s p) :
    entryFailure s p = none := by
  by_cases hon : (s.station p.1 p.2).enabled = true
  · obtain ⟨hm, hd⟩ := h hon
    simp only [entryFailure, hon, hm, Bool.true_eq_false, if_false]
    exact if_neg fun hany => hd ((identityBefore_iff hp).mp hany)
  · simp [entryFailure, hon]

theorem entryFailure_merchant (hon : (s.station p.1 p.2).enabled = true)
    (hm : ¬stationMerchantOk s (s.station p.1 p.2) = true) : entryFailure s p = some (21, fig 1 p.1 ++ fig 1 p.2) := by
  simp [entryFailure, hon, hm, reasonStationMerchant]

theorem entryFailure_identity (hp : p ∈ allEntries) (hon : (s.station p.1 p.2).enabled = true)
    (hm : stationMerchantOk s (s.station p.1 p.2) = true) (hd : IdentityBefore s p) :
    entryFailure s p = some (22, fig 1 p.1 ++ fig 1 p.2) := by
  simp only [entryFailure, hon, hm, Bool.true_eq_false, if_false]
  exact if_pos ((identityBefore_iff hp).mpr hd)

theorem openFailure_store (hs : s.jc.store = .fault) : openFailure s = some (16, []) := if_pos hs

theorem openFailure_time (hs : s.jc.store = .normal) (ht : s.ht.timeSet = false) : openFailure s = some (17, []) := by
  simp [openFailure, hs, ht, reasonTimeUnset]

section Passed
variable (hs : s.jc.store = .normal) (ht : s.ht.timeSet = true)
include hs ht

theorem openFailure_window (hi : i < 8) (hf : windowFailure s i = some f) (hbefore : ∀ j, j < i → windowFailure s j = none) :
    openFailure s = some f := by
  have hfirst := findSome_of_ordered (f := windowFailure s) List.pairwise_lt_range (List.mem_range.mpr hi) hf
    fun j _ hj => hbefore j hj
  simp [openFailure, hs, ht, hfirst]

theorem openFailure_overlap (hw : ∀ j, j < 8 → windowFailure s j = none) (hk : k < 8) (hf : overlapFailure s k = some f)
    (hbefore : ∀ j, j < k → overlapFailure s j = none) : openFailure s = some f := by
  have hwindows : (List.range 8).findSome? (windowFailure s) = none :=
    List.findSome?_eq_none_iff.mpr fun j hj => hw j (List.mem_range.mp hj)
  have hfirst := findSome_of_ordered (f := overlapFailure s) List.pairwise_lt_range (List.mem_range.mpr hk) hf
    fun j _ hj => hbefore j hj
  simp [openFailure, hs, ht, hwindows, hfirst]

theorem openFailure_entries (hw : ∀ j, j < 8 → windowFailure s j = none) (ho : ∀ j, j < 8 → overlapFailure s j = none) :
    openFailure s = allEntries.findSome? (entryFailure s) := by
  have hwindows : (List.range 8).findSome? (windowFailure s) = none :=
    List.findSome?_eq_none_iff.mpr fun j hj => hw j (List.mem_range.mp hj)
  have hoverlaps : (List.range 8).findSome? (overlapFailure s) = none :=
    List.findSome?_eq_none_iff.mpr fun j hj => ho j (List.mem_range.mp hj)
  simp [openFailure, hs, ht, hwindows, hoverlaps]

end Passed

end Checks

/-! ### The part that opens (R145, R175) -/

section Opened
variable {tag : Byte} {s : State}

/-- A failing check is answered, and nothing else changes (R174). -/
theorem exec_openService_fails {reason : Nat} {item : List Byte} (ha : Admits .config tag s) (hcfg : s.jc.cfg = none)
    (hf : openFailure s = some (reason, item)) :
    exec (.openService tag []) s = .next (sendLink tag.toNat (plainReply 0x3E .configRefused reason item)
      { taken tag s with jc := { (taken tag s).jc with cfg := none, cfgWaiting := [] } }) := by
  rw [exec_openService_idle ha hcfg, openService, show openFailure (taken tag s) = some (reason, item) from hf]; rfl

/-- When all checks pass the part opens (R175). -/
theorem exec_openService_opens (ha : Admits .config tag s) (hcfg : s.jc.cfg = none) (hf : openFailure s = none) :
    exec (.openService tag []) s = .next (runCfg [] (openPart tag.toNat (taken tag s))) := by
  rw [exec_openService_idle ha hcfg, openService, show openFailure (taken tag s) = none from hf]

theorem openPart_line {t n : Nat} {u : State} (hn : n < 4) : (openPart t u).line n = openLine u.jc.appendPeriod (u.line n) := by
  simp only [State.line, openPart, sendLink_lines]
  exact vget_map hn

/-- An enabled line opens (R145). -/
theorem openLine_enabled {period : Nat} {l : Line} (h : l.copy.enabled = true) : openLine period l =
    { l with state := .idleGap, round := 0, position := 0, offeredInRound := false, emptyWait := false,
             stations := l.stations.map openEntry, serviceOpen := some period } := if_pos h

theorem openLine_disabled {period : Nat} {l : Line} (h : l.copy.enabled = false) : openLine period l = l := by simp [openLine, h]

/-- The reply that a block has just given is the last of the outbound queue. -/
theorem sendLink_last (t : Nat) (r : Reply) (u : State) : (sendLink t r u).hlp.outbound.getLast?.map OutFrame.reply = some r := by
  simp only [sendLink, pushFrame, List.getLast?_concat, Option.map_some]
  split <;> rfl

end Opened

/-- Settles O40: the first failing check by the order of `openFailure`, and the opened part line by line. -/
theorem openServiceOpensLines : Obligations.OpenServiceOpensLines := by
  intro tag s ha hp hcfg u fails on last inOrder fits overlap x before entry trades double
  have hfails : ∀ {reason item}, openFailure s = some (reason, item) → fails reason item :=
    fun hf => exec_openService_fails ha hcfg hf
  refine ⟨fun hs => hfails (openFailure_store hs), fun hs ht => hfails (openFailure_time hs ht), fun hs ht => ⟨?_, ?_⟩⟩
  · intro i hi hbefore
    have hnone : ∀ j, j < i → windowFailure s j = none := fun j hj =>
      windowFailure_none fun hon => ⟨(hbefore j hj hon).1 hon, (hbefore j hj hon).2⟩
    refine ⟨fun hno => ?_, fun hon hord hcap => hfails (openFailure_window hs ht hi (windowFailure_capacity hon (hord hon) hcap) hnone)⟩
    obtain ⟨hon, hgt⟩ := Classical.not_imp.mp hno
    exact hfails (openFailure_window hs ht hi (windowFailure_order hon (Nat.lt_of_not_le hgt)) hnone)
  · intro hfit
    have hw : ∀ j, j < 8 → windowFailure s j = none := fun j hj =>
      windowFailure_none fun hon => ⟨(hfit j hj hon).1 hon, (hfit j hj hon).2⟩
    refine ⟨fun k hk hbefore ⟨i, hik, ho⟩ => ?_, fun hno => ?_⟩
    · exact hfails (openFailure_overlap hs ht hw hk (overlapFailure_some hik (windowsOverlap_iff.mpr ho)) fun j hj =>
        overlapFailure_none fun i' hi' h => hbefore i' j hi' hj (windowsOverlap_iff.mp h))
    · have ho : ∀ j, j < 8 → overlapFailure s j = none := fun j hj =>
        overlapFailure_none fun i hi h => hno i j hi hj (windowsOverlap_iff.mp h)
      have hentries := openFailure_entries hs ht hw ho
      have hpass : ∀ q ∈ allEntries, (entry q → trades q ∧ ¬double q) → entryFailure s q = none := fun q hq h =>
        entryFailure_none hq fun hon =>
          have hq' := mem_allEntries.mp hq
          ⟨stationMerchantOk_iff.mpr (h ⟨hq'.1, hq'.2, hon⟩).1, (h ⟨hq'.1, hq'.2, hon⟩).2⟩
      refine ⟨fun p he hbefore => ?_, fun hall => ?_⟩
      · obtain ⟨hn, hl, hon⟩ := he
        have hmem : p ∈ allEntries := mem_allEntries.mpr ⟨hn, hl⟩
        have hfirst : ∀ {f}, entryFailure s p = some f → openFailure s = some f := fun hf =>
          hentries.trans (findSome_of_ordered allEntries_ordered hmem hf fun q hq hR =>
            hpass q hq fun hqe => hbefore q hqe hR)
        exact ⟨fun hno => hfails (hfirst (entryFailure_merchant hon fun h => hno (stationMerchantOk_iff.mp h))),
          fun htr hd => hfails (hfirst (entryFailure_identity hmem hon (stationMerchantOk_iff.mpr htr) hd))⟩
      · have hopen : openFailure s = none :=
          hentries.trans (List.findSome?_eq_none_iff.mpr fun q hq => hpass q hq (hall q))
        have hline : ∀ n, n < 4 → (runCfg [] (openPart tag.toNat (taken tag s))).line n = openLine s.jc.appendPeriod (s.line n) :=
          fun n hn => openPart_line (t := tag.toNat) (u := taken tag s) hn
        refine ⟨_, exec_openService_opens ha hcfg hopen, rfl, fun n hn hen => ?_, fun n hn hen => ?_, sendLink_last _ _ _, rfl⟩
        · rw [hline n hn, openLine_enabled hen]
          refine ⟨rfl, rfl, rfl, rfl, fun e he => ?_⟩
          rw [State.station, hline n hn, openLine_enabled hen]
          exact vget_map he
        · rw [hline n hn, openLine_disabled hen]

end Sys2Proof.Machine
end

section
/-! A card read and what its decision answers at once (O48). -/

namespace Sys2Proof.Machine
open Sys2Proof Sys2Proof.Safety

/-! ### The card read -/

section Read
variable {k slot : Nat} {l : LockSlot} {r : CardRec} {s : State}

theorem slotExists_of_bounds (h1 : 1 ≤ slot) (h2 : slot ≤ 1048576) : slotExists slot = true := by
  simp [slotExists, Config.maxSlots, h1, h2]

/-- A card read of an existing slot completes under its lock (R11). -/
theorem exec_cardReadDone (hs : s.jc.serving = some (.cardRead k slot)) (h1 : 1 ≤ slot) (h2 : slot ≤ 1048576) :
    exec .cardReadDone s = .next (portNext 2 (cardRead k slot s)) := by
  rw [exec, execCardReadDone, hs]
  exact if_pos (slotExists_of_bounds h1 h2)

theorem cardRead_unreadable (hl : s.lock k = some l) (hr : readCard (Memory.readMany s.mem (cardAddress slot) 32) = none) :
    cardRead k slot s = answerOwner k l.owner (refusal l.owner .storeFault) (raiseStoreFault .cards 0 s) := by
  simp only [cardRead, hl, hr]

theorem cardRead_wrongSlot (hl : s.lock k = some l) (hr : readCard (Memory.readMany s.mem (cardAddress slot) 32) = some r)
    (hb : r.state ≠ .blank) (hn : r.number ≠ l.owner.card) :
    cardRead k slot s = answerOwner k l.owner (refusal l.owner .wrongSlot) s := by
  simp only [cardRead, hl, hr]
  exact if_pos ⟨hb, hn⟩

theorem cardRead_decides (hl : s.lock k = some l) (hr : readCard (Memory.readMany s.mem (cardAddress slot) 32) = some r)
    (hc : r.state = .blank ∨ r.number = l.owner.card) : cardRead k slot s = decideCard k l.owner r s := by
  simp only [cardRead, hl, hr]
  exact if_neg fun ⟨hb, hn⟩ => hc.elim hb hn

/-- The owner's decision goes on to the Hold Table. -/
theorem setDoing_locked {d : Deciding} (hl : s.lock k = some l) :
    setDoing k d s = s.setLock k (some { l with doing := d }) := by simp only [setDoing, hl]

end Read

/-! ### The decision of each kind (R44) -/

section Kinds
variable {k : Nat} {req : CardReq} {r : CardRec} {s : State}

theorem decideCard_activate (h : req.kind = .activate) : decideCard k req r s = carryOut k req r (decideActivate s (s.window req.window) req r) s := by
  simp only [decideCard, h]
theorem decideCard_load (h : req.kind = .load) : decideCard k req r s = carryOut k req r (decideLoad s (s.window req.window) req r) s := by
  simp only [decideCard, h]
theorem decideCard_hold (h : req.kind = .hold) : decideCard k req r s = carryOut k req r (decideHold s (s.window req.window) req r) s := by
  simp only [decideCard, h]
theorem decideCard_capture (h : req.kind = .capture) : decideCard k req r s = carryOut k req r (decideCapture req r) s := by
  simp only [decideCard, h]
theorem decideCard_redeem (h : req.kind = .redeem) : decideCard k req r s = carryOut k req r (decideRedeem s (s.window req.window) req r) s := by
  simp only [decideCard, h]
theorem decideCard_void (h : req.kind = .void) : decideCard k req r s = carryOut k req r (decideVoid s (s.window req.window) req r) s := by
  simp only [decideCard, h]
theorem decideCard_refund (h : req.kind = .refund) : decideCard k req r s = carryOut k req r (decideRefund s (s.window req.window) req r) s := by
  simp only [decideCard, h]
theorem decideCard_cashOut (h : req.kind = .cashOut) : decideCard k req r s = carryOut k req r (decideCashOut s (s.window req.window) req r) s := by
  simp only [decideCard, h]
theorem decideCard_balance (h : req.kind = .balance) : decideCard k req r s = answerOwner k req (balanceReply s req r) s := by
  simp only [decideCard, h]
theorem decideCard_release (h : req.kind = .release) : decideCard k req r s = releaseHold k req r s := by
  simp only [decideCard, h]

theorem decideCapture_claims (h : r.state = .active) : decideCapture req r = .claim := if_neg (not_not.mpr h)

/-- An amount above the available value is not met in part without the flag, or with nothing available (R31, R53). -/
theorem notPartial {v : Nat} (h : req.partialFlag = false ∨ v = 0) : ¬(req.partialFlag = true ∧ 0 < v) := fun ⟨h1, h2⟩ =>
  h.elim (fun h => Bool.false_ne_true (h.symm.trans h1)) (fun h => Nat.ne_of_gt h2 h)

/-- The figures of a BALANCE, the card number first (R33). -/
theorem balanceReply_eq : balanceReply s req r = plainReply req.kind.code .ok 0 (fig 4 req.card ++ (fig 1 r.state.code
    ++ (fig 3 r.paid ++ (fig 3 r.bonus ++ (fig 3 ((s.chain req.card req.slot).map Hold.held).sum ++ (fig 3 (availOf s req r).1
    ++ (fig 3 (availOf s req r).2 ++ (fig 3 ((availOf s req r).1 + (availOf s req r).2)
    ++ (fig 1 (s.chain req.card req.slot).length ++ fig 4 r.lastPeriod))))))))) := by
  simp only [balanceReply, plainReply, List.append_assoc]

end Kinds

/-! ### The tests of the decisions -/

section Tests
variable {k : Nat} {s : State} {w : Window} {req : CardReq} {r : CardRec}

/-- The group mask test (R9). -/
theorem maskAllows_iff {merchant : Nat} : maskAllows s w merchant = true
    ↔ merchant = 0 ∨ w.groupMask.testBit (s.admission merchant).group = true := by simp [maskAllows]

theorem maskAllows_eq_false {merchant : Nat}
    (h : ¬(merchant = 0 ∨ w.groupMask.testBit (s.admission merchant).group = true)) : maskAllows s w merchant = false :=
  Bool.eq_false_iff.mpr fun hm => h (maskAllows_iff.mp hm)

/-- The entry a VOID names, if it may be voided (R61). -/
theorem voidTarget_eq_some {e : RingEntry} (hf : s.ce.ring.find? (fun x => x.journal == req.voided) = some e)
    (hc : e.card = req.card) (hm : e.merchant = req.merchant) (hv : e.voided = false) : voidTarget s req = some e := by
  simp [voidTarget, hf, hc, hm, hv]

theorem voidTarget_eq_none (h : ∀ e, s.ce.ring.find? (fun x => x.journal == req.voided) = some e →
    e.card ≠ req.card ∨ e.merchant ≠ req.merchant ∨ e.voided = true) : voidTarget s req = none := by
  rw [voidTarget]
  cases hf : s.ce.ring.find? (fun x => x.journal == req.voided) with
  | none => rfl
  | some e =>
    refine if_neg fun ⟨hc, hm, hv⟩ => ?_
    rcases h e hf with h | h | h
    · exact h hc
    · exact h hm
    · exact Bool.false_ne_true (hv.symm.trans h)

/-- The states a request kind may find its card in (R14). -/
def Finds (kind : CardKind) (st : CardState) : Prop :=
  match kind with
  | .activate => st = .blank
  | .unblock => st = .blocked
  | .void | .cashOut => st = .active ∨ st = .blocked
  | .balance | .release => True
  | _ => st = .active

/-- A card in a state the kind does not allow is refused CARD-STATE (R14). -/
theorem decideCard_cardState (h : ¬Finds req.kind r.state) :
    decideCard k req r s = carryOut k req r (.answer (refusal req .cardState)) s := by
  cases hk : req.kind with
  | balance | release => rw [hk] at h; exact absurd trivial h
  | void | cashOut =>
    have hne : r.state ≠ .active ∧ r.state ≠ .blocked := not_or.mp (by rw [hk] at h; exact h)
    simp only [decideCard, hk, decideVoid, decideCashOut, if_pos hne]
  | activate | load | hold | capture | redeem | refund | block | unblock =>
    rw [hk] at h
    have hne := show r.state ≠ _ from h
    simp only [decideCard, hk, decideActivate, decideLoad, decideHold, decideCapture, decideRedeem, decideRefund, decideBlock,
      decideUnblock, if_pos hne]

/-- The group mask refuses an ACTIVATE, LOAD, HOLD, REDEEM or REFUND (R9). -/
theorem decideCard_mask (hst : (req.kind = .activate ∧ r.state = .blank)
      ∨ (r.state = .active ∧ (req.kind = .load ∨ req.kind = .hold ∨ req.kind = .redeem ∨ req.kind = .refund)))
    (hm : maskAllows s (s.window req.window) req.merchant = false) :
    decideCard k req r s = carryOut k req r (.answer (refusal req .programmeRule)) s := by
  rcases hst with ⟨hk, hb⟩ | ⟨ha, hk | hk | hk | hk⟩
  · simp [decideCard, hk, decideActivate, hb, hm]
  · simp [decideCard, hk, decideLoad, ha, hm]
  · simp [decideCard, hk, decideHold, ha, hm]
  · simp [decideCard, hk, decideRedeem, ha, hm]
  · simp [decideCard, hk, decideRefund, ha, hm]

theorem decideActivate_overLimit (hb : r.state = .blank) (hm : maskAllows s w req.merchant = true)
    (ho : w.maxBalance < req.amount) : decideActivate s w req r = .answer (refusal req .overLimit) := by
  simp [decideActivate, hb, hm, ho]

theorem decideLoad_notReloadable (ha : r.state = .active) (hr : w.reloadable = false) :
    decideLoad s w req r = .answer (refusal req .programmeRule) := by simp [decideLoad, ha, hr]

theorem decideLoad_overLimit (ha : r.state = .active) (hr : w.reloadable = true) (hm : maskAllows s w req.merchant = true)
    (ho : w.maxBalance < r.paid + r.bonus + req.amount) : decideLoad s w req r = .answer (refusal req .overLimit) := by
  simp [decideLoad, ha, hr, hm, ho]

theorem decideVoid_tooLate (hst : r.state = .active ∨ r.state = .blocked) (ht : voidTarget s req = none) :
    decideVoid s w req r = .answer (refusal req .voidTooLate) := by
  rw [decideVoid, if_neg (not_and_or.mpr (hst.imp not_not.mpr not_not.mpr)), ht]

theorem decideVoid_overLimit {e : RingEntry} (hst : r.state = .active ∨ r.state = .blocked) (ht : voidTarget s req = some e)
    (ho : w.maxBalance < r.paid + r.bonus + (e.paid + e.bonus)) : decideVoid s w req r = .answer (refusal req .overLimit) := by
  rw [decideVoid, if_neg (not_and_or.mpr (hst.imp not_not.mpr not_not.mpr)), ht]
  exact if_pos ho

theorem decideRefund_capped (ha : r.state = .active) (hm : maskAllows s w req.merchant = true)
    (hc : req.merchant ≠ 0 ∧ (s.tariff (s.admission req.merchant).cls).cap < req.amount) :
    decideRefund s w req r = .answer (refusal req .programmeRule) := by simp [decideRefund, ha, hm, hc]

theorem decideRefund_overLimit (ha : r.state = .active) (hm : maskAllows s w req.merchant = true)
    (hc : ¬(req.merchant ≠ 0 ∧ (s.tariff (s.admission req.merchant).cls).cap < req.amount))
    (ho : w.maxBalance < r.paid + r.bonus + req.amount) : decideRefund s w req r = .answer (refusal req .overLimit) := by
  simp only [decideRefund, ha, hm, if_neg hc, if_pos ho]
  simp

theorem decideCashOut_notCashable (hst : r.state = .active ∨ r.state = .blocked) (hc : w.cashable = false) :
    decideCashOut s w req r = .answer (refusal req .programmeRule) := by
  rw [decideCashOut, if_neg (not_and_or.mpr (hst.imp not_not.mpr not_not.mpr)), if_pos hc]

theorem decideCashOut_holds (hst : r.state = .active ∨ r.state = .blocked) (hc : w.cashable = true)
    (hh : s.chain req.card req.slot ≠ []) :
    decideCashOut s w req r = .answer (refusal req .holdsPresent (fig 1 (s.chain req.card req.slot).length)) := by
  simp only [decideCashOut, if_neg (not_and_or.mpr (hst.imp not_not.mpr not_not.mpr)), hc, Bool.true_eq_false, if_false,
    if_pos hh]

end Tests

/-! ### HOLD, REDEEM and RELEASE -/

section Holds
variable {s : State} {w : Window} {req : CardReq} {r : CardRec}

/-- A merchant that trades, or none (R30). -/
def Trades (s : State) (merchant : Nat) : Prop := merchant = 0 ∨ (s.admission merchant).state = .active

theorem decideHold_merchant (ha : r.state = .active) (hm : maskAllows s w req.merchant = true) (ht : ¬Trades s req.merchant) :
    decideHold s w req r = .answer (refusal req .merchantState) := by
  obtain ⟨h0, hst⟩ := not_or.mp ht
  simp [decideHold, ha, hm, h0, hst]

section
variable (ha : r.state = .active) (hm : maskAllows s w req.merchant = true) (ht : Trades s req.merchant)
include ha hm ht

theorem decideHold_limit (hc : 4 ≤ (s.chain req.card req.slot).length) :
    decideHold s w req r = .answer (refusal req .holdLimit) := by
  have ht' : ¬(req.merchant ≠ 0 ∧ (s.admission req.merchant).state ≠ .active) := fun ⟨h0, hst⟩ => ht.elim h0 hst
  simp only [decideHold, ha, hm, if_neg ht', Config.holdsPerCard, if_pos hc]
  simp

theorem decideHold_tableFull (hc : (s.chain req.card req.slot).length < 4) (hf : 512 ≤ s.ht.holds.length) :
    decideHold s w req r = .answer (refusal req .holdTableFull) := by
  have ht' : ¬(req.merchant ≠ 0 ∧ (s.admission req.merchant).state ≠ .active) := fun ⟨h0, hst⟩ => ht.elim h0 hst
  simp only [decideHold, ha, hm, if_neg ht', Config.holdsPerCard, if_neg (Nat.not_le.mpr hc), Config.holdEntries, if_pos hf]
  simp

/-- A HOLD that passes R30's checks is decided by its amount (R31). -/
theorem decideHold_amount (hc : (s.chain req.card req.slot).length < 4) (hf : s.ht.holds.length < 512) :
    decideHold s w req r =
      if req.amount ≤ (availOf s req r).1 + (availOf s req r).2 then
        .enter { held := req.amount, paid := (splitPurses w.order req.amount (availOf s req r).1 (availOf s req r).2).1
                 bonus := (splitPurses w.order req.amount (availOf s req r).1 (availOf s req r).2).2
                 available := (availOf s req r).1 + (availOf s req r).2 }
      else if req.partialFlag = true ∧ 0 < (availOf s req r).1 + (availOf s req r).2 then
        .enter { held := (availOf s req r).1 + (availOf s req r).2, paid := (availOf s req r).1, bonus := (availOf s req r).2
                 available := (availOf s req r).1 + (availOf s req r).2 }
      else .answer (refusal req .insufficient (fig 3 ((availOf s req r).1 + (availOf s req r).2))) := by
  have ht' : ¬(req.merchant ≠ 0 ∧ (s.admission req.merchant).state ≠ .active) := fun ⟨h0, hst⟩ => ht.elim h0 hst
  simp only [decideHold, ha, hm, if_neg ht', Config.holdsPerCard, if_neg (Nat.not_le.mpr hc), Config.holdEntries,
    if_neg (Nat.not_le.mpr hf)]
  simp

end

theorem decideRedeem_insufficient (ha : r.state = .active) (hm : maskAllows s w req.merchant = true)
    (hv : (availOf s req r).1 + (availOf s req r).2 < req.amount)
    (hp : req.partialFlag = false ∨ (availOf s req r).1 + (availOf s req r).2 = 0) :
    decideRedeem s w req r = .answer (refusal req .insufficient (fig 3 ((availOf s req r).1 + (availOf s req r).2))) := by
  simp only [decideRedeem, ha, hm, if_neg (Nat.not_le.mpr hv), if_neg (notPartial hp)]
  simp

/-- The holds left on a card after one is removed (R27, R32). -/
theorem chain_removeHold (card slot epoch serial : Nat) : (removeHold card slot epoch serial s).chain card slot
    = (s.chain card slot).filter fun h => !h.named epoch serial := by
  simp only [State.chain, removeHold, State.setHolds, List.filter_filter]
  refine List.filter_congr fun h _ => ?_
  cases h.on card slot <;> simp

/-- The figures of a RELEASE, the card number first, with the value that is available without the hold (R32). -/
theorem releaseReply_eq (h : Hold) : releaseReply (removeHold req.card req.slot req.epoch req.serial s) req r h
    = plainReply req.kind.code .ok 0 (fig 4 req.card ++ (fig 3 h.requested ++ (fig 3 h.held ++ (fig 3 h.paid ++ (fig 3 h.bonus
      ++ (originBytes h.origin
      ++ fig 3 ((r.paid - heldPaid ((s.chain req.card req.slot).filter fun x => !x.named req.epoch req.serial))
        + (r.bonus - heldBonus ((s.chain req.card req.slot).filter fun x => !x.named req.epoch req.serial))))))))) := by
  simp only [releaseReply, plainReply, State.available, State.availPaid, State.availBonus, chain_removeHold, List.append_assoc]

theorem releaseHold_found {k : Nat} {h : Hold} (hf : s.findHold req.card req.slot req.epoch req.serial = some h)
    (hm : h.merchant = req.merchant) (ha : h.state = .active) : releaseHold k req r s
      = answerOwner k req (releaseReply (removeHold req.card req.slot req.epoch req.serial s) req r h)
          (removeHold req.card req.slot req.epoch req.serial s) := by
  simp only [releaseHold, hf, hm, ha, and_self, if_true]

theorem releaseHold_gone {k : Nat} (h : ∀ h, s.findHold req.card req.slot req.epoch req.serial = some h →
    h.merchant ≠ req.merchant ∨ h.state ≠ .active) : releaseHold k req r s = answerOwner k req (refusal req .holdGone) s := by
  rw [releaseHold]
  cases hf : s.findHold req.card req.slot req.epoch req.serial with
  | none => rfl
  | some x => exact if_neg (not_and_or.mpr (h x hf))

end Holds

/-- Settles O48: what the read finds, and then each kind's decision by the lemma of its refusal. -/
theorem cardReadAnswers : Obligations.CardReadAnswers := by
  intro k slot l s hs h1 h2 hl req w read chain answers goesOn allowed
  have hexec := exec_cardReadDone hs h1 h2
  refine ⟨fun hr => hexec.trans (portNext_congr (cardRead_unreadable hl hr)), fun r hr =>
    ⟨fun hb hn => hexec.trans (portNext_congr (cardRead_wrongSlot hl hr hb hn)), fun hc => ?_⟩⟩
  have hdec : exec .cardReadDone s = .next (portNext 2 (decideCard k req r s)) :=
    hexec.trans (portNext_congr (cardRead_decides hl hr hc))
  have refuses : ∀ {st extra}, decideCard k req r s = carryOut k req r (.answer (refusal req st extra)) s → answers st extra s :=
    fun h => hdec.trans (portNext_congr h)
  have mask : allowed → maskAllows s w req.merchant = true := maskAllows_iff.mpr
  have goes : ∀ {d : Deciding}, decideCard k req r s = setDoing k d s → goesOn d :=
    fun h => hdec.trans (portNext_congr (h.trans (setDoing_locked hl)))
  intro free
  refine ⟨fun hk => ?_, fun hk => ?_, fun hst => refuses (decideCard_cardState ?_), fun hk ha => goes ?_,
    fun hk ha hm hc hf => ?_, fun hk ha hm => ?_,
    fun hst hm => refuses (decideCard_mask hst (maskAllows_eq_false hm)), fun hk hb hm ho => refuses ?_,
    fun hk ha => ⟨fun hr => refuses ?_, fun hr hm ho => refuses ?_⟩, fun hk ha hm hv hp => refuses ?_,
    fun hk hst => ?_, fun hk ha hm => ?_, fun hk hst => ⟨fun hc => refuses ?_, fun hc hh => refuses ?_⟩⟩
  · refine hdec.trans (portNext_congr ?_)
    rw [decideCard_balance hk, balanceReply_eq]; rfl
  · intro named
    refine ⟨fun h hf hm ha => ?_, fun hno => refuses ?_⟩
    · refine hdec.trans (portNext_congr ?_)
      rw [decideCard_release hk, releaseHold_found hf hm ha, releaseReply_eq]; rfl
    · rw [decideCard_release hk, releaseHold_gone hno]; rfl
  · rcases hst with ⟨hk, hst⟩ | ⟨hst, hk⟩ | ⟨h1, h2, hk⟩ | ⟨hst, hk⟩
    · rw [hk]; exact hst
    · rcases hk with hk | hk | hk | hk | hk | hk <;> (rw [hk]; exact hst)
    · rcases hk with hk | hk <;> (rw [hk]; exact not_or.mpr ⟨h1, h2⟩)
    · rw [hk]; exact hst
  · rw [decideCard_capture hk, decideCapture_claims ha]; rfl
  · have hd := decideHold_amount (w := w) ha (mask (hm.imp_right And.left)) (hm.imp_right And.right) hc hf
    rw [show availOf s req r = free from rfl] at hd
    refine ⟨fun hv => goes ?_, fun hv hp h0 => goes ?_, fun hv hp => refuses ?_⟩
    · rw [decideCard_hold hk, hd, if_pos hv]; rfl
    · rw [decideCard_hold hk, hd, if_neg (Nat.not_le.mpr hv), if_pos ⟨hp, h0⟩]; rfl
    · rw [decideCard_hold hk, hd, if_neg (Nat.not_le.mpr hv), if_neg (notPartial hp)]
  · intro trades
    refine ⟨fun ht => refuses ?_, fun ht hc => refuses ?_, fun ht hc hf => refuses ?_⟩
    · rw [decideCard_hold hk, decideHold_merchant ha (mask hm) ht]
    · rw [decideCard_hold hk, decideHold_limit ha (mask hm) ht hc]
    · rw [decideCard_hold hk, decideHold_tableFull ha (mask hm) ht hc hf]
  · rw [decideCard_activate hk, decideActivate_overLimit hb (mask hm) ho]
  · rw [decideCard_load hk, decideLoad_notReloadable ha hr]
  · rw [decideCard_load hk, decideLoad_overLimit ha hr (mask hm) ho]
  · rw [decideCard_redeem hk, decideRedeem_insufficient ha (mask hm) hv hp]; rfl
  · intro found
    refine ⟨fun hno => refuses ?_, fun e he hc hm hv ho => refuses ?_⟩
    · rw [decideCard_void hk, decideVoid_tooLate hst (voidTarget_eq_none hno)]
    · rw [decideCard_void hk, decideVoid_overLimit hst (voidTarget_eq_some he hc hm hv) ho]
  · intro capped
    refine ⟨fun hc => refuses ?_, fun hc ho => refuses ?_⟩
    · rw [decideCard_refund hk, decideRefund_capped ha (mask hm) hc]
    · rw [decideCard_refund hk, decideRefund_overLimit ha (mask hm) hc ho]
  · rw [decideCard_cashOut hk, decideCashOut_notCashable hst hc]
  · rw [decideCard_cashOut hk, decideCashOut_holds hst hc hh]; rfl

end Sys2Proof.Machine
end

section
/-! Appends and the completion of a movement (O49, O50). -/

namespace Sys2Proof.Machine
open Sys2Proof Sys2Proof.Safety

/-! ### The issue of an append (R116) -/

section Issue
variable {s : State} {item : AppendItem} {rest : List AppendItem}

theorem issueDue_notDue (h : mayAppend s = false) : issueDue s = s := by rw [issueDue, h]; rfl

theorem queueAppend_due (h : mayAppend s = true) :
    queueAppend s = { s with jc := { s.jc with appendIssued := true, waiting := s.jc.waiting ++ [PortOp.append] } } := if_pos h

/-- At a busy port the access that is due joins the waiting ones (R112, R116). -/
theorem issueDue_busy {op : PortOp} (h : mayAppend s = true) (hs : s.jc.serving = some op) :
    issueDue s = issue .append { s with jc := { s.jc with appendIssued := true } } := by
  simp only [issueDue, h, if_true, hs, queueAppend_due, issue]

/-- The tests of an append do not look at the port (R117). -/
theorem appendTest_atPort (item : AppendItem) (queue : List AppendItem) (issued : Bool) (serving : Option PortOp)
    (waiting : List PortOp) (s : State) : appendTest { s with jc := { s.jc with
      appendQueue := queue, appendIssued := issued, serving := serving, waiting := waiting } } item = appendTest s item := by
  cases item <;> rfl

/-- An idle port serves the access that is due at once, with the body of the queue's head (R116, R117). -/
theorem issueDue_idle (h : mayAppend s = true) (hs : s.jc.serving = none) (hw : s.jc.waiting = [])
    (hq : s.jc.appendQueue = item :: rest) (ht : appendTest s item = none) :
    issueDue s = { s with jc := { s.jc with
      appendIssued := true, serving := some (.appendWrite (itemBody item s.jc.next s.jc.appendPeriod)) } } := by
  have hpick : pickNext [PortOp.append] = some (.append, []) := rfl
  simp only [issueDue, h, if_true, hs, portNext, portLoop, queueAppend_due, hw, List.nil_append, hpick, hq, appendTest_atPort, ht]

end Issue

/-! ### The body of an append (R43, R114) -/

theorem movement_ref (m : Movement) : m.ref = if m.kind = .capture ∨ m.kind = .lateCapture then m.req.epoch + 256 * m.req.serial
    else if m.kind = .void then m.req.voided else 0 := by
  unfold Movement.ref
  cases m.kind <;> rfl

/-! ### The completion of an append (R117, R124) -/

/-- The accrual queue with a record joined to it (R81). -/
def joinQueue (queue : List JBody) (b : JBody) (s : State) : State := { s with mau := { s.mau with queue := queue ++ [b] } }

theorem joinQueue_congr {queue : List JBody} {b : JBody} {t u : State} (h : t = u) :
    joinQueue queue b t = { u with mau := { u.mau with queue := queue ++ [b] } } := by rw [h]; rfl

section Written
variable {b : JBody} {item : AppendItem} {rest : List AppendItem} {s : State}

/-- JOURNAL-HIGH after the untaken count has risen (R124). -/
theorem noteUntaken_eq (s : State) : noteUntaken s = { s with hlp :=
    if s.jc.untaken = 3072 then
      { s.hlp with notices := { s.hlp.notices with journalHigh := some 3072 }
                   attnLow := s.hlp.attnLow || decide (s.jc.phase ≠ .startup) }
    else if s.hlp.notices.journalHigh ≠ none then
      { s.hlp with notices := { s.hlp.notices with journalHigh := some s.jc.untaken } }
    else s.hlp } := by
  unfold noteUntaken
  by_cases h : s.jc.untaken = 3072
  · simp only [Config.journalHigh, h, if_true]; rfl
  · cases hj : s.hlp.notices.journalHigh with
    | none => simp only [Config.journalHigh, if_neg h]; simp
    | some n => simp only [Config.journalHigh, if_neg h]; simp

/-- The part after a verified append, with the memory it left (R117, R124). -/
def appended (rest : List AppendItem) (mem : List Host.Cell) (s : State) : State := { s with
  mem := mem
  jc := { s.jc with next := s.jc.next + 1, untaken := s.jc.untaken + 1, pendingCount := s.jc.pendingCount + 1,
                    appendQueue := rest, appendIssued := false }
  hlp := if s.jc.untaken + 1 = 3072 then
      { s.hlp with notices := { s.hlp.notices with journalHigh := some 3072 }
                   attnLow := s.hlp.attnLow || decide (s.jc.phase ≠ .startup) }
    else if s.hlp.notices.journalHigh ≠ none then
      { s.hlp with notices := { s.hlp.notices with journalHigh := some (s.jc.untaken + 1) } }
    else s.hlp }

theorem countAppend_eq (rest : List AppendItem) (mem : List Host.Cell) (s : State) :
    countAppend rest { s with mem := mem } = appended rest mem s := by
  rw [countAppend, noteUntaken_eq]; rfl

theorem appended_admission (rest : List AppendItem) (mem : List Host.Cell) (s : State) (m : Nat) :
    (appended rest mem s).admission m = s.admission m := rfl
theorem appended_queue (rest : List AppendItem) (mem : List Host.Cell) (s : State) :
    (appended rest mem s).mau.queue = s.mau.queue := rfl

theorem appendWrite_write (b : JBody) : (PortOp.appendWrite b).write?
    = some (73728 + (b.number - 1) % 4096 * 64, b.bytes ++ List.replicate 10 0, fun bs => recordOk (bs.take 54)) := rfl

theorem exec_appendWriteDone (hs : s.jc.serving = some (.appendWrite b)) :
    exec .appendWriteDone s = .next (portNext 2 (appendWritten b s)) := by rw [exec, execAppendWriteDone, hs]; rfl

/-- A verified append counts its record and goes on (R117). -/
theorem appendWritten_normal (hq : s.jc.appendQueue = item :: rest) (hst : s.jc.store = .normal) :
    appendWritten b s = afterAppend item b (appended rest
      (Memory.writeMany s.mem (73728 + (b.number - 1) % 4096 * 64) (b.bytes ++ List.replicate 10 0)) s) := by
  simp only [appendWritten, storeOp_eq (appendWrite_write b), hq, hst, countAppend_eq]

/-- A merchant state request changes the admission table, is answered and joins the accrual queue (R75, R81). -/
theorem afterAppend_admin {tag m : Nat} {k : AdminKind} {u : State} {a : Admission} {queue : List JBody}
    (ha : u.admission m = a) (hq : u.mau.queue = queue) : afterAppend (.admin tag k m) b u
      = joinQueue queue b (sendLink tag (plainReply k.code .ok 0 (fig 1 m ++ fig 1 a.state.code ++ fig 1 k.to.code ++ fig 6 b.number
          ++ fig 4 b.period)) (u.setAdmission m { a with state := k.to })) := by
  subst ha hq; rfl

/-- A CUTOFF raises the append period, is answered and joins the accrual queue (R81, R92). -/
theorem afterAppend_cutoff {tag : Nat} {u : State} {queue : List JBody} (hq : u.mau.queue = queue) :
    afterAppend (.cutoff tag) b u = joinQueue queue b (sendLink tag (plainReply 0x13 .ok 0 (fig 6 b.number ++ fig 4 b.period))
      { u with jc := { u.jc with appendPeriod := b.period + 1 } }) := by
  subst hq; rfl

end Written

/-- Settles O49: the issue, the bodies by kind of record, and the three ways on after the append. -/
theorem appendsAreMade : Obligations.AppendsAreMade := by
  refine ⟨?_, ?_, ?_⟩
  · intro s issued
    have hexec : exec .appendIssue s = .next (issueDue s) := rfl
    refine ⟨fun hq hi hp hs => ?_, fun hno => ?_⟩
    · have hdue : mayAppend s = true := mayAppend_iff.mpr ⟨hq, hi, hp, hs⟩
      refine ⟨fun op hop => ?_, fun item rest hidle hw hqueue ht => ?_⟩
      · rw [hexec, issueDue_busy hdue hop]
      · rw [hexec, issueDue_idle hdue hidle hw hqueue ht]
    · have hdue : mayAppend s = false := Bool.eq_false_iff.mpr fun h => by
        obtain ⟨hq, hi, hp, hs⟩ := mayAppend_iff.mp h
        rcases hno with h | h | h | h
        · exact hq h
        · exact Bool.false_ne_true (hi.symm.trans h)
        · omega
        · cases hs.symm.trans h
      rw [hexec, issueDue_notDue hdue]
  · intro k m tag merchant j p body plain
    have hbody : movementBody m j p = body := by rw [movementBody, movement_ref]; rfl
    exact ⟨hbody, hbody, rfl, rfl, rfl, rfl⟩
  · intro b item rest s hs hq hst u queued
    have hexec := (exec_appendWriteDone hs).trans (portNext_congr (appendWritten_normal hq hst))
    cases item with
    | movement k m => exact hexec
    | admin tag k m =>
      rw [afterAppend_admin (appended_admission ..) (appended_queue ..)] at hexec
      exact hexec.trans (portNext_congr (joinQueue_congr (by cases k <;> rfl)))
    | cutoff tag =>
      rw [afterAppend_cutoff (appended_queue ..)] at hexec
      exact hexec.trans (portNext_congr (joinQueue_congr rfl))

/-! ### The completion of a movement (R47) -/

section Movement
variable {k j p : Nat} {m : Movement} {s : State}

/-- The holds that stay when a movement completes (R39, R40). -/
def heldAfter (m : Movement) (hs : List Hold) : List Hold := hs.filter fun x =>
  if m.kind = .capture then !(x.on m.req.card m.req.slot && x.named m.req.epoch m.req.serial)
  else if m.kind = .cardState ∧ m.req.kind = .block then !x.on m.req.card m.req.slot else true

theorem completeHolds_eq (m : Movement) (s : State) : completeHolds m s = s.setHolds (heldAfter m s.ht.holds) := by
  have hall : ∀ hs : List Hold, hs.filter (fun _ => true) = hs := fun hs => List.filter_eq_self.mpr fun _ _ => rfl
  unfold completeHolds heldAfter
  cases hk : m.kind with
  | capture => rfl
  | cardState => cases m.req.kind <;> simp [hall, State.setHolds, clearChain]
  | activate | load | redeem | lateCapture | void | refund | cashOut | merchantState | periodEnd => simp [hall, State.setHolds]

/-- The sweep's adjustment (R138). -/
theorem sweepAdjust_eq (slot : Nat) (paid bonus : Int) (s : State) : sweepAdjust slot paid bonus s = { s with asu :=
    if s.asu.state = .running ∧ slot ≤ s.asu.cursor then
      { s.asu with paid := s.asu.paid + paid, bonus := s.asu.bonus + bonus } else s.asu } := by
  unfold sweepAdjust; split <;> rfl

/-- The capture ring after a movement (R59, R63). -/
def ringAfter (m : Movement) (j p : Nat) (ring : List RingEntry) : List RingEntry :=
  match m.kind with
  | .capture | .redeem | .lateCapture => ringAdd (ringEntryOf m j p) ring
  | .void => ring.map fun e => if e.journal = m.req.voided then { e with voided := true } else e
  | _ => ring

theorem completeRing_eq (m : Movement) (j p : Nat) (s : State) :
    completeRing m j p s = { s with ce := { s.ce with ring := ringAfter m j p s.ce.ring } } := by
  unfold completeRing ringAfter; cases m.kind <;> rfl

/-- The state a movement's completion leaves before its reply (R47, R138). -/
def movementDone (m : Movement) (j p : Nat) (s : State) : State := { s with
  ht := { s.ht with holds := heldAfter m s.ht.holds }
  ce := { s.ce with ring := ringAfter m j p s.ce.ring }
  asu := if s.asu.state = .running ∧ m.req.slot ≤ s.asu.cursor then
    { s.asu with paid := s.asu.paid + m.paidDelta, bonus := s.asu.bonus + m.bonusDelta } else s.asu }

section Done
variable {mem : List Host.Cell}

theorem movementDone_mem : (movementDone m j p { s with mem := mem }).mem = mem := rfl

theorem movementDone_kept : let u := movementDone m j p { s with mem := mem }
    (u.hlp, u.lines, u.windows, u.jc, u.mau, u.pcu, u.pending) = (s.hlp, s.lines, s.windows, s.jc, s.mau, s.pcu, s.pending) := rfl

theorem movementDone_queue : (movementDone m j p { s with mem := mem }).mau.queue = s.mau.queue := rfl

theorem movementDone_ht : (movementDone m j p { s with mem := mem }).ht = { s.ht with holds := heldAfter m s.ht.holds } := rfl

theorem movementDone_ce :
    (movementDone m j p { s with mem := mem }).ce = { s.ce with ring := ringAfter m j p s.ce.ring } := rfl

theorem movementDone_asu_counts (h : s.asu.state = .running ∧ m.req.slot ≤ s.asu.cursor) :
    (movementDone m j p { s with mem := mem }).asu
      = { s.asu with paid := s.asu.paid + m.paidDelta, bonus := s.asu.bonus + m.bonusDelta } := if_pos h

theorem movementDone_asu_kept (h : ¬(s.asu.state = .running ∧ m.req.slot ≤ s.asu.cursor)) :
    (movementDone m j p { s with mem := mem }).asu = s.asu := if_neg h

theorem movementDone_chain : (movementDone m j p { s with mem := mem }).chain m.req.card m.req.slot
    = (heldAfter m s.ht.holds).filter fun x => x.on m.req.card m.req.slot := rfl

end Done

theorem finishMovement_eq (k : Nat) (m : Movement) (j p : Nat) (mem : List Host.Cell) (s : State) :
    finishMovement k m j p { s with mem := mem } = joinAccrual (movementBody m j p) (answerOwner k m.req
      (movementReply (movementDone m j p { s with mem := mem }) m j p (s.chain m.req.card m.req.slot).length)
      (movementDone m j p { s with mem := mem })) := by
  simp only [finishMovement, completeRing_eq, completeHolds_eq, sweepAdjust_eq]; rfl

/-- The completed movement joins the accrual queue as it stood (R47 part 5). -/
theorem joinAccrual_answered {k : Nat} {b : JBody} {req : CardReq} {r r' : Reply} {queue : List JBody} {u : State} (hr : r = r')
    (hq : u.mau.queue = queue) : joinAccrual b (answerOwner k req r u)
      = { answerOwner k req r' u with mau := { (answerOwner k req r' u).mau with queue := queue ++ [b] } } := by
  rw [hr, joinAccrual, answerOwner_mau, hq]

/-- The figures of a movement's reply (R47). -/
theorem movementReply_eq (s : State) (m : Movement) (j p removed : Nat) : movementReply s m j p removed
    = { kind := m.req.kind.code, status := if m.kind = .redeem ∧ m.amount < m.req.amount then .partialOk else .ok
        late := decide (m.kind = .lateCapture), clamped := m.clamped, journal := j
        figures := fig 4 m.req.card ++ fig 6 j ++ fig 4 p ++ fig 3 m.amount ++ sfig 4 m.paidDelta ++ sfig 4 m.bonusDelta
          ++ fig 3 m.paid ++ fig 3 m.bonus ++ fig 3 ((m.paid - ((s.chain m.req.card m.req.slot).map Hold.paid).sum)
            + (m.bonus - ((s.chain m.req.card m.req.slot).map Hold.bonus).sum)) ++ movementExtras m removed } := rfl

theorem cardWrite_write (k : Nat) (m : Movement) (j p : Nat) : (PortOp.cardWrite k m j p).write?
    = some (335872 + (m.req.slot - 1) * 32, (cardWriteRec m j p).bytes, recordOk) := rfl

theorem exec_cardWriteDone (hs : s.jc.serving = some (.cardWrite k m j p)) : exec .cardWriteDone s
    = .next (portNext 2 (finishMovement k m j p { s with
        mem := Memory.writeMany s.mem (335872 + (m.req.slot - 1) * 32) (cardWriteRec m j p).bytes })) := by
  rw [exec, execCardWriteDone, hs]
  simp only [complete, cardWritten, storeOp_eq (cardWrite_write k m j p)]

/-- The ring takes an entry of a capture kind (R59). -/
theorem ringAfter_capture {ring : List RingEntry} (h : m.kind = .capture ∨ m.kind = .redeem ∨ m.kind = .lateCapture) :
    ringAfter m j p ring = ringAdd (ringEntryOf m j p) ring := by
  rcases h with h | h | h <;> simp only [ringAfter, h]

/-- A VOID marks its capture's entry (R63). -/
theorem ringAfter_void {ring : List RingEntry} (h : m.kind = .void) : ringAfter m j p ring
    = ring.map fun e => if e.journal = m.req.voided then { e with voided := true } else e := by simp only [ringAfter, h]

theorem ringAfter_other {ring : List RingEntry} (h : ¬(m.kind = .capture ∨ m.kind = .redeem ∨ m.kind = .lateCapture))
    (hv : m.kind ≠ .void) : ringAfter m j p ring = ring := by
  unfold ringAfter
  cases hk : m.kind with
  | capture | redeem | lateCapture => simp [hk] at h
  | void => exact absurd hk hv
  | activate | load | refund | cashOut | cardState | merchantState | periodEnd => rfl

end Movement

/-- Settles O50: the state before the reply is `movementDone`, and the reply is R47's. -/
theorem cardWriteCompletesMovement : Obligations.CardWriteCompletesMovement := by
  intro k m j p s hs req on kept entry capture stored
  have hreply := movementReply_eq (movementDone m j p { s with
    mem := Memory.writeMany s.mem (335872 + (req.slot - 1) * 32) stored.bytes }) m j p (s.chain m.req.card m.req.slot).length
  rw [movementDone_chain] at hreply
  refine ⟨movementDone m j p { s with mem := Memory.writeMany s.mem (335872 + (req.slot - 1) * 32) stored.bytes },
    movementExtras m (s.chain m.req.card m.req.slot).length, movementDone_mem, movementDone_ht, fun hc => ?_, fun hv => ?_,
    fun hc hv => ?_, movementDone_asu_counts, movementDone_asu_kept, movementDone_kept, ?_, ?_, ?_, ?_, ?_, ?_, ?_, ?_⟩
  · rw [movementDone_ce, ringAfter_capture hc]; rfl
  · rw [movementDone_ce, ringAfter_void hv]
  · rw [movementDone_ce, ringAfter_other hc hv]
  · rintro (h | h) <;> simp only [movementExtras, h]
  · intro h; simp only [movementExtras, h]; rfl
  · intro h; simp only [movementExtras, h]; rfl
  · intro h; simp only [movementExtras, h]
  · intro h; simp only [movementExtras, h]; rfl
  · intro h; simp only [movementExtras, h]
  · rintro (h | h) <;> simp only [movementExtras, h]
  · refine (exec_cardWriteDone hs).trans (portNext_congr ?_)
    exact (finishMovement_eq ..).trans (joinAccrual_answered hreply movementDone_queue)

end Sys2Proof.Machine
end

section
/-! The reads of start-up (O57), and what a store FAULT and the port's next access leave of the notices. -/

namespace Sys2Proof.Machine
open Sys2Proof Sys2Proof.Safety

/-! ### Notices that a refusal does not touch (R152, R162) -/

/-- STORE-FAULT and STARTED stand as they did, and ATTN_N has not gone up. -/
def NoticesKept (s t : State) : Prop := t.hlp.notices.storeFault = s.hlp.notices.storeFault
  ∧ t.hlp.notices.started = s.hlp.notices.started ∧ (s.hlp.attnLow = true → t.hlp.attnLow = true)

section Kept
variable {s t u : State}

theorem NoticesKept.trans (h : NoticesKept s t) (h' : NoticesKept t u) : NoticesKept s u :=
  ⟨h'.1.trans h.1, h'.2.1.trans h.2.1, h'.2.2 ∘ h.2.2⟩

theorem NoticesKept.of_hlp (hn : t.hlp.notices = s.hlp.notices) (ha : t.hlp.attnLow = s.hlp.attnLow) : NoticesKept s t := by
  rw [NoticesKept, hn, ha]
  exact ⟨rfl, rfl, id⟩

theorem NoticesKept.refl (s : State) : NoticesKept s s := .of_hlp (rfl) (rfl)

theorem NoticesKept.ofJc (s : State) (jc : Jc) : NoticesKept s { s with jc := jc } := .of_hlp rfl rfl

/-- A raising of another notice. -/
theorem noticesKept_raise {f : Notices → Notices} (hs : ∀ n, (f n).storeFault = n.storeFault) (hst : ∀ n, (f n).started = n.started) :
    NoticesKept s (raise f s) :=
  ⟨hs _, hst _, fun h => by simp [h]⟩

theorem noticesKept_sendReply (o : Origin) (r : Reply) (s : State) : NoticesKept s (sendReply o r s) := by
  cases o with
  | link tag => exact .of_hlp (by simp [sendReply]) (by simp [sendReply])
  | station n e =>
    simp only [sendReply, sendStation]
    split
    · exact noticesKept_raise (s := s.setStation n e _) (fun _ => rfl) fun _ => rfl
    · exact noticesKept_raise (s := s.setStation n e _) (fun _ => rfl) fun _ => rfl
    · exact .of_hlp (rfl) (rfl)

theorem noticesKept_answerOwner (k : Nat) (req : CardReq) (r : Reply) (s : State) : NoticesKept s (answerOwner k req r s) :=
  (noticesKept_sendReply req.origin r s).trans (.of_hlp (by simp [answerOwner]) (by simp [answerOwner]))

theorem noticesKept_refuseItem (i : AppendItem) (st : Status) (reason : Nat) (extra : List Byte) (journal : Nat) (s : State) :
    NoticesKept s (refuseItem i st reason extra journal s) := by
  cases i with
  | movement k m =>
    refine NoticesKept.trans ?_ (noticesKept_answerOwner k m.req _ (returnClaim m s))
    exact .of_hlp (by simp) (by simp)
  | admin tag k m => exact .of_hlp (by simp [refuseItem]) (by simp [refuseItem])
  | cutoff tag => exact .of_hlp (by simp [refuseItem]) (by simp [refuseItem])

theorem noticesKept_foldl {α : Type} {f : State → α → State} (h : ∀ s a, NoticesKept s (f s a)) (l : List α) (s : State) :
    NoticesKept s (l.foldl f s) := by
  induction l generalizing s with
  | nil => exact .refl s
  | cons a l ih => exact (h s a).trans (ih _)

theorem noticesKept_abortSweep (s : State) : NoticesKept s (abortSweep s) := by
  unfold abortSweep
  split
  · exact .refl s
  · exact noticesKept_raise (s := { s with asu := _ }) (fun _ => rfl) fun _ => rfl

theorem noticesKept_refuseUnissued (s : State) : NoticesKept s (refuseUnissued s) :=
  .trans (.of_hlp rfl rfl) (noticesKept_foldl (fun s i => noticesKept_refuseItem i .storeFault 0 [] 0 s) _ _)

/-- The port's next access refuses appends, and touches no other notice (R117). -/
theorem noticesKept_portLoop (fuel : Nat) (s : State) : NoticesKept s (portLoop fuel s) := by
  induction fuel generalizing s with
  | zero => exact .ofJc s _
  | succ fuel ih =>
    have hq : NoticesKept s (queueAppend s) := .of_hlp (by simp) (by simp)
    refine hq.trans ?_
    simp only [portLoop]
    split
    · exact .ofJc _ _
    · split
      · split
        · exact .trans (.ofJc (queueAppend s) _) (ih _)
        · split
          · exact .ofJc _ _
          · refine .trans ?_ (ih _)
            exact .trans (.ofJc (queueAppend s) _) (noticesKept_refuseItem _ _ _ _ _ _)
      · exact .ofJc _ _

theorem noticesKept_portNext (n : Nat) (s : State) : NoticesKept s (portNext n s) := noticesKept_portLoop _ s

end Kept

/-! ### Store FAULT (R125, R126) -/

section Fault
variable (region : Region) (j : Nat) (s : State)

theorem enterFault_again (h : s.jc.store = .fault) : enterFault region j s = raiseStoreFault region j s := by
  simp only [enterFault, raiseStoreFault, raise_jc, h]

theorem enterFault_first (h : s.jc.store = .normal) : enterFault region j s = dropDue (refuseUnissued (abortSweep
    { raiseStoreFault region j s with jc := { s.jc with store := .fault } })) := by
  simp only [enterFault, raiseStoreFault, raise_jc, h]

theorem enterFault_store : (enterFault region j s).jc.store = .fault := by
  cases h : s.jc.store with
  | fault => rw [enterFault_again _ _ _ h, ← h]; rfl
  | normal => simp [enterFault_first _ _ _ h]

/-- The notice names the region and the number (R125, R162). -/
theorem enterFault_storeFault :
    (enterFault region j s).hlp.notices.storeFault = some { region := region, journal := j } := by
  cases h : s.jc.store with
  | fault => rw [enterFault_again _ _ _ h]; rfl
  | normal =>
    have hkept := (noticesKept_abortSweep { raiseStoreFault region j s with jc := { s.jc with store := .fault } }).trans
      (noticesKept_refuseUnissued _)
    rw [enterFault_first _ _ _ h, dropDue_hlp_notices]
    exact hkept.1

end Fault

/-! ### The end of start-up (R130, R169) -/

/-- The part enters a phase with STARTED raised and ATTN_N low (R163, R169). -/
theorem endStart_eq {phase : Phase} (h : phase ≠ .startup) (epoch recovered : Nat) (s : State) : endStart phase epoch recovered s
    = { s with
        jc := { s.jc with phase := phase, stage := .none }
        hlp := { s.hlp with
          notices := { s.hlp.notices with started := some { cause := s.jc.cause, epoch := epoch, recovered := recovered } }
          attnLow := true } } := by
  simp [endStart, raise, h]

/-! ### The totals record (R127) -/

section Totals
variable {s : State}

theorem exec_startupTotals (hs : s.jc.serving = some .startupTotalsRead) :
    exec .startupTotalsReadDone s = .next (portNext 2 (startupTotals s)) := by rw [exec, execStartupTotalsReadDone, hs]; rfl

theorem startupTotals_unformatted (h : (totalsFields (Memory.readMany s.mem 8192 64)).mark ≠ 0x53433438) :
    startupTotals s = endStart .unformatted 0 0 s := if_pos h

theorem startupTotals_bad (h : (totalsFields (Memory.readMany s.mem 8192 64)).mark = 0x53433438)
    (hr : recordOk (Memory.readMany s.mem 8192 64) = false) :
    startupTotals s = endStart .setup 0 0 (enterFault .totals 0 s) :=
  (if_neg (not_not.mpr h)).trans (if_pos hr)

theorem startupTotals_good (h : (totalsFields (Memory.readMany s.mem 8192 64)).mark = 0x53433438)
    (hr : recordOk (Memory.readMany s.mem 8192 64) = true) : startupTotals s = requestTotals .epoch { s with
      mau := { s.mau with copy := { totalsFields (Memory.readMany s.mem 8192 64) with
        epoch := ((totalsFields (Memory.readMany s.mem 8192 64)).epoch + 1) % 256 } }
      jc := { s.jc with stage := .epoch } } :=
  (if_neg (not_not.mpr h)).trans (if_neg (by rw [show Config.totalsBase = 8192 from rfl, hr]; decide))

/-- The epoch's write is issued at once when no totals write is in progress (R131). -/
theorem requestTotals_epoch (h : s.mau.totalsBusy = none) : requestTotals .epoch s
    = issue (.totalsWrite .epoch s.mau.copy 0) { s with mau := { s.mau with totalsBusy := some .epoch } } := by
  rw [requestTotals, h]; rfl

end Totals

/-! ### The configuration records (R4, R71, R144) -/

section Config
variable {k : Nat} {s : State}

theorem exec_startupConfig (hs : s.jc.serving = some (.configRead k)) :
    exec .startupConfigReadDone s = .next (portNext 2 (startupConfig k s)) := by rw [exec, execStartupConfigReadDone, hs]; rfl

theorem startupConfig_next (h : k < 211) : startupConfig k s
    = issue (.configRead (k + 1)) { loadConfig k s with jc := { (loadConfig k s).jc with stage := .config (k + 1) } } :=
  if_pos (Nat.succ_lt_succ h)

theorem startupConfig_last (h : k = 211) : startupConfig k s = startScan (loadConfig k s) :=
  if_neg (by rw [h]; decide)

theorem loadConfig_good {i : ConfigItem} (h : readItem k (Memory.readMany s.mem (k * 32) 32) = some i) :
    loadConfig k s = loadItem i s := by
  simp only [loadConfig, configAddress, h]

theorem loadConfig_bad (h : readItem k (Memory.readMany s.mem (k * 32) 32) = none) :
    loadConfig k s = raiseStoreFault .config 0 s := by
  simp only [loadConfig, configAddress, h]

/-- The scan begins at the last applied number, or at 1 (R128). -/
theorem startScan_eq {n : Nat} {u : State} (h : max u.mau.copy.lastApplied 1 = n) :
    startScan u = issue (.scanRead n) { u with jc := { u.jc with stage := .scan n [] } } := by subst h; rfl

theorem loadConfig_mau : (loadConfig k s).mau = s.mau := by
  unfold loadConfig
  split
  · next i _ => cases i <;> rfl
  · rfl

end Config

/-! ### The admission table (R78, R88) -/

section Admission
variable {m : Nat} {s : State}

theorem exec_admissionLoad (hs : s.jc.serving = some (.admissionRead m)) :
    exec .admissionLoadReadDone s = .next (portNext 2 (admissionOn m s)) := by rw [exec, execAdmissionLoadReadDone, hs]; rfl

theorem admissionOn_next (h : m < 240) : admissionOn m s
    = issue (.admissionRead (m + 1)) { loadAdmission m s with jc := { (loadAdmission m s).jc with stage := .admission (m + 1) } } :=
  if_pos h

theorem admissionOn_last (h : m = 240) : admissionOn m s = enterSetup (loadAdmission m s) :=
  if_neg (by rw [h]; decide)

theorem merchantAddress_eq (m : Nat) : merchantAddress m = 12288 + (m - 1) * 256 := by
  simp [merchantAddress, Config.merchantsBase]

theorem loadAdmission_good {r : MerchantRec} (h : readMerchant (Memory.readMany s.mem (12288 + (m - 1) * 256) 256) = some r) :
    loadAdmission m s = s.setAdmission m { state := r.state, cls := r.cls, group := r.group } := by
  rw [← merchantAddress_eq] at h
  unfold loadAdmission
  split
  · next r' h' => cases h'.symm.trans h; rfl
  · next h' => cases h'.symm.trans h

theorem loadAdmission_bad (h : readMerchant (Memory.readMany s.mem (12288 + (m - 1) * 256) 256) = none) :
    loadAdmission m s = (enterFault .merchants 0 s).setAdmission m admissionReset := by
  rw [← merchantAddress_eq] at h
  unfold loadAdmission
  split
  · next r' h' => cases h'.symm.trans h
  · rfl

theorem enterSetup_eq (s : State) : enterSetup s = { s with
    jc := { s.jc with appendPeriod := s.mau.copy.accrued, phase := .setup, stage := .none }
    hlp := { s.hlp with
      notices := { s.hlp.notices with
        started := some { cause := s.jc.cause, epoch := s.mau.copy.epoch, recovered := s.jc.recovered } }
      attnLow := true } } := by
  rw [enterSetup, endStart_eq (by decide)]

end Admission

/-- Settles O57: one case for each outcome of the totals read, and the next read or the end of each load. -/
theorem startUpReads : Obligations.StartUpReads := by
  unfold Obligations.StartUpReads
  intro started stage
  refine ⟨?_, ?_, ?_⟩
  · intro s hs bs t up
    have hexec := exec_startupTotals hs
    refine ⟨fun h => ?_, fun h hr hb => ?_, fun h hr => ?_⟩
    · rw [hexec, startupTotals_unformatted h, endStart_eq (by decide)]
    · rw [hexec, startupTotals_good h hr, requestTotals_epoch (by exact hb)]
    · rw [startupTotals_bad h hr, endStart_eq (by decide)] at hexec
      refine ⟨_, hexec, ?_⟩
      obtain ⟨hfault, hstarted, hattn⟩ := noticesKept_portNext 2 { enterFault .totals 0 s with
        jc := { (enterFault .totals 0 s).jc with phase := .setup, stage := .none }
        hlp := { (enterFault .totals 0 s).hlp with
          notices := { (enterFault .totals 0 s).hlp.notices with
            started := some { cause := (enterFault .totals 0 s).jc.cause, epoch := 0, recovered := 0 } }
          attnLow := true } }
      refine ⟨by simp, ?_, by simp, hfault.trans (enterFault_storeFault ..), hstarted.trans ?_, hattn rfl⟩
      · rw [portNext_jc_store]; exact enterFault_store ..
      · simp
  · intro k s hs read goes
    have hexec := exec_startupConfig hs
    have hgoes : ∀ u, loadConfig k s = u → goes u := by
      rintro _ rfl
      refine ⟨fun hk => ?_, fun hk => ?_⟩
      · rw [hexec, startupConfig_next hk]
      · intro n
        rw [hexec, startupConfig_last hk, startScan_eq (n := n) (by rw [loadConfig_mau])]
    exact ⟨fun i hi => hgoes _ (loadConfig_good hi), fun hn => hgoes _ (loadConfig_bad hn)⟩
  · intro m s hs _ read goes
    have hexec := exec_admissionLoad hs
    have hgoes : ∀ u, loadAdmission m s = u → goes u := by
      rintro _ rfl
      refine ⟨fun hm => ?_, fun hm => ?_⟩
      · rw [hexec, admissionOn_next hm]
      · rw [hexec, admissionOn_last hm, enterSetup_eq]
    exact ⟨fun r hr => hgoes _ (loadAdmission_good hr), fun hn => hgoes _ (loadAdmission_bad hn)⟩

end Sys2Proof.Machine
end

section
/-! The end of an offer on a till line (O60): what each outcome makes of the entry, and how the line goes on. -/

namespace Sys2Proof.Machine
open Sys2Proof Sys2Proof.Safety

/-! ### The outcome of an offer -/

/-- The part after an outcome of entry e's offer: the entry, the notices, the locks and the port have changed, nothing else. -/
def concluded (n e : Nat) (y : Station) (h : Hlp) (c : CardEngine) (j : Jc) (s : State) : State :=
  { s.setStation n e y with hlp := h, ce := c, jc := j }

/-- The line goes on with its round after an outcome (R146, R147). -/
def closing (n e : Nat) (u : State) : State := u.setLine n (endOffer e (u.line n))

/-- What the end of an offer leaves of the entries, the lines and the blocks beside the one concerned. -/
def OnlyEntry (n e : Nat) (s t : State) : Prop :=
  (∀ n' e', n' < 4 → e' < 48 → (n', e') ≠ (n, e) → t.station n' e' = s.station n' e')
    ∧ (∀ n', n' < 4 → n' ≠ n → t.line n' = s.line n')
    ∧ (t.mem, t.windows, t.ht, t.mau, t.pcu, t.asu, t.pending) = (s.mem, s.windows, s.ht, s.mau, s.pcu, s.asu, s.pending)

/-- The line after an offer to entry e: IDLE-GAP, with the position moved on, past entry 47 into the next round (R146). -/
theorem endOffer_eq (e : Nat) (l : Line) : endOffer e l = { l with
    state := .idleGap, offered := none, answering := false, dropAnswer := false, de := false, wire := []
    position := if e < 47 then e + 1 else 0, round := if e < 47 then l.round else (l.round + 1) % 65536
    offeredInRound := if e < 47 then l.offeredInRound else false } := by
  by_cases h : e < 47
  · simp only [endOffer, if_pos h, if_pos (show e + 1 < Config.lineEntries from Nat.succ_lt_succ h)]
  · have hlast : ¬e + 1 < Config.lineEntries := fun h' => h (Nat.lt_of_succ_lt_succ h')
    simp only [endOffer, newRound, if_neg h, if_neg hlast]

theorem vset_vset {α : Type} {n i : Nat} (v : Vector α n) (x y : α) : vset (vset v i x) i y = vset v i y :=
  Vector.setIfInBounds_setIfInBounds ..

section Outcome
variable {n e : Nat} {y y' : Station} {h : Hlp} {c : CardEngine} {j : Jc} {s : State}

theorem concluded_station (hn : n < 4) (he : e < 48) : (concluded n e y h c j s).station n e = y :=
  setStation_station_same hn he

/-- A second write of the entry replaces the first. -/
theorem setStation_concluded (hn : n < 4) : (concluded n e y h c j s).setStation n e y' = concluded n e y' h c j s := by
  have hline : (concluded n e y h c j s).line n = { s.line n with stations := vset (s.line n).stations e y } := setLine_line_same hn
  rw [State.setStation, hline, vset_vset]
  simp only [concluded, State.setLine, State.setStation, vset_vset]

theorem concluded_line : ∃ v, (concluded n e y h c j s).line n = { s.line n with stations := v } := setStation_line

theorem closing_line (hn : n < 4) :
    let t := closing n e (concluded n e y h c j s)
    t.line n = { endOffer e (s.line n) with stations := (t.line n).stations } := by
  obtain ⟨v, hv⟩ := concluded_line (n := n) (e := e) (y := y) (h := h) (c := c) (j := j) (s := s)
  intro t
  have ht : t.line n = endOffer e { s.line n with stations := v } := (setLine_line_same hn).trans (congrArg _ hv)
  rw [ht, endOffer_eq, endOffer_eq]

theorem endOffer_stations (l : Line) : (endOffer e l).stations = l.stations := by rw [endOffer_eq]

theorem closing_stations {u : State} {m : Nat} (hn : n < 4) : ((closing n e u).line m).stations = (u.line m).stations := by
  rw [closing, line_setLine hn]
  split
  · next hm => rw [hm, endOffer_stations]
  · rfl

/-- The end of an offer touches no entry. -/
theorem closing_station {u : State} {m f : Nat} (hn : n < 4) : (closing n e u).station m f = u.station m f := by
  rw [State.station, closing_stations hn]; rfl

theorem closing_onlyEntry (hn : n < 4) : OnlyEntry n e s (closing n e (concluded n e y h c j s)) := by
  refine ⟨fun n' e' _ _ hne => ?_, fun n' _ hne => ?_, rfl⟩
  · rw [closing_station hn]
    exact setStation_station_ne fun h => hne h.symm
  · exact (setLine_line_ne fun h => hne h.symm).trans (setLine_line_ne fun h => hne h.symm)

theorem closeOffer_dropped {outcome : State → State} (hd : (s.line n).dropAnswer = true) :
    closeOffer n e outcome s = s.setLine n (endOffer e (s.line n)) := by simp only [closeOffer, hd, if_true]

theorem closeOffer_applied {outcome : State → State} {u : State} (hd : (s.line n).dropAnswer = false) (ho : outcome s = u) :
    closeOffer n e outcome s = closing n e u := by
  simp only [closeOffer, hd, Bool.false_eq_true, if_false, ho]; rfl

end Outcome

/-! ### The events that end an offer (R147) -/

section Events
variable {n : Fin 4} {e : Nat} {frame : List Byte} {s : State} (ha : (s.line n.val).answering = true)
  (ho : (s.line n.val).offered = some e)
include ha ho

theorem awaited_offered : awaited (s.line n.val) = some e := by rw [awaited, if_pos ha, ho]

theorem exec_goodAnswer {a : Answer} (hh : hear (s.station n.val e) frame = .good a) :
    exec (.goodAnswer n frame) s = .next (closeOffer n.val e (applyAnswer n.val e a) s) := by
  simp only [exec, execGoodAnswer, goodAnswer, awaited_offered ha ho, hh]

theorem exec_badAnswer (hh : hear (s.station n.val e) frame = .bad) :
    exec (.badAnswer n frame) s = .next (closeOffer n.val e (applyBad n.val e) s) := by
  simp only [exec, execBadAnswer, badAnswer, awaited_offered ha ho, hh]

theorem exec_answerGapExpiry : exec (.answerGapExpiry n) s = .next (closeOffer n.val e (applyBad n.val e) s) := by
  simp only [exec, execAnswerGapExpiry, awaited_offered ha ho]

theorem exec_answerWindowExpiry : exec (.answerWindowExpiry n) s = .next (closeOffer n.val e (applyMiss n.val e) s) := by
  simp only [exec, execAnswerWindowExpiry, awaited_offered ha ho]

end Events

/-! ### Station health (R148 to R150) -/

section Health
variable {n e : Nat} {s : State}

/-- An entry after a good answer (R148). -/
theorem hearGood_eq (d : Prop) [Decidable d] (x : Station) : hearGood (decide d) x = { x with
    misses := 0, bad := 0, run := satInc 65535 x.run
    state := if x.state = .absent ∨ x.state = .silent then .present else x.state
    held := if d then none else x.held, outstanding := if d then false else x.outstanding } := by
  by_cases h : d <;> simp [hearGood, h]

theorem applyGood_wakes (h : (s.station n e).state = .absent ∨ (s.station n e).state = .silent) : applyGood n e s
    = concluded n e (hearGood (decide ((s.line n).state = .delivering)) (s.station n e)) (raiseStationChange n e .present s).hlp
        s.ce s.jc s := by rw [applyGood, if_pos h]; rfl

theorem applyGood_steady (h : ¬((s.station n e).state = .absent ∨ (s.station n e).state = .silent)) : applyGood n e s
    = concluded n e (hearGood (decide ((s.line n).state = .delivering)) (s.station n e)) s.hlp s.ce s.jc s := by
  rw [applyGood, if_neg h]; rfl

/-- A good answer changes its entry, and the notices when the entry wakes (R148). -/
theorem applyGood_concludes (n e : Nat) (s : State) :
    ∃ h, applyGood n e s = concluded n e (hearGood (decide ((s.line n).state = .delivering)) (s.station n e)) h s.ce s.jc s
      ∧ ((s.station n e).state = .absent ∨ (s.station n e).state = .silent → h = (raiseStationChange n e .present s).hlp)
      ∧ (¬((s.station n e).state = .absent ∨ (s.station n e).state = .silent) → h = s.hlp) := by
  by_cases hw : (s.station n e).state = .absent ∨ (s.station n e).state = .silent
  · exact ⟨_, applyGood_wakes hw, fun _ => rfl, fun h => absurd hw h⟩
  · exact ⟨_, applyGood_steady hw, fun h => absurd h hw, fun _ => rfl⟩

/-- A good answer makes no entry FAULTY or DISABLED (R148). -/
theorem hearGood_open {d : Bool} {x : Station} (hf : x.state ≠ .faulty) (hd : x.state ≠ .disabled) :
    (hearGood d x).state ≠ .faulty ∧ (hearGood d x).state ≠ .disabled := by
  by_cases hw : x.state = .absent ∨ x.state = .silent <;> cases d <;> simp [hearGood, hw, hf, hd]

theorem applyMiss_third (h : 3 ≤ satInc 255 (s.station n e).misses)
    (hst : (s.station n e).state = .absent ∨ (s.station n e).state = .present) : applyMiss n e s
    = concluded n e { s.station n e with misses := satInc 255 (s.station n e).misses, state := .silent }
        (raiseStationChange n e .silent s).hlp s.ce s.jc s := by rw [applyMiss, if_pos ⟨h, hst⟩]; rfl

theorem applyMiss_counts (h : ¬(3 ≤ satInc 255 (s.station n e).misses
      ∧ ((s.station n e).state = .absent ∨ (s.station n e).state = .present))) : applyMiss n e s
    = concluded n e { s.station n e with misses := satInc 255 (s.station n e).misses } s.hlp s.ce s.jc s := by
  rw [applyMiss, if_neg h]; rfl

/-- An entry after a bad answer (R150). -/
def hearBad (x : Station) : Station := { x with errors := satInc 255 x.errors, run := 0, bad := satInc 255 x.bad, misses := 0 }

/-- An entry that becomes FAULTY with nothing held keeps its request flag (R150). -/
theorem hearBad_nothingHeld {x : Station} (h : x.held = none) : { hearBad x with state := .faulty }
    = { hearBad x with state := .faulty, held := none, outstanding := x.outstanding && x.held.isNone } := by simp [hearBad, h]

/-- With a reply held the flag is cleared as the reply is discarded (R150, R152). -/
theorem hearBad_discards {x : Station} {r : Reply} (h : x.held = some r) :
    { hearBad x with state := .faulty, held := none, outstanding := false }
      = { hearBad x with state := .faulty, held := none, outstanding := x.outstanding && x.held.isNone } := by simp [h]

theorem applyBad_counts (h : ¬(3 ≤ satInc 255 (s.station n e).bad ∧ ((s.station n e).state = .absent
      ∨ (s.station n e).state = .present ∨ (s.station n e).state = .silent))) :
    applyBad n e s = concluded n e (hearBad (s.station n e)) s.hlp s.ce s.jc s := by rw [applyBad, if_neg h]; rfl

theorem applyBad_third (h : 3 ≤ satInc 255 (s.station n e).bad) (hst : (s.station n e).state = .absent
      ∨ (s.station n e).state = .present ∨ (s.station n e).state = .silent) : applyBad n e s
    = dropHeld n e (concluded n e { hearBad (s.station n e) with state := .faulty } (raiseStationChange n e .faulty s).hlp
        s.ce s.jc s) := by rw [applyBad, if_pos ⟨h, hst⟩]; rfl

end Health

/-! ### Replies to the entry concerned (R152) -/

section Replies
variable {n e : Nat} {y : Station} {h : Hlp} {c : CardEngine} {j : Jc} {r : Reply} {s : State} (hn : n < 4) (he : e < 48)
include hn he

/-- An entry that is neither FAULTY nor DISABLED holds its reply (R152). -/
theorem sendStation_concluded (hf : y.state ≠ .faulty) (hd : y.state ≠ .disabled) :
    sendStation n e r (concluded n e y h c j s) = concluded n e { y with held := some r } h c j s := by
  have hs := sendStation_held (s := concluded n e y h c j s) (r := r) (by rw [concluded_station hn he]; exact hf)
    (by rw [concluded_station hn he]; exact hd)
  rw [concluded_station hn he, setStation_concluded hn] at hs
  exact hs

theorem dropHeld_none (hy : y.held = none) : dropHeld n e (concluded n e y h c j s) = concluded n e y h c j s := by
  rw [dropHeld, concluded_station hn he, hy]

theorem dropHeld_some (hy : y.held = some r) : dropHeld n e (concluded n e y h c j s)
    = concluded n e { y with held := none, outstanding := false }
        (raiseReplyDiscarded n e r.journal { s with hlp := h, jc := j }).hlp c j s := by
  rw [dropHeld, concluded_station hn he, hy]
  show discardReply n e r _ = _
  rw [discardReply, concluded_station hn he, setStation_concluded hn]
  rfl

end Replies

/-! ### A REQUEST in a good answer (R151) -/

section Asks
variable {n e : Nat} {y : Station} {h : Hlp} {c : CardEngine} {j : Jc} {kind : Byte} {body : List Byte} {req : CardReq} {s : State}

theorem cardKindOf_code {code : Nat} {k : CardKind} (hk : cardKindOf? code = some k) : k.code = code := by
  unfold cardKindOf? at hk
  split at hk <;> cases hk <;> rfl

/-- A station's request that passes its field check is of the frame's kind and of the station (R45, R151). -/
theorem stationRequest_kind_origin (hr : stationRequest? n e y kind body = some req) :
    req.kind.code = kind.toNat ∧ req.origin = .station n e := by
  rw [stationRequest?] at hr
  split at hr
  · next k hk =>
    split at hr
    · obtain ⟨hkind, horigin⟩ := cardRequest_kind_origin hr
      exact ⟨hkind ▸ cardKindOf_code hk, horigin⟩
    · cases hr
  · cases hr

/-- A refusal of the station's request is held by its entry (R152). -/
theorem refuseStation (hn : n < 4) (he : e < 48) (hf : y.state ≠ .faulty) (hd : y.state ≠ .disabled)
    (hr : req.kind.code = kind.toNat ∧ req.origin = .station n e) (st : Status) :
    sendReply req.origin (refusal req st) (concluded n e y h c j s)
      = concluded n e { y with held := some (plainReply kind.toNat st 0 (fig 4 req.card)) } h c j s := by
  obtain ⟨hk, ho⟩ := hr
  rw [ho, refusal_eq_plainReply, hk]
  exact sendStation_concluded hn he hf hd

/-- A request under a set flag counts an error (R151). -/
theorem stationAsks_outstanding (hn : n < 4) (he : e < 48) (hy : y.outstanding = true) :
    stationAsks n e kind body (concluded n e y h c j s)
      = concluded n e { y with errors := satInc 255 y.errors, run := 0 } h c j s := by
  simp only [stationAsks, concluded_station hn he, hy, if_true, setStation_concluded hn]

/-- A request whose fields fail is held as BAD-REQUEST FIELD (R151, R160). -/
theorem stationAsks_badField (hn : n < 4) (he : e < 48) (hf : y.state ≠ .faulty) (hd : y.state ≠ .disabled)
    (hy : y.outstanding = false) (hr : stationRequest? n e y kind body = none) :
    stationAsks n e kind body (concluded n e y h c j s) = concluded n e { y with
      outstanding := true
      held := some (plainReply kind.toNat .badRequest 1 (carriedCard kind.toNat (byteOf y.merchant :: body))) } h c j s := by
  simp only [stationAsks, concluded_station hn he, hy, Bool.false_eq_true, if_false, setStation_concluded hn, hr]
  exact sendStation_concluded hn he hf hd

/-- A request that passes comes to the window match with the entry's flag set (R44, R151). -/
theorem stationAsks_request (hn : n < 4) (he : e < 48) (hy : y.outstanding = false) (hr : stationRequest? n e y kind body = some req) :
    stationAsks n e kind body (concluded n e y h c j s)
      = takeCardRequest req (concluded n e { y with outstanding := true } h c j s) := by
  simp only [stationAsks, concluded_station hn he, hy, Bool.false_eq_true, if_false, setStation_concluded hn, hr]

theorem issue_concluded (op : PortOp) (l : Option LockSlot) (i : Nat) :
    issue op ((concluded n e y h s.ce s.jc s).setLock i l)
      = concluded n e y h (issue op (s.setLock i l)).ce (issue op (s.setLock i l)).jc s := by
  cases hs : s.jc.serving with
  | none => rw [issue_idle (s := (concluded n e y h s.ce s.jc s).setLock i l) hs, issue_idle (s := s.setLock i l) hs]; rfl
  | some x => rw [issue_busy (s := (concluded n e y h s.ce s.jc s).setLock i l) hs, issue_busy (s := s.setLock i l) hs]; rfl

/-! ### The ways of a REQUEST at the lock table (R21, R151) -/

section Ways
variable {i w : Nat} (hn : n < 4) (he : e < 48) (hy : y.outstanding = false) (hr : stationRequest? n e y kind body = some req)

section Refused
variable (hf : y.state ≠ .faulty) (hd : y.state ≠ .disabled)
include hn he hy hr hf hd

/-- A request that the lock table refuses is held as that refusal by its entry (R21, R152). -/
theorem stationAsks_refused (st : Status)
    (hs : takeCardRequest req (concluded n e { y with outstanding := true } h s.ce s.jc s)
      = sendReply req.origin (refusal req st) (concluded n e { y with outstanding := true } h s.ce s.jc s)) :
    stationAsks n e kind body (concluded n e y h s.ce s.jc s) = concluded n e { y with
      outstanding := true, held := some (plainReply kind.toNat st 0 (fig 4 req.card)) } h s.ce s.jc s :=
  (stationAsks_request hn he hy hr).trans (hs.trans
    (refuseStation (y := { y with outstanding := true }) hn he hf hd (stationRequest_kind_origin hr) st))

theorem stationAsks_unknown (hno : ∀ v, v < 8 → ¬InWindow s req.card v) :
    stationAsks n e kind body (concluded n e y h s.ce s.jc s) = concluded n e { y with
      outstanding := true, held := some (plainReply kind.toNat .unknownCard 0 (fig 4 req.card)) } h s.ce s.jc s :=
  stationAsks_refused hn he hy hr hf hd .unknownCard (takeCardRequest_unknown hno)

end Refused

section Taken
variable (hw : w < 8) (hin : InWindow s req.card w) (hbefore : ∀ v, v < w → ¬InWindow s req.card v)
include hn he hy hr hw hin hbefore

/-- A request whose card lies in a window comes to the lock table (R6, R21). -/
theorem stationAsks_matched : stationAsks n e kind body (concluded n e y h s.ce s.jc s)
    = seekLock (matched s req w) (concluded n e { y with outstanding := true } h s.ce s.jc s) :=
  (stationAsks_request hn he hy hr).trans
    (takeCardRequest_matched (s := concluded n e { y with outstanding := true } h s.ce s.jc s) hw hin hbefore)

theorem stationAsks_joins {k : LockSlot} (hl : s.lock i = some k) (hc : k.card = req.card)
    (hfirst : ∀ j m, j < i → s.lock j = some m → m.card ≠ req.card) (hroom : k.waiters.length < 6) :
    stationAsks n e kind body (concluded n e y h s.ce s.jc s) = concluded n e { y with outstanding := true } h
      (s.setLock i (some { k with waiters := k.waiters ++ [matched s req w] })).ce s.jc s :=
  (stationAsks_matched hn he hy hr hw hin hbefore).trans (seekLock_joins
    (s := concluded n e { y with outstanding := true } h s.ce s.jc s) (req := matched s req w) hl hc hfirst hroom)

theorem stationAsks_takes (hother : ∀ j m, j < 16 → s.lock j = some m → m.card ≠ req.card) (hi : i < 16)
    (hfree : s.lock i = none) (hlower : ∀ j, j < i → s.lock j ≠ none) :
    stationAsks n e kind body (concluded n e y h s.ce s.jc s) = concluded n e { y with outstanding := true } h
      (issue (.cardRead i (matched s req w).slot) (s.setLock i
        (some { card := req.card, owner := matched s req w, waiters := [], doing := .reading }))).ce
      (issue (.cardRead i (matched s req w).slot) (s.setLock i
        (some { card := req.card, owner := matched s req w, waiters := [], doing := .reading }))).jc s := by
  rw [stationAsks_matched hn he hy hr hw hin hbefore, seekLock_takes
    (s := concluded n e { y with outstanding := true } h s.ce s.jc s) (req := matched s req w) hother hi hfree hlower,
    issue_concluded]
  rfl

variable (hf : y.state ≠ .faulty) (hd : y.state ≠ .disabled)
include hf hd

theorem stationAsks_busy (hs : seekLock (matched s req w) (concluded n e { y with outstanding := true } h s.ce s.jc s)
      = sendReply (matched s req w).origin (refusal (matched s req w) .busy)
          (concluded n e { y with outstanding := true } h s.ce s.jc s)) :
    stationAsks n e kind body (concluded n e y h s.ce s.jc s) = concluded n e { y with
      outstanding := true, held := some (plainReply kind.toNat .busy 0 (fig 4 req.card)) } h s.ce s.jc s :=
  stationAsks_refused hn he hy hr hf hd .busy
    ((takeCardRequest_matched (s := concluded n e { y with outstanding := true } h s.ce s.jc s) hw hin hbefore).trans hs)

theorem stationAsks_full {k : LockSlot} (hl : s.lock i = some k) (hc : k.card = req.card)
    (hfirst : ∀ j m, j < i → s.lock j = some m → m.card ≠ req.card) (hfull : 6 ≤ k.waiters.length) :
    stationAsks n e kind body (concluded n e y h s.ce s.jc s) = concluded n e { y with
      outstanding := true, held := some (plainReply kind.toNat .busy 0 (fig 4 req.card)) } h s.ce s.jc s :=
  stationAsks_busy hn he hy hr hw hin hbefore hf hd (seekLock_full
    (s := concluded n e { y with outstanding := true } h s.ce s.jc s) (req := matched s req w) hl hc hfirst hfull)

theorem stationAsks_noSlot (hother : ∀ j m, j < 16 → s.lock j = some m → m.card ≠ req.card)
    (htaken : ∀ j, j < 16 → s.lock j ≠ none) :
    stationAsks n e kind body (concluded n e y h s.ce s.jc s) = concluded n e { y with
      outstanding := true, held := some (plainReply kind.toNat .busy 0 (fig 4 req.card)) } h s.ce s.jc s :=
  stationAsks_busy hn he hy hr hw hin hbefore hf hd (seekLock_noSlot
    (s := concluded n e { y with outstanding := true } h s.ce s.jc s) (req := matched s req w) hother htaken)

end Taken

end Ways

/-! ### Every way of a REQUEST concludes the offer -/

/-- The outcome leaves all but the entry, the locks and the port as they were, with these notices. -/
def Concludes (n e : Nat) (h : Hlp) (s t : State) : Prop := ∃ y c j, t = concluded n e y h c j s

theorem concludes_seekLock (hn : n < 4) (he : e < 48) (hf : y.state ≠ .faulty) (hd : y.state ≠ .disabled)
    (hr : req.kind.code = kind.toNat ∧ req.origin = .station n e) :
    Concludes n e h s (seekLock req (concluded n e y h s.ce s.jc s)) := by
  have hbusy := refuseStation (h := h) (c := s.ce) (j := s.jc) (s := s) hn he hf hd hr .busy
  unfold seekLock
  split
  · split
    · split
      · exact ⟨y, _, _, rfl⟩
      · exact ⟨_, _, _, hbusy⟩
    · exact ⟨y, _, _, rfl⟩
  · split
    · exact ⟨y, _, _, issue_concluded _ _ _⟩
    · exact ⟨_, _, _, hbusy⟩

theorem concludes_takeCardRequest (hn : n < 4) (he : e < 48) (hf : y.state ≠ .faulty) (hd : y.state ≠ .disabled)
    (hr : req.kind.code = kind.toNat ∧ req.origin = .station n e) :
    Concludes n e h s (takeCardRequest req (concluded n e y h s.ce s.jc s)) := by
  unfold takeCardRequest
  split
  · exact ⟨_, _, _, refuseStation hn he hf hd hr .unknownCard⟩
  · exact concludes_seekLock hn he hf hd hr

theorem concludes_stationAsks (hn : n < 4) (he : e < 48) (hf : y.state ≠ .faulty) (hd : y.state ≠ .disabled) :
    Concludes n e h s (stationAsks n e kind body (concluded n e y h s.ce s.jc s)) := by
  cases hy : y.outstanding with
  | true => exact ⟨_, _, _, stationAsks_outstanding hn he hy⟩
  | false =>
    cases hr : stationRequest? n e y kind body with
    | none => exact ⟨_, _, _, stationAsks_badField hn he hf hd hy hr⟩
    | some req =>
      rw [stationAsks_request hn he hy hr]
      exact concludes_takeCardRequest (y := { y with outstanding := true }) hn he hf hd (stationRequest_kind_origin hr)

end Asks

/-! ### The settlement of O60 -/

/-- The notices as an entry becomes FAULTY and its held reply is discarded (R152, R162): ATTN_N is low by either raising. -/
theorem faultyDiscard_hlp (n e journal : Nat) (s : State) :
    (raiseReplyDiscarded n e journal { s with hlp := (raiseStationChange n e .faulty s).hlp, jc := s.jc }).hlp = { s.hlp with
      notices := (raiseReplyDiscarded n e journal (raiseStationChange n e .faulty s)).hlp.notices
      attnLow := s.hlp.attnLow || decide (s.jc.phase ≠ .startup) } := by
  simp [raiseReplyDiscarded, raiseStationChange, raise]

/-- What is read off the part once the line has gone on after a known outcome. -/
theorem closing_outcome {n e : Nat} {y : Station} {h : Hlp} {c : CardEngine} {j : Jc} {s u : State} (hn : n < 4) (he : e < 48)
    (hu : u = concluded n e y h c j s) :
    (closing n e u).station n e = y ∧ ((closing n e u).ce, (closing n e u).jc) = (c, j) ∧ (closing n e u).hlp = h := by
  subst hu
  exact ⟨(closing_station hn).trans (concluded_station hn he), rfl, rfl⟩

/-- Settles O60: the four events, each by the outcome it has on the entry and the close of the offer. -/
theorem lineAnswers : Obligations.LineAnswers := by
  intro n e s he ha ho l x closed ended others up waked heard changed
  have hn : n.val < 4 := n.isLt
  have hclosed : endOffer e l = closed := endOffer_eq e l
  have hheard : hearGood (decide (l.state = .delivering)) x = heard := hearGood_eq _ _
  have hended : ∀ {y h c j}, ended (closing n.val e (concluded n.val e y h c j s)) := by
    intro y h c j
    show (closing n.val e (concluded n.val e y h c j s)).line n.val = { closed with stations := _ }
    rw [← hclosed]
    exact closing_line hn
  have hothers : ∀ {y h c j}, others (closing n.val e (concluded n.val e y h c j s)) := closing_onlyEntry hn
  constructor
  · intro hd dropped
    have hdrop : ∀ {c outcome}, exec c s = .next (closeOffer n.val e outcome s) → dropped c := fun h =>
      h.trans (by rw [closeOffer_dropped hd, hclosed])
    exact ⟨fun frame a hh => hdrop (exec_goodAnswer ha ho hh), hdrop (exec_answerWindowExpiry ha ho),
      hdrop (exec_answerGapExpiry ha ho), fun frame hh => hdrop (exec_badAnswer ha ho hh)⟩
  · intro hd
    have hclose : ∀ {c outcome u}, exec c s = .next (closeOffer n.val e outcome s) → outcome s = u →
        exec c s = .next (closing n.val e u) := fun h hu => h.trans (by rw [closeOffer_applied hd hu])
    obtain ⟨h, happ, hwakes, hsteady⟩ := applyGood_concludes n.val e s
    rw [hheard] at happ
    refine ⟨fun frame hh => ?_, fun frame kind body hh hf hdis => ?_, ?_, ?_⟩
    · refine ⟨_, hclose (exec_goodAnswer ha ho hh) happ, (closing_station hn).trans (concluded_station hn he), hended, hothers, rfl,
        fun hw => ?_, fun hw => hsteady hw⟩
      exact hwakes hw
    · obtain ⟨hfaulty, hdisabled⟩ : heard.state ≠ .faulty ∧ heard.state ≠ .disabled := hheard ▸ hearGood_open hf hdis
      have happ' : applyAnswer n.val e (.request kind body) s
          = stationAsks n.val e kind body (concluded n.val e heard h s.ce s.jc s) := by rw [applyAnswer, happ]
      have hout : ∀ {y c j}, stationAsks n.val e kind body (concluded n.val e heard h s.ce s.jc s) = concluded n.val e y h c j s →
          _ := fun hu => closing_outcome hn he hu
      refine ⟨_, hclose (exec_goodAnswer ha ho hh) happ', ?_⟩
      obtain ⟨y, c, j, hu⟩ := concludes_stationAsks (y := heard) (h := h) (kind := kind) (body := body) (s := s) hn he hfaulty hdisabled
      have hhlp := (hout hu).2.2
      refine ⟨by rw [hu]; exact hended, by rw [hu]; exact hothers, fun hw => hhlp.trans (hwakes hw),
        fun hw => hhlp.trans (hsteady hw), fun ht => ?_, fun ht => ?_⟩
      · obtain ⟨hst, hcj, _⟩ := hout (stationAsks_outstanding hn he ht)
        exact ⟨hst, hcj⟩
      · intro asked answered inside
        have hasked : stationRequest? n.val e heard kind body = asked := by
          simp only [stationRequest?, asked]
          cases cardKindOf? kind.toNat with
          | none => rfl
          | some k => cases k <;> rfl
        refine ⟨fun hnone => ?_, fun req hreq => ?_⟩
        · obtain ⟨hst, hcj, _⟩ := hout (stationAsks_badField hn he hfaulty hdisabled ht (hasked.trans hnone))
          exact ⟨hst, hcj⟩
        · intro refused holds
          have hr := hasked.trans hreq
          have hrefused : ∀ {st}, stationAsks n.val e kind body (concluded n.val e heard h s.ce s.jc s) = concluded n.val e
              { heard with outstanding := true, held := some (plainReply kind.toNat st 0 (fig 4 req.card)) } h s.ce s.jc s →
              refused st := fun hu => ⟨(hout hu).1, (hout hu).2.1⟩
          refine ⟨fun hno => hrefused (stationAsks_unknown hn he ht hr hfaulty hdisabled hno), fun w hw hin hbefore => ?_⟩
          intro own
          refine ⟨fun i k _ hl hc hfirst => ⟨fun hroom => ?_, fun hfull => hrefused ?_⟩,
            fun hother => ⟨fun i hi hfree hlower => ?_, fun htaken => hrefused ?_⟩⟩
          · obtain ⟨hst, hcj, _⟩ := hout (stationAsks_joins hn he ht hr hw hin hbefore hl hc hfirst hroom)
            exact ⟨hst, hcj⟩
          · exact stationAsks_full hn he ht hr hw hin hbefore hfaulty hdisabled hl hc hfirst hfull
          · obtain ⟨hst, hcj, _⟩ := hout (stationAsks_takes hn he ht hr hw hin hbefore hother hi hfree hlower)
            exact ⟨hst, hcj⟩
          · exact stationAsks_noSlot hn he ht hr hw hin hbefore hfaulty hdisabled hother htaken
    · have hexec := exec_answerWindowExpiry ha ho
      by_cases hm : 3 ≤ satInc 255 x.misses ∧ (x.state = .absent ∨ x.state = .present)
      · refine ⟨_, hclose hexec (applyMiss_third hm.1 hm.2), hended, hothers, rfl,
          fun _ _ => ⟨(closing_station hn).trans (concluded_station hn he), rfl⟩, fun hno => ?_⟩
        rcases hno with hno | ⟨h1, h2⟩
        · exact absurd hm.1 (Nat.not_le.mpr hno)
        · exact absurd hm.2 (not_or.mpr ⟨h1, h2⟩)
      · exact ⟨_, hclose hexec (applyMiss_counts hm), hended, hothers, rfl, fun h3 hst => absurd ⟨h3, hst⟩ hm,
          fun _ => ⟨(closing_station hn).trans (concluded_station hn he), rfl⟩⟩
    · intro bad fails
      have hfails : ∀ {c}, exec c s = .next (closeOffer n.val e (applyBad n.val e) s) → fails c := by
        intro c hexec
        by_cases hb : 3 ≤ satInc 255 x.bad ∧ (x.state = .absent ∨ x.state = .present ∨ x.state = .silent)
        · have hthird := applyBad_third hb.1 hb.2
          have hno : ¬(up 255 x.bad < 3 ∨ x.state = .faulty ∨ x.state = .disabled) := by
            rintro (h | h | h)
            · exact absurd hb.1 (Nat.not_le.mpr h)
            · rcases hb.2 with hs | hs | hs <;> cases hs.symm.trans h
            · rcases hb.2 with hs | hs | hs <;> cases hs.symm.trans h
          cases hheld : x.held with
          | none =>
            refine ⟨_, hclose hexec (hthird.trans (dropHeld_none hn he hheld)), hended, hothers, rfl,
              fun _ _ => ⟨(closing_station hn).trans ((concluded_station hn he).trans ?_), ?_⟩, fun h => absurd h hno⟩
            · exact hearBad_nothingHeld hheld
            · rw [hheld]; rfl
          | some r =>
            refine ⟨_, hclose hexec (hthird.trans (dropHeld_some hn he hheld)), hended, hothers, rfl,
              fun _ _ => ⟨(closing_station hn).trans ((concluded_station hn he).trans ?_), ?_⟩, fun h => absurd h hno⟩
            · exact hearBad_discards hheld
            · rw [hheld]; exact faultyDiscard_hlp ..
        · exact ⟨_, hclose hexec (applyBad_counts hb), hended, hothers, rfl, fun h3 hst => absurd ⟨h3, hst⟩ hb,
            fun _ => ⟨(closing_station hn).trans (concluded_station hn he), rfl⟩⟩
      exact ⟨hfails (exec_answerGapExpiry ha ho), fun frame hh => hfails (exec_badAnswer ha ho hh)⟩

end Sys2Proof.Machine
end
section
/-! PROOF. The laws that the part's book-keeping carries (for O6 and O7): a law of the lock table, of the holds or of the
stations meets the commands of the books only through a few shared operations. What it owes to those is `BooksLaw`; that every
command of the books then keeps it is proved here once, for any law. -/

namespace Sys2Proof.Machine
open Sys2Proof Sys2Proof.Safety

/-! ### The law and its shared operations -/

/-- The tables beside the lines that a law of the books may speak of: the port's accesses, the append queue, the locks, the
holds, and the serial counter. -/
def lawTables (s : State) :=
  (s.jc.serving, s.jc.waiting, s.jc.appendQueue, s.ce.locks, s.ht.holds, s.ht.serial)

/-- A law that the shared operations keep. `P true` is the law itself; `P false` is what holds of it while the event of the
access in service is under way. -/
structure BooksLaw (P : Bool → State → Prop) : Prop where
  frame : ∀ {b s t}, P b s → t.lines = s.lines → lawTables t = lawTables s → P b t
  begun : ∀ {s op}, P true s → s.jc.serving = some op → P false s
  access : ∀ {b s op}, P b s → accessTicket op = none → P b (issue op s)
  fault : ∀ {b s region j}, P b s → P b (enterFault region j s)
  record : ∀ {s item}, P true s → recordTicket item = none → P true (joinAppend item s)
  due : ∀ {s}, P true s → P true (issueDue s)
  port : ∀ {b s n}, P b s → P true (portNext n s)
  opened : ∀ {b s tag}, P b s → P b (openPart tag s)
  walked : ∀ {b s w}, P b s → P b (finishWalk w s)

/-- A law that says nothing of the lines. -/
def LinesFree (P : Bool → State → Prop) : Prop := ∀ ⦃b s t⦄, P b s → lawTables t = lawTables s → P b t

/-- The access in service is none of those whose completion makes station entries anew (R127, R172, R173). -/
def SetupFree (s : State) : Prop :=
  (∀ k, s.jc.serving ≠ some (.configRead k)) ∧ (∀ i, s.jc.serving ≠ some (.configWrite i))
    ∧ ∀ stage i a bs, s.jc.serving ≠ some (.formatWrite stage i a bs)

/-- A command whose next state, if it has one, is under the law. -/
def NextKeeps (P : Bool → State → Prop) (o : Host.Outcome State Fault Refusal) : Prop := ∀ t, o = .next t → P true t

section Books
variable {P : Bool → State → Prop} {b : Bool} {s : State}

theorem nextKeeps_next {t : State} (h : P true t) : NextKeeps P (.next t) := by rintro _ ⟨⟩; exact h

theorem nextKeeps_fault (r : Fault) : NextKeeps P (.fault r) := by rintro _ ⟨⟩

variable (hP : BooksLaw P)
include hP

theorem keeps_complete {op : PortOp} {work : State → State} (hw : P false s → P false (work s)) (h : P true s)
    (hs : s.jc.serving = some op) : NextKeeps P (.next (complete work s)) :=
  nextKeeps_next (hP.port (hw (hP.begun h hs)))

theorem keeps_storeOp (op : PortOp) (h : P b s) : P b (storeOp op s) := hP.frame h (by simp) (by simp [lawTables])

theorem keeps_leaveOp (op : PortOp) (left : Residue) (h : P b s) : P b (leaveOp op left s) :=
  hP.frame h (by simp) (by simp [lawTables])

theorem keeps_sendLink {tag : Nat} {r : Reply} (h : P b s) : P b (sendLink tag r s) := hP.frame h (by simp) (by simp [lawTables])

theorem keeps_sendUntagged {kind tag : Nat} {r : Reply} (h : P b s) : P b (sendUntagged kind tag r s) :=
  hP.frame h (by simp) (by simp [lawTables])

theorem keeps_raise {f : Notices → Notices} (h : P b s) : P b (raise f s) := hP.frame h rfl rfl

/-- A request frame keeps the law when its block does (R157 to R160). -/
theorem keeps_hostRequest {α : Type} {kind : Nat} {c : ReqClass} {tag : Byte} {body : List Byte} {fields : List Byte → Option α}
    {act : Nat → α → State → State} (hact : ∀ f u, fields body = some f → P true u → P true (act tag.toNat f u))
    (h : P true s) : NextKeeps P (.next (hostRequest kind c tag body fields act s)) := by
  refine nextKeeps_next ?_
  have hunt : P true { s with hlp := { s.hlp with inbound := [] } } := hP.frame h rfl rfl
  have htake (l : List Nat) : P true { s with hlp := { s.hlp with inbound := [], inFlight := l } } := hP.frame h rfl rfl
  unfold hostRequest
  dsimp only
  split
  · exact h
  split
  · exact keeps_sendUntagged hP hunt
  split
  · exact keeps_sendUntagged hP hunt
  split
  · exact keeps_sendUntagged hP hunt
  split
  · exact keeps_sendLink hP (htake _)
  · next f hf =>
    split
    · exact keeps_sendLink hP (htake _)
    · exact hact f _ hf (htake _)

/-! ### Totals writes and advice (R123, R131) -/

theorem keeps_issueTotals {job : TotalsJob} (h : P b s) : P b (issueTotals job s) := hP.access (hP.frame h rfl rfl) rfl

theorem keeps_requestTotals {job : TotalsJob} (h : P b s) : P b (requestTotals job s) := by
  unfold requestTotals
  split
  · exact keeps_issueTotals hP h
  · exact hP.frame h rfl rfl

theorem keeps_nextTotals (h : P b s) : P b (nextTotals s) := by
  unfold nextTotals
  split
  · exact hP.frame h rfl rfl
  · exact keeps_issueTotals hP (hP.frame h rfl rfl)

theorem keeps_runAdvice (l : List (Nat × Nat)) (h : P b s) : P b (runAdvice l s) := by
  induction l generalizing s with
  | nil => exact hP.frame h rfl rfl
  | cons q rest ih =>
    obtain ⟨tag, count⟩ := q
    unfold runAdvice
    split
    · exact ih (keeps_sendLink hP h)
    split
    · exact hP.access (hP.frame h rfl rfl) rfl
    · exact ih (keeps_sendLink hP h)

theorem keeps_answerAdvice {tag : Nat} {r : Reply} (h : P b s) : P b (answerAdvice tag r s) :=
  keeps_runAdvice hP _ (keeps_sendLink hP h)

/-! ### Recovery (R127 to R130) -/

theorem keeps_startAdmission (h : P b s) : P b (startAdmission s) := hP.access (hP.frame h rfl rfl) rfl

theorem keeps_finishRecovery (h : P b s) : P b (finishRecovery s) := by
  unfold finishRecovery
  split
  · exact hP.access (hP.frame h rfl rfl) rfl
  · exact keeps_startAdmission hP h

theorem keeps_recoverNext (todo : List JBody) (h : P b s) : P b (recoverNext todo s) := by
  unfold recoverNext
  split
  · exact keeps_finishRecovery hP h
  split
  · exact hP.access (hP.frame h rfl rfl) rfl
  · exact hP.frame h rfl rfl

theorem keeps_endRecoveryIfStarting (h : P b s) : P b (endRecoveryIfStarting s) := by
  unfold endRecoveryIfStarting
  split
  · exact keeps_finishRecovery hP h
  · exact h

theorem keeps_recoverOn (h : P b s) : P b (recoverOn s) := by
  unfold recoverOn
  split
  · exact keeps_recoverNext hP _ (hP.frame h rfl rfl)
  · exact h

/-! ### Accruals (R82 to R89) -/

theorem keeps_stopAccrual (h : P b s) : P b (stopAccrual s) := keeps_endRecoveryIfStarting hP (hP.frame h rfl rfl)

theorem keeps_failAccrual {region : Region} {j : Nat} (h : P b s) : P b (failAccrual region j s) :=
  keeps_stopAccrual hP (hP.fault h)

theorem keeps_accrualTotals {a : Accrual} (h : P b s) : P b (accrualTotals a s) := by
  unfold accrualTotals
  dsimp only
  split
  · exact hP.access (hP.frame h rfl rfl) rfl
  split
  · exact keeps_requestTotals hP (hP.frame h rfl rfl)
  · exact keeps_failAccrual hP h

theorem keeps_endStage1 {a : Accrual} (h : P b s) : P b (endStage1 a s) := by
  unfold endStage1
  split
  · exact keeps_accrualTotals hP h
  · exact keeps_stopAccrual hP h

theorem keeps_beginAccrual {body : JBody} (h : P b s) : P b (beginAccrual body s) := by
  unfold beginAccrual
  dsimp only
  split
  · exact hP.access (hP.frame h rfl rfl) rfl
  · exact keeps_accrualTotals hP h

theorem keeps_accrualRead {a : Accrual} {m : Nat} (h : P b s) : P b (accrualRead a m s) := by
  unfold accrualRead
  dsimp only
  split
  · exact keeps_failAccrual hP h
  split
  · exact keeps_endStage1 hP h
  split
  · exact hP.access (hP.frame h rfl rfl) rfl
  · exact keeps_failAccrual hP h

theorem keeps_execAccrualStart (h : P true s) : NextKeeps P (execAccrualStart s) := by
  unfold execAccrualStart
  split
  · exact nextKeeps_next (keeps_beginAccrual hP (hP.frame h rfl rfl))
  · exact nextKeeps_next h

theorem keeps_execAccrualMerchantReadDone (h : P true s) : NextKeeps P (execAccrualMerchantReadDone s) := by
  unfold execAccrualMerchantReadDone
  split
  · next m hs =>
    refine keeps_complete hP (fun h => ?_) h hs
    unfold accrualReadArrives
    split
    · exact keeps_accrualRead hP h
    · exact h
  · exact nextKeeps_next h

theorem keeps_execAccrualMerchantWriteDone (failed : Option Residue) (h : P true s) :
    NextKeeps P (execAccrualMerchantWriteDone failed s) := by
  unfold execAccrualMerchantWriteDone
  split
  · next m r hs =>
    split
    · refine keeps_complete hP (fun h => ?_) h hs
      unfold accrualWritten
      split
      · exact keeps_endStage1 hP (keeps_storeOp hP _ h)
      · exact keeps_storeOp hP _ h
    · refine keeps_complete hP (fun h => ?_) h hs
      unfold accrualWriteFailed
      split
      · exact keeps_failAccrual hP (keeps_leaveOp hP _ _ h)
      · exact keeps_leaveOp hP _ _ h
  · exact nextKeeps_next h

/-! ### The close walk and the rebuild of a list (R95 to R102, R109) -/

theorem keeps_stopWalk (h : P b s) : P b (stopWalk s) := keeps_endRecoveryIfStarting hP (hP.frame h rfl rfl)

theorem keeps_failWalk {region : Region} {j : Nat} (h : P b s) : P b (failWalk region j s) := keeps_stopWalk hP (hP.fault h)

theorem keeps_walkTo {w : Walk} {g m : Nat} (h : P b s) : P b (walkTo w g m s) := hP.access (hP.frame h rfl rfl) rfl

theorem keeps_beginWalk {body : JBody} (h : P b s) : P b (beginWalk body s) := keeps_walkTo hP (hP.frame h rfl rfl)

theorem keeps_endWalk {w : Walk} (h : P b s) : P b (endWalk w s) := by
  unfold endWalk
  split
  · exact keeps_failWalk hP h
  · exact keeps_requestTotals hP (hP.frame h rfl rfl)

theorem keeps_walkOn {w : Walk} (h : P b s) : P b (walkOn w s) := by
  unfold walkOn
  split
  · exact keeps_walkTo hP h
  split
  · exact keeps_failWalk hP h
  split
  · exact keeps_walkTo hP (hP.frame h rfl rfl)
  · exact keeps_endWalk hP (hP.frame h rfl rfl)

theorem keeps_walkMerchant {w : Walk} {m : Nat} {r : MerchantRec} (h : P b s) : P b (walkMerchant w m r s) := by
  unfold walkMerchant
  dsimp only
  split
  · split
    · exact keeps_walkOn hP (hP.frame h rfl rfl)
    · exact keeps_walkOn hP h
  split
  · exact keeps_walkOn hP h
  split
  · exact keeps_walkOn hP h
  split
  · exact hP.access h rfl
  · exact keeps_failWalk hP h

theorem keeps_walkRead {w : Walk} {m : Nat} (h : P b s) : P b (walkRead w m s) := by
  unfold walkRead
  split
  · exact keeps_failWalk hP h
  split
  · exact keeps_stopWalk hP h
  · exact keeps_walkMerchant hP h

theorem keeps_walkWritten {w : Walk} {m : Nat} {r : MerchantRec} (h : P b s) : P b (walkWritten w m r s) := by
  have hclosed : P b (if r.state = .closed then s.setAdmission m { s.admission m with state := .closed } else s) := by
    split
    · exact hP.frame h rfl rfl
    · exact h
  unfold walkWritten
  generalize (if r.state = .closed then s.setAdmission m { s.admission m with state := .closed } else s) = u at hclosed
  cases r.lastResult with
  | none =>
    dsimp only
    split
    · exact keeps_walkOn hP hclosed
    · exact keeps_stopWalk hP hclosed
  | some pay =>
    have hlisted : P b (addEntry (.merchant pay) u) := hP.frame hclosed rfl rfl
    dsimp only
    split
    · exact keeps_walkOn hP hlisted
    · exact keeps_stopWalk hP hlisted

theorem keeps_execCloseWalkStart (h : P true s) : NextKeeps P (execCloseWalkStart s) := by
  unfold execCloseWalkStart
  split
  · exact nextKeeps_next (keeps_beginWalk hP (hP.frame h rfl rfl))
  · exact nextKeeps_next h

theorem keeps_execWalkMerchantReadDone (h : P true s) : NextKeeps P (execWalkMerchantReadDone s) := by
  unfold execWalkMerchantReadDone
  split
  · next m hs =>
    refine keeps_complete hP (fun h => ?_) h hs
    unfold walkReadArrives
    split
    · exact keeps_walkRead hP h
    · exact h
  · exact nextKeeps_next h

theorem keeps_execWalkMerchantWriteDone (h : P true s) : NextKeeps P (execWalkMerchantWriteDone s) := by
  unfold execWalkMerchantWriteDone
  split
  · next m r hs =>
    refine keeps_complete hP (fun h => ?_) h hs
    unfold walkWriteArrives
    split
    · exact keeps_walkWritten hP (keeps_storeOp hP _ h)
    · exact keeps_storeOp hP _ h
  · exact nextKeeps_next h

theorem keeps_execWalkMerchantWriteFails (left : Residue) (h : P true s) : NextKeeps P (execWalkMerchantWriteFails left s) := by
  unfold execWalkMerchantWriteFails
  split
  · next m r hs =>
    refine keeps_complete hP (fun h => ?_) h hs
    unfold walkWriteFailed
    split
    · exact keeps_failWalk hP (keeps_leaveOp hP _ _ h)
    · exact keeps_leaveOp hP _ _ h
  · exact nextKeeps_next h

theorem keeps_endRebuild {st : ListState} (h : P b s) : P b (endRebuild st s) := keeps_startAdmission hP (hP.frame h rfl rfl)

theorem keeps_failRebuild (h : P b s) : P b (failRebuild s) := keeps_endRebuild hP (hP.fault h)

theorem keeps_rebuildOn {g m : Nat} (h : P b s) : P b (rebuildOn g m s) := by
  unfold rebuildOn
  dsimp only
  split
  · exact hP.access (hP.frame h rfl rfl) rfl
  split
  · exact keeps_failRebuild hP h
  split
  · exact hP.access (hP.frame h rfl rfl) rfl
  split
  · exact keeps_failRebuild hP (hP.frame h rfl rfl)
  · exact keeps_endRebuild hP (hP.frame h rfl rfl)

theorem keeps_rebuildRead {g m : Nat} (h : P b s) : P b (rebuildRead g m s) := by
  unfold rebuildRead
  split
  · exact keeps_failRebuild hP h
  split
  · split
    · exact keeps_rebuildOn hP (hP.frame h rfl rfl)
    · exact keeps_rebuildOn hP h
  · exact keeps_rebuildOn hP h

theorem keeps_execRebuildReadDone (h : P true s) : NextKeeps P (execRebuildReadDone s) := by
  unfold execRebuildReadDone
  split
  · next m hs =>
    refine keeps_complete hP (fun h => ?_) h hs
    unfold rebuildArrives
    split
    · exact keeps_rebuildRead hP h
    · exact h
  · exact nextKeeps_next h

/-! ### Totals writes and reads of the books (R90, R131, R134) -/

theorem keeps_loadEpoch {epoch : Nat} (h : P b s) : P b (loadEpoch epoch s) := hP.access (hP.frame h rfl rfl) rfl

theorem keeps_totalsWritten {job : TotalsJob} {copy : Totals} (h : P b s) : P b (totalsWritten job copy s) := by
  unfold totalsWritten
  split
  · exact keeps_loadEpoch hP h
  · split
    · exact hP.access h rfl
    · exact keeps_stopAccrual hP h
  · split
    · exact hP.access h rfl
    · exact keeps_stopWalk hP h
  · exact keeps_sendLink hP (hP.frame h rfl rfl)
  · exact keeps_answerAdvice hP (hP.frame h rfl rfl)

theorem keeps_totalsFailed {job : TotalsJob} {copy : Totals} {earlier : Nat} (h : P b s) :
    P b (totalsFailed job copy earlier s) := by
  unfold totalsFailed
  split
  · exact keeps_loadEpoch hP (hP.fault h)
  · exact keeps_failAccrual hP h
  · exact keeps_failWalk hP h
  · exact keeps_sendLink hP (hP.frame (hP.fault h) rfl rfl)
  · exact keeps_answerAdvice hP (hP.frame (hP.fault h) rfl rfl)

theorem keeps_execTotalsWriteDone (h : P true s) : NextKeeps P (execTotalsWriteDone s) := by
  unfold execTotalsWriteDone
  split
  · next hs =>
    exact keeps_complete hP (fun h => keeps_nextTotals hP (keeps_totalsWritten hP (keeps_storeOp hP _ h))) h hs
  · exact nextKeeps_next h

theorem keeps_execTotalsWriteFails (left : Residue) (h : P true s) : NextKeeps P (execTotalsWriteFails left s) := by
  unfold execTotalsWriteFails
  split
  · next hs =>
    exact keeps_complete hP (fun h => keeps_nextTotals hP (keeps_totalsFailed hP (keeps_leaveOp hP _ _ h))) h hs
  · exact nextKeeps_next h

theorem keeps_execReadTotalsReadDone (h : P true s) : NextKeeps P (execReadTotalsReadDone s) := by
  unfold execReadTotalsReadDone
  split
  · next tag hs =>
    refine keeps_complete hP (fun h => ?_) h hs
    unfold totalsRead
    dsimp only
    split
    · exact keeps_sendLink hP h
    · exact keeps_sendLink hP (hP.fault h)
  · exact nextKeeps_next h

theorem keeps_execMerchantStatusReadDone (h : P true s) : NextKeeps P (execMerchantStatusReadDone s) := by
  unfold execMerchantStatusReadDone
  split
  · next tag m hs =>
    refine keeps_complete hP (fun h => ?_) h hs
    unfold statusRead
    split
    · exact keeps_sendLink hP h
    · exact keeps_sendLink hP (hP.fault h)
  · exact nextKeeps_next h

/-! ### TAKE-ADVICE and commit marks (R122, R123) -/

theorem keeps_takeAdvice {tag count : Nat} (h : P b s) : P b (takeAdvice tag count s) := by
  unfold takeAdvice
  split
  · exact keeps_runAdvice hP _ h
  · exact hP.frame h rfl rfl

theorem keeps_endAdviceReads {job : AdviceJob} (h : P b s) : P b (endAdviceReads job s) := by
  unfold endAdviceReads
  split
  · exact keeps_answerAdvice hP h
  · exact keeps_requestTotals hP (hP.frame h rfl rfl)

theorem keeps_adviceSlot {job : AdviceJob} {bs : List Byte} (h : P b s) : P b (adviceSlot job bs s) := by
  unfold adviceSlot
  dsimp only
  split
  · exact keeps_endAdviceReads hP h
  split
  · exact hP.access (hP.frame h rfl rfl) rfl
  · exact keeps_endAdviceReads hP h

theorem keeps_adviceRead {job : AdviceJob} {j : Nat} (h : P b s) : P b (adviceRead job j s) := by
  unfold adviceRead
  dsimp only
  split
  · exact keeps_answerAdvice hP (hP.fault h)
  split
  · exact keeps_answerAdvice hP h
  · exact keeps_adviceSlot hP h

theorem keeps_execAdviceReadDone (h : P true s) : NextKeeps P (execAdviceReadDone s) := by
  unfold execAdviceReadDone
  split
  · next j hs =>
    refine keeps_complete hP (fun h => ?_) h hs
    unfold adviceArrives
    split
    · exact keeps_adviceRead hP h
    · exact h
  · exact nextKeeps_next h

theorem keeps_committed {j : Nat} (h : P b s) : P b (committed j s) := by
  unfold committed
  refine keeps_recoverOn hP ?_
  have hfall : P b { s with jc := { s.jc with pendingCount := s.jc.pendingCount - 1 } } := hP.frame h rfl rfl
  split
  · split
    · exact hP.walked hfall
    · exact hfall
  · exact hP.frame h rfl rfl

theorem keeps_execCommitMarkDone (h : P true s) : NextKeeps P (execCommitMarkDone s) := by
  unfold execCommitMarkDone
  split
  · next hs => exact keeps_complete hP (fun h => keeps_committed hP (keeps_storeOp hP _ h)) h hs
  · exact nextKeeps_next h

theorem keeps_commitFailed {j : Nat} (h : P b s) : P b (commitFailed j s) :=
  keeps_endRecoveryIfStarting hP (hP.frame (hP.fault h) rfl rfl)

theorem keeps_execCommitMarkFails (left : Residue) (h : P true s) : NextKeeps P (execCommitMarkFails left s) := by
  unfold execCommitMarkFails
  split
  · next hs => exact keeps_complete hP (fun h => keeps_commitFailed hP (keeps_leaveOp hP _ _ h)) h hs
  · exact nextKeeps_next h

/-! ### The payout list's requests (R104 to R106) -/

theorem keeps_readPayoutEntry {tag : Nat} (h : P b s) : P b (readPayoutEntry tag s) := by
  unfold readPayoutEntry
  dsimp only
  split
  · exact keeps_sendLink hP h
  all_goals
    split
    · exact keeps_sendLink hP (hP.frame h rfl rfl)
    · exact keeps_sendLink hP h

theorem keeps_releaseList {tag : Nat} (h : P b s) : P b (releaseList tag s) := by
  unfold releaseList
  split
  · exact keeps_sendLink hP h
  split
  · exact keeps_sendLink hP h
  · exact keeps_requestTotals hP (hP.frame h rfl rfl)

/-! ### The audit sweep (R135 to R141) -/

theorem keeps_issueSweepRead (h : P b s) : P b (issueSweepRead s) := hP.access (hP.frame h rfl rfl) rfl

theorem keeps_startSweep {tag : Nat} (h : P b s) : P b (startSweep tag s) := by
  unfold startSweep
  dsimp only
  split
  · exact keeps_sendLink hP h
  split
  · exact keeps_sendLink hP h
  refine keeps_sendLink hP ?_
  split
  · exact hP.frame h rfl rfl
  · exact keeps_issueSweepRead hP (hP.frame h rfl rfl)

theorem keeps_stopSweep {tag : Nat} (h : P b s) : P b (stopSweep tag s) := by
  unfold stopSweep
  split
  · exact keeps_sendLink hP (hP.frame h (by simp) (by simp [lawTables]))
  · exact keeps_sendLink hP h

theorem keeps_sweepAdd {slot : Nat} (h : P b s) : P b (sweepAdd slot s) := by
  unfold sweepAdd
  split
  · exact hP.frame h rfl rfl
  · exact hP.frame h rfl rfl

theorem keeps_endSweep (h : P b s) : P b (endSweep s) := hP.frame h rfl rfl

theorem keeps_sweepOn {slot : Nat} (h : P b s) : P b (sweepOn slot s) := by
  have hcursor : P b { s with asu := { s.asu with outstanding := false, cursor := s.asu.cursor + 1 } } := hP.frame h rfl rfl
  have hadd := keeps_sweepAdd hP (slot := slot) hcursor
  unfold sweepOn
  dsimp only
  split
  · exact keeps_endSweep hP hadd
  · exact keeps_issueSweepRead hP hadd

theorem keeps_sweepRead {slot : Nat} (h : P b s) : P b (sweepRead slot s) := by
  unfold sweepRead
  split
  · unfold dropStale
    dsimp only
    split
    · exact keeps_issueSweepRead hP (hP.frame h rfl rfl)
    · exact hP.frame h rfl rfl
  split
  · exact keeps_sweepOn hP h
  · exact hP.frame h rfl rfl

theorem keeps_execSweepReadDone (h : P true s) : NextKeeps P (execSweepReadDone s) := by
  unfold execSweepReadDone
  split
  · next slot hs =>
    split
    · exact keeps_complete hP (keeps_sweepRead hP) h hs
    · exact nextKeeps_fault _
  · exact nextKeeps_next h

/-! ### Start-up beside the configuration records (R127 to R130) -/

theorem keeps_startupTotals (h : P b s) : P b (startupTotals s) := by
  unfold startupTotals
  dsimp only
  split
  · exact keeps_raise hP (hP.frame h rfl rfl)
  split
  · exact keeps_raise hP (hP.frame (hP.fault h) rfl rfl)
  · exact keeps_requestTotals hP (hP.frame h rfl rfl)

theorem keeps_execStartupTotalsReadDone (h : P true s) : NextKeeps P (execStartupTotalsReadDone s) := by
  unfold execStartupTotalsReadDone
  split
  · next hs => exact keeps_complete hP (keeps_startupTotals hP) h hs
  · exact nextKeeps_next h

theorem keeps_scanSlot {n : Nat} {found : List JBody} (h : P b s) : P b (scanSlot n found s) := by
  unfold scanSlot
  dsimp only
  split
  · exact hP.access (hP.frame h rfl rfl) rfl
  unfold endScan
  split
  · exact keeps_finishRecovery hP (hP.frame (hP.fault h) rfl rfl)
  dsimp only
  split
  · exact keeps_recoverNext hP _ (hP.frame h rfl rfl)
  · exact keeps_finishRecovery hP (hP.frame h rfl rfl)

theorem keeps_execJournalScanReadDone (h : P true s) : NextKeeps P (execJournalScanReadDone s) := by
  unfold execJournalScanReadDone
  split
  · next n hs =>
    refine keeps_complete hP (fun h => ?_) h hs
    unfold scanArrives
    split
    · exact keeps_scanSlot hP h
    · exact h
  · exact nextKeeps_next h

theorem keeps_cardStepDone (h : P b s) : P b (cardStepDone s) := by
  unfold cardStepDone
  split
  · exact hP.frame h rfl rfl
  · exact h

theorem keeps_execRecoveryCardReadDone (h : P true s) : NextKeeps P (execRecoveryCardReadDone s) := by
  unfold execRecoveryCardReadDone
  split
  · next body hs =>
    split
    · refine keeps_complete hP (fun h => ?_) h hs
      unfold recoverCard
      dsimp only
      split
      · exact keeps_cardStepDone hP h
      · exact hP.access h rfl
    · exact nextKeeps_fault _
  · exact nextKeeps_next h

theorem keeps_execRecoveryCardWriteDone (failed : Option Residue) (h : P true s) :
    NextKeeps P (execRecoveryCardWriteDone failed s) := by
  unfold execRecoveryCardWriteDone
  split
  · next body hs =>
    split
    · exact keeps_complete hP (fun h => keeps_cardStepDone hP (keeps_storeOp hP _ h)) h hs
    · exact keeps_complete hP (fun h => keeps_finishRecovery hP (hP.fault (keeps_leaveOp hP _ _ h))) h hs
  · exact nextKeeps_next h

theorem keeps_admissionOn {m : Nat} (h : P b s) : P b (admissionOn m s) := by
  have hload : P b (loadAdmission m s) := by
    unfold loadAdmission
    split
    · exact hP.frame h rfl rfl
    · exact hP.frame (hP.fault h) rfl rfl
  unfold admissionOn
  generalize loadAdmission m s = u at hload
  dsimp only
  split
  · exact hP.access (hP.frame hload rfl rfl) rfl
  · exact hP.frame hload rfl rfl

theorem keeps_execAdmissionLoadReadDone (h : P true s) : NextKeeps P (execAdmissionLoadReadDone s) := by
  unfold execAdmissionLoadReadDone
  split
  · next hs => exact keeps_complete hP (keeps_admissionOn hP) h hs
  · exact nextKeeps_next h

/-! ### The requests of R170 -/

theorem keeps_issueFormat {job : FormatJob} (h : P b s) : P b (issueFormat job s) := hP.access (hP.frame h rfl rfl) rfl

theorem keeps_openService {tag : Nat} (h : P b s) : P b (openService tag s) := by
  unfold openService
  split
  · exact keeps_sendLink hP h
  · exact hP.opened h

theorem keeps_startCfg {q : ConfigReq} (h : P b s) : P b (startCfg q s).1 := by
  unfold startCfg
  dsimp only
  split
  · exact keeps_sendLink hP h
  split
  · exact keeps_openService hP h
  · split
    · exact keeps_sendLink hP h
    · exact keeps_issueFormat hP h
  · split
    · exact keeps_sendLink hP h
    · exact hP.access h rfl
  · split
    · exact keeps_sendLink hP h
    split
    · exact keeps_sendLink hP h
    · exact hP.access h rfl

theorem keeps_runCfg (l : List ConfigReq) (h : P b s) : P b (runCfg l s) := by
  induction l generalizing s with
  | nil => exact hP.frame h rfl rfl
  | cons q rest ih =>
    unfold runCfg
    dsimp only
    split
    · exact hP.frame (keeps_startCfg hP h) rfl rfl
    · exact ih (keeps_startCfg hP h)

theorem keeps_takeCfg {kind tag : Nat} {what : ConfigWhat} (h : P b s) : P b (takeCfg kind tag what s) := by
  unfold takeCfg
  dsimp only
  split
  · exact keeps_runCfg hP _ h
  · exact hP.frame h rfl rfl

theorem keeps_answerCfg {st : Status} {figures : List Byte} (h : P b s) : P b (answerCfg st figures s) := by
  unfold answerCfg
  split
  · exact keeps_runCfg hP _ (keeps_sendLink hP h)
  · exact h

theorem keeps_setMerchantRead {tag m cls group : Nat} (h : P b s) : P b (setMerchantRead tag m cls group s) := by
  unfold setMerchantRead
  split
  · exact keeps_answerCfg hP (hP.fault h)
  · exact keeps_answerCfg hP h
  · exact hP.access h rfl

theorem keeps_execSetMerchantReadDone (h : P true s) : NextKeeps P (execSetMerchantReadDone s) := by
  unfold execSetMerchantReadDone
  split
  · next hs => exact keeps_complete hP (keeps_setMerchantRead hP) h hs
  · exact nextKeeps_next h

theorem keeps_execSetMerchantWriteDone (h : P true s) : NextKeeps P (execSetMerchantWriteDone s) := by
  unfold execSetMerchantWriteDone
  split
  · next tag m before r hs =>
    refine keeps_complete hP (fun h => keeps_answerCfg hP ?_) h hs
    have hstored := keeps_storeOp hP (.setMerchantWrite tag m before r) h
    exact hP.frame hstored (by simp) (by simp [lawTables])
  · exact nextKeeps_next h

/-- A failed write of a configuration record, or of SET-MERCHANT's record, loads nothing (R5, R72, R73, R173). -/
theorem keeps_execConfigWriteFails (left : Residue) (h : P true s) : NextKeeps P (execConfigWriteFails left s) := by
  unfold execConfigWriteFails
  split
  · next hs => exact keeps_complete hP (fun h => keeps_answerCfg hP (hP.fault (keeps_leaveOp hP _ _ h))) h hs
  · next hs => exact keeps_complete hP (fun h => keeps_answerCfg hP (hP.fault (keeps_leaveOp hP _ _ h))) h hs
  · exact nextKeeps_next h

/-! ### The completions of setup's accesses -/

section Setup
variable (hl : LinesFree P)
include hl

omit hP in
theorem keeps_loadItem (i : ConfigItem) (h : P b s) : P b (loadItem i s) := by
  cases i <;> exact hl h rfl

theorem keeps_itemWritten (i : ConfigItem) (h : P b s) : P b (itemWritten i s) :=
  keeps_answerCfg hP (keeps_loadItem hl i (keeps_storeOp hP _ h))

theorem keeps_startupConfig {k : Nat} (h : P b s) : P b (startupConfig k s) := by
  have hload : P b (loadConfig k s) := by
    unfold loadConfig
    split
    · exact keeps_loadItem hl _ h
    · exact keeps_raise hP h
  unfold startupConfig
  dsimp only
  split
  · exact hP.access (hP.frame hload rfl rfl) rfl
  · exact hP.access (hP.frame hload rfl rfl) rfl

theorem keeps_formatDoneFault {job : FormatJob} (h : P b s) : P b (formatDoneFault job s) := by
  have hfresh : P b (freshBooks job s) := hl h rfl
  unfold formatDoneFault
  exact hP.frame hfresh (by simp) (by simp [lawTables])

theorem keeps_formatWritten {job : FormatJob} (h : P b s) : P b (formatWritten job s) := by
  unfold formatWritten
  dsimp only
  split
  · exact keeps_issueFormat hP h
  split
  · exact keeps_issueFormat hP h
  split
  · exact keeps_answerCfg hP (hl h rfl)
  · exact keeps_formatDoneFault hP hl h

theorem keeps_formatFailed {job : FormatJob} (h : P b s) : P b (formatFailed job s) :=
  keeps_answerCfg hP (hl (hP.fault h) rfl)

end Setup

section Setup
variable (hsetup : LinesFree P ∨ SetupFree s)
include hsetup

theorem keeps_execStartupConfigReadDone (h : P true s) : NextKeeps P (execStartupConfigReadDone s) := by
  unfold execStartupConfigReadDone
  split
  · next k hs =>
    rcases hsetup with hl | ⟨hread, -, -⟩
    · exact keeps_complete hP (keeps_startupConfig hP hl) h hs
    · exact absurd hs (hread k)
  · exact nextKeeps_next h

theorem keeps_execProgrammeWriteDone (h : P true s) : NextKeeps P (execProgrammeWriteDone s) := by
  unfold execProgrammeWriteDone
  split
  · next hs =>
    rcases hsetup with hl | ⟨-, hwrite, -⟩
    · exact keeps_complete hP (keeps_itemWritten hP hl _) h hs
    · exact absurd hs (hwrite _)
  · exact nextKeeps_next h

theorem keeps_execTariffWriteDone (h : P true s) : NextKeeps P (execTariffWriteDone s) := by
  unfold execTariffWriteDone
  split
  · next hs =>
    rcases hsetup with hl | ⟨-, hwrite, -⟩
    · exact keeps_complete hP (keeps_itemWritten hP hl _) h hs
    · exact absurd hs (hwrite _)
  · exact nextKeeps_next h

theorem keeps_execLineConfigWriteDone (h : P true s) : NextKeeps P (execLineConfigWriteDone s) := by
  unfold execLineConfigWriteDone
  split
  · next hs =>
    rcases hsetup with hl | ⟨-, hwrite, -⟩
    · exact keeps_complete hP (keeps_itemWritten hP hl _) h hs
    · exact absurd hs (hwrite _)
  · next hs =>
    rcases hsetup with hl | ⟨-, hwrite, -⟩
    · exact keeps_complete hP (keeps_itemWritten hP hl _) h hs
    · exact absurd hs (hwrite _)
  · exact nextKeeps_next h

theorem keeps_execFormatWriteDone (h : P true s) : NextKeeps P (execFormatWriteDone s) := by
  unfold execFormatWriteDone
  split
  · next hs =>
    rcases hsetup with hl | ⟨-, -, hformat⟩
    · refine keeps_complete hP (fun h => ?_) h hs
      unfold formatArrives
      split
      · exact keeps_formatWritten hP hl (keeps_storeOp hP _ h)
      · exact keeps_storeOp hP _ h
    · exact absurd hs (hformat _ _ _ _)
  · exact nextKeeps_next h

theorem keeps_execFormatWriteFails (left : Residue) (h : P true s) : NextKeeps P (execFormatWriteFails left s) := by
  unfold execFormatWriteFails
  split
  · next hs =>
    rcases hsetup with hl | ⟨-, -, hformat⟩
    · refine keeps_complete hP (fun h => ?_) h hs
      unfold formatStops
      split
      · exact keeps_formatFailed hP hl (keeps_leaveOp hP _ _ h)
      · exact keeps_leaveOp hP _ _ h
    · exact absurd hs (hformat _ _ _ _)
  · exact nextKeeps_next h

end Setup

/-! ### The frames of the link that reach no card -/

theorem keeps_rejectFrame {reason : Nat} (h : P true s) : P true (rejectFrame reason s) :=
  keeps_sendUntagged hP (hP.frame h rfl rfl)

theorem keeps_takeRejected {bytes : List Byte} (h : P true s) : P true (takeRejected bytes s) := by
  unfold takeRejected
  split
  · exact h
  split
  · exact keeps_rejectFrame hP h
  · exact h

theorem keeps_takeGap {bytes : List Byte} (h : P true s) : P true (takeGap bytes s) := by
  unfold takeGap
  split
  · exact h
  split
  · exact keeps_rejectFrame hP h
  · exact h

theorem keeps_takeRestart {tag : Nat} (h : P true s) : P true (takeRestart tag s) :=
  hP.frame h (by simp [takeRestart]) (by simp [takeRestart, lawTables])

theorem keeps_hostAdmin (k : AdminKind) {tag : Byte} {body : List Byte} (h : P true s) :
    NextKeeps P (.next (hostAdmin k tag body s)) := keeps_hostRequest hP (fun _ _ _ hu => hP.record hu rfl) h

theorem keeps_hostItem {kind : Nat} {fields : List Byte → Option ConfigItem} {tag : Byte} {body : List Byte} (h : P true s) :
    NextKeeps P (.next (hostItem kind fields tag body s)) := keeps_hostRequest hP (fun _ _ _ hu => keeps_takeCfg hP hu) h

end Books

/-! ### The commands of the books -/

/-- The commands that reach no card lock, no hold, no station and no reset. -/
def ofBooks : Instr → Bool
  | .reset _ _ _ | .replyFrameSent _ => false
  | .activate _ _ | .load _ _ | .hold _ _ | .release _ _ | .balance _ _ | .capture _ _ | .redeem _ _ | .void _ _ | .refund _ _
  | .cashOut _ _ | .block _ _ | .unblock _ _ => false
  | .holdExpiry _ _ | .holdEntry _ | .holdClaim _ | .cardReadDone | .cardWriteDone | .cardWriteFails _ => false
  | .appendWriteDone | .appendWriteFails _ => false
  | .enableStation _ _ | .disableStation _ _ | .clearStationCounts _ _ => false
  | .offerStart _ | .offerSent _ | .emptyRoundWaitExpiry _ | .broadcastStart _ | .broadcastSent _ => false
  | .goodAnswer _ _ | .answerWindowExpiry _ | .answerGapExpiry _ | .badAnswer _ _ => false
  | _ => true

/-- A law of the books is kept by every command of the books, but for the completions of setup's accesses where it speaks of
the lines. -/
theorem exec_keeps_of_books {P : Bool → State → Prop} (hP : BooksLaw P) {c : Instr} {s : State} (hc : ofBooks c = true)
    (hsetup : LinesFree P ∨ SetupFree s) (h : P true s) : NextKeeps P (exec c s) := by
  cases c with
  | frameRejected bytes => exact nextKeeps_next (keeps_takeRejected hP h)
  | receiveGapExpiry bytes => exact nextKeeps_next (keeps_takeGap hP h)
  | suspendMerchant tag body => exact keeps_hostAdmin hP .suspend h
  | resumeMerchant tag body => exact keeps_hostAdmin hP .resume h
  | closeMerchant tag body => exact keeps_hostAdmin hP .close h
  | cutoff tag body => exact keeps_hostRequest hP (fun _ _ _ hu => hP.record hu rfl) h
  | takeAdvice tag body => exact keeps_hostRequest hP (fun _ _ _ hu => keeps_takeAdvice hP hu) h
  | readPayout tag body => exact keeps_hostRequest hP (fun _ _ _ hu => keeps_readPayoutEntry hP hu) h
  | rewindPayout tag body => exact keeps_hostRequest hP (fun _ _ _ hu => keeps_sendLink hP (hP.frame hu rfl rfl)) h
  | releasePayout tag body => exact keeps_hostRequest hP (fun _ _ _ hu => keeps_releaseList hP hu) h
  | readTotals tag body => exact keeps_hostRequest hP (fun _ _ _ hu => hP.access hu rfl) h
  | merchantStatus tag body => exact keeps_hostRequest hP (fun _ _ _ hu => hP.access hu rfl) h
  | startSweep tag body => exact keeps_hostRequest hP (fun _ _ _ hu => keeps_startSweep hP hu) h
  | stopSweep tag body => exact keeps_hostRequest hP (fun _ _ _ hu => keeps_stopSweep hP hu) h
  | lineStatus tag body => exact keeps_hostRequest hP (fun _ _ _ hu => keeps_sendLink hP hu) h
  | partStatus tag body => exact keeps_hostRequest hP (fun _ _ _ hu => keeps_sendLink hP hu) h
  | takeNotices tag body => exact keeps_hostRequest hP (fun _ _ _ hu => keeps_sendLink hP (hP.frame hu rfl rfl)) h
  | restart tag body => exact keeps_hostRequest hP (fun _ _ _ hu => keeps_takeRestart hP hu) h
  | setTime tag body => exact keeps_hostRequest hP (fun _ _ _ hu => keeps_sendLink hP (hP.frame hu rfl rfl)) h
  | format tag body => exact keeps_hostRequest hP (fun _ _ _ hu => keeps_takeCfg hP hu) h
  | setProgramme tag body => exact keeps_hostItem hP h
  | setTariff tag body => exact keeps_hostItem hP h
  | setMerchant tag body => exact keeps_hostRequest hP (fun _ _ _ hu => keeps_takeCfg hP hu) h
  | setStation tag body => exact keeps_hostItem hP h
  | setLine tag body => exact keeps_hostItem hP h
  | openService tag body => exact keeps_hostRequest hP (fun _ _ _ hu => keeps_takeCfg hP hu) h
  | secondsTick => exact nextKeeps_next (hP.frame h rfl rfl)
  | appendIssue => exact nextKeeps_next (hP.due h)
  | accrualStart => exact keeps_execAccrualStart hP h
  | accrualMerchantReadDone => exact keeps_execAccrualMerchantReadDone hP h
  | accrualMerchantWriteDone failed => exact keeps_execAccrualMerchantWriteDone hP failed h
  | totalsWriteDone => exact keeps_execTotalsWriteDone hP h
  | totalsWriteFails left => exact keeps_execTotalsWriteFails hP left h
  | commitMarkDone => exact keeps_execCommitMarkDone hP h
  | commitMarkFails left => exact keeps_execCommitMarkFails hP left h
  | closeWalkStart => exact keeps_execCloseWalkStart hP h
  | walkMerchantReadDone => exact keeps_execWalkMerchantReadDone hP h
  | walkMerchantWriteDone => exact keeps_execWalkMerchantWriteDone hP h
  | walkMerchantWriteFails left => exact keeps_execWalkMerchantWriteFails hP left h
  | adviceReadDone => exact keeps_execAdviceReadDone hP h
  | merchantStatusReadDone => exact keeps_execMerchantStatusReadDone hP h
  | readTotalsReadDone => exact keeps_execReadTotalsReadDone hP h
  | programmeWriteDone => exact keeps_execProgrammeWriteDone hP hsetup h
  | tariffWriteDone => exact keeps_execTariffWriteDone hP hsetup h
  | setMerchantReadDone => exact keeps_execSetMerchantReadDone hP h
  | setMerchantWriteDone => exact keeps_execSetMerchantWriteDone hP h
  | lineConfigWriteDone => exact keeps_execLineConfigWriteDone hP hsetup h
  | configWriteFails left => exact keeps_execConfigWriteFails hP left h
  | formatWriteDone => exact keeps_execFormatWriteDone hP hsetup h
  | formatWriteFails left => exact keeps_execFormatWriteFails hP hsetup left h
  | sweepReadDone => exact keeps_execSweepReadDone hP h
  | rebuildReadDone => exact keeps_execRebuildReadDone hP h
  | startupTotalsReadDone => exact keeps_execStartupTotalsReadDone hP h
  | startupConfigReadDone => exact keeps_execStartupConfigReadDone hP hsetup h
  | journalScanReadDone => exact keeps_execJournalScanReadDone hP h
  | recoveryCardReadDone => exact keeps_execRecoveryCardReadDone hP h
  | recoveryCardWriteDone failed => exact keeps_execRecoveryCardWriteDone hP failed h
  | admissionLoadReadDone => exact keeps_execAdmissionLoadReadDone hP h
  | noRequestKindFrame kind tag body =>
    simp only [exec, execNoRequestKindFrame]
    split
    · exact nextKeeps_next h
    · exact keeps_hostRequest hP (fun _ _ _ hu => hu) h
  | _ => cases hc

end Sys2Proof.Machine
end

section
/-! PROOF. The station law of R143 (O6): the commands of the books carry it, and each command of the cards, of the stations and
of the till lines keeps it. -/

namespace Sys2Proof.Machine
open Sys2Proof Sys2Proof.Safety

/-! ### The station law as a law of the books -/

/-- The station law, the access in service counted or not. -/
def StationsLaw (b : Bool) (s : State) : Prop := StationsKept b [] none s

theorem stationsLaw_iff {s : State} : StationsLaw true s ↔ StationsOk s := stationsKept_iff s

theorem stationsLaw_ofBooks : BooksLaw StationsLaw where
  frame := fun h hlines htables => by
    simp only [lawTables, Prod.mk.injEq] at htables
    obtain ⟨hserving, hwaiting, hqueue, hlocks, -, -⟩ := htables
    exact StationsKept.congr h hserving hwaiting hqueue hlocks hlines
  begun := fun h hs => StationsKept.weak h (by simp [hs])
  access := StationsKept.issue
  fault := StationsKept.enterFault
  record := StationsKept.joinOther
  due := fun h => StationsKept.issueDue h (.inl rfl)
  port := StationsKept.portNext
  opened := StationsKept.openPart
  walked := StationsKept.finishWalk

section Stations
variable {s : State}

/-! ### Reset -/

theorem resetWith_lock (cause : ResetCause) (straps : BitVec 2) (mem : List Host.Cell) (pending : List Instr) (k : Nat) :
    (resetWith cause straps mem pending).lock k = none := vget_replicate

theorem resetWith_line (cause : ResetCause) (straps : BitVec 2) (mem : List Host.Cell) (pending : List Instr) (n : Nat) :
    (resetWith cause straps mem pending).line n = lineReset := vget_replicate

theorem resetWith_station (cause : ResetCause) (straps : BitVec 2) (mem : List Host.Cell) (pending : List Instr) (n e : Nat) :
    (resetWith cause straps mem pending).station n e = stationReset := by
  rw [State.station, resetWith_line]; exact vget_replicate

/-- Every reset state is under the station law: no lock is held, no station has a request, no line offers. -/
theorem stationsOk_resetWith (cause : ResetCause) (straps : BitVec 2) (mem : List Host.Cell) (pending : List Instr) :
    StationsOk (resetWith cause straps mem pending) := by
  have htickets : tickets (resetWith cause straps mem pending) = [] := rfl
  refine ⟨by simp [htickets], by simp [htickets], ?_, ?_, ?_, ?_⟩
  · intro k l hl; cases (resetWith_lock ..).symm.trans hl
  · intro k k' l l' _ hl; cases (resetWith_lock ..).symm.trans hl
  · intro n e hheld; exact absurd (by rw [resetWith_station]; rfl) hheld
  · intro n e hoffered; rw [resetWith_line] at hoffered; cases hoffered

theorem stationsLaw_reset (cause : ResetCause) (straps : BitVec 2) (left : Residue) :
    StationsLaw true (resetPart cause straps left s) := stationsLaw_iff.mpr (stationsOk_resetWith ..)

theorem stationsLaw_frameSent (left : Residue) (h : StationsLaw true s) : StationsLaw true (frameSent left s) := by
  unfold frameSent
  split
  · exact h
  split
  · exact stationsLaw_reset ..
  · exact stationsLaw_ofBooks.frame h rfl rfl

/-! ### Card requests and card accesses -/

/-- A card request of the link brings no station's request inside (R21, R143). -/
theorem stationsLaw_hostCard (k : CardKind) (tag : Byte) (body : List Byte) (h : StationsLaw true s) :
    NextKeeps StationsLaw (.next (hostCard k tag body s)) := by
  refine keeps_hostRequest stationsLaw_ofBooks (fun req u hf hu => StationsKept.takeCardRequest hu fun p hp => ?_) h
  rw [asker, (cardRequest_kind_origin hf).2] at hp
  cases hp

theorem stationsLaw_execCardReadDone (h : StationsLaw true s) : NextKeeps StationsLaw (execCardReadDone s) := by
  unfold execCardReadDone
  split
  · next k slot hs =>
    split
    · exact nextKeeps_next (StationsKept.cardRead h hs).complete
    · exact nextKeeps_fault _
  · exact nextKeeps_next h

theorem stationsLaw_execCardWriteDone (h : StationsLaw true s) : NextKeeps StationsLaw (execCardWriteDone s) := by
  unfold execCardWriteDone
  split
  · next hs => exact nextKeeps_next (StationsKept.cardWritten h hs).complete
  · exact nextKeeps_next h

theorem stationsLaw_execCardWriteFails (left : Residue) (h : StationsLaw true s) :
    NextKeeps StationsLaw (execCardWriteFails left s) := by
  unfold execCardWriteFails
  split
  · next hs => exact nextKeeps_next (StationsKept.cardWriteFailed h hs).complete
  · exact nextKeeps_next h

theorem stationsLaw_execAppendWriteDone (h : StationsLaw true s) : NextKeeps StationsLaw (execAppendWriteDone s) := by
  unfold execAppendWriteDone
  split
  · next hs => exact nextKeeps_next (StationsKept.appendWritten h hs).complete
  · exact nextKeeps_next h

theorem stationsLaw_execAppendWriteFails (left : Residue) (h : StationsLaw true s) :
    NextKeeps StationsLaw (execAppendWriteFails left s) := by
  unfold execAppendWriteFails
  split
  · next hs => exact nextKeeps_next (StationsKept.appendFailed h hs).complete
  · exact nextKeeps_next h

/-- A hold that expires leaves the stations alone (R36). -/
theorem stationsLaw_expireHold {epoch serial : Nat} (h : StationsLaw true s) : StationsLaw true (expireHold epoch serial s) := by
  unfold expireHold
  split
  · split
    · exact StationsKept.congr h rfl rfl rfl rfl rfl
    · exact h
  · exact h

/-! ### Station administration (R154) -/

/-- An entry whose counters or health change keeps its request flag and its held reply. -/
theorem stationsLaw_setStation {n e : Nat} {x : Station} (h : StationsLaw true s)
    (hflag : x.outstanding = (s.station n e).outstanding) (hheld : x.held = (s.station n e).held) :
    StationsLaw true (s.setStation n e x) := by
  refine StationsKept.station h ?_ ?_ ?_
  · rw [hflag, hheld]; exact StationsKept.kept h n e
  · rw [hflag, hheld]; exact fun k l hl hp => StationsKept.flag h k l hl _ hp
  · rw [hheld]; exact fun hending hoffered => (StationsKept.offer h n e hoffered).2 hending

theorem stationsLaw_enableStation {tag : Nat} {p : Nat × Nat} (h : StationsLaw true s) :
    StationsLaw true (enableStation tag p s) := by
  unfold enableStation
  dsimp only
  split
  · split
    · exact keeps_sendLink stationsLaw_ofBooks h
    split
    · exact keeps_sendLink stationsLaw_ofBooks h
    · exact keeps_sendLink stationsLaw_ofBooks (stationsLaw_setStation h rfl rfl)
  · exact keeps_sendLink stationsLaw_ofBooks h

/-! ### The lines' own events (R146, R147, R153) -/

/-- A line that goes on with its offer and comes to deliver no other reply keeps the law. -/
theorem stationsLaw_setLine {n : Fin 4} {x : Line} (h : StationsLaw true s) (hstations : x.stations = (s.line n).stations)
    (hoffered : x.offered = (s.line n).offered)
    (hdelivers : x.state = .delivering → (s.line n).state = .delivering ∧ x.dropAnswer = (s.line n).dropAnswer) :
    StationsLaw true (s.setLine n x) := by
  refine StationsKept.setLine h n.isLt hstations (fun _ _ h => h) fun e he => ?_
  obtain ⟨hin, hreply⟩ := StationsKept.offer h n e (hoffered ▸ he)
  refine ⟨hin, fun hending hstate hdrop => ?_⟩
  obtain ⟨hbefore, hkept⟩ := hdelivers hstate
  exact hreply hending hbefore (hkept ▸ hdrop)

theorem stationsLaw_offerStart (n : Fin 4) (h : StationsLaw true s) : NextKeeps StationsLaw (execOfferStart n s) := by
  refine nextKeeps_next ?_
  split
  · next hmay => exact StationsKept.offerStart h n.isLt hmay
  · exact h

theorem stationsLaw_offerSent (n : Fin 4) (h : StationsLaw true s) : NextKeeps StationsLaw (execOfferSent n s) := by
  refine nextKeeps_next (stationsLaw_setLine h ?_ ?_ ?_) <;> unfold offerSent <;> split <;> simp

theorem stationsLaw_endEmptyRound (n : Fin 4) (h : StationsLaw true s) : NextKeeps StationsLaw (execEmptyRoundWaitExpiry n s) := by
  refine nextKeeps_next (stationsLaw_setLine h ?_ ?_ ?_) <;> unfold endEmptyRound newRound <;> split <;> simp

theorem stationsLaw_startBroadcast (n : Fin 4) (h : StationsLaw true s) : NextKeeps StationsLaw (execBroadcastStart n s) := by
  refine nextKeeps_next ?_
  unfold startBroadcast
  split
  · exact stationsLaw_setLine h rfl rfl fun hd => ⟨hd, rfl⟩
  split
  · exact stationsLaw_setLine h rfl rfl nofun
  · exact stationsLaw_setLine h rfl rfl nofun
  · exact stationsLaw_setLine h rfl rfl fun hd => ⟨hd, rfl⟩

theorem stationsLaw_broadcastSent (n : Fin 4) (h : StationsLaw true s) : NextKeeps StationsLaw (execBroadcastSent n s) := by
  refine nextKeeps_next ?_
  unfold broadcastSent
  split
  · exact stationsLaw_setLine h rfl rfl nofun
  · exact stationsLaw_setLine h rfl rfl fun hd => ⟨hd, rfl⟩

/-- An offer that ends without a good answer (R149, R150). -/
theorem stationsLaw_closeOffer (n : Fin 4) (e : Nat) {outcome : State → State} (h : StationsLaw true s)
    (houtcome : ∀ u, StationsKept true [] (some n.val) u → StationsKept true [] (some n.val) (outcome u)) :
    StationsLaw true (closeOffer n e outcome s) :=
  StationsKept.closeOffer h n.isLt fun _ => houtcome _ (StationsKept.openOffer h n rfl)

theorem stationsLaw_answerWindowExpiry (n : Fin 4) (h : StationsLaw true s) :
    NextKeeps StationsLaw (execAnswerWindowExpiry n s) := by
  refine nextKeeps_next ?_
  split
  · exact stationsLaw_closeOffer n _ h fun _ hu => hu.applyMiss
  · exact h

theorem stationsLaw_answerGapExpiry (n : Fin 4) (h : StationsLaw true s) : NextKeeps StationsLaw (execAnswerGapExpiry n s) := by
  refine nextKeeps_next ?_
  split
  · exact stationsLaw_closeOffer n _ h fun _ hu => hu.applyBad
  · exact h

theorem stationsLaw_badAnswer (n : Fin 4) (frame : List Byte) (h : StationsLaw true s) :
    NextKeeps StationsLaw (execBadAnswer n frame s) := by
  refine nextKeeps_next ?_
  unfold badAnswer
  split
  · split
    · exact stationsLaw_closeOffer n _ h fun _ hu => hu.applyBad
    · exact h
  · exact h

/-! ### Every command -/

/-- Every command keeps the station law, but for the completions of setup's accesses (R143). -/
theorem exec_keeps_stations {c : Instr} (hsetup : SetupFree s) (h : StationsLaw true s) : NextKeeps StationsLaw (exec c s) := by
  have hP := stationsLaw_ofBooks
  cases c with
  | reset cause straps left => exact nextKeeps_next (stationsLaw_reset ..)
  | replyFrameSent left => exact nextKeeps_next (stationsLaw_frameSent left h)
  | activate tag body => exact stationsLaw_hostCard .activate tag body h
  | load tag body => exact stationsLaw_hostCard .load tag body h
  | hold tag body => exact stationsLaw_hostCard .hold tag body h
  | release tag body => exact stationsLaw_hostCard .release tag body h
  | balance tag body => exact stationsLaw_hostCard .balance tag body h
  | capture tag body => exact stationsLaw_hostCard .capture tag body h
  | redeem tag body => exact stationsLaw_hostCard .redeem tag body h
  | void tag body => exact stationsLaw_hostCard .void tag body h
  | refund tag body => exact stationsLaw_hostCard .refund tag body h
  | cashOut tag body => exact stationsLaw_hostCard .cashOut tag body h
  | block tag body => exact stationsLaw_hostCard .block tag body h
  | unblock tag body => exact stationsLaw_hostCard .unblock tag body h
  | enableStation tag body => exact keeps_hostRequest hP (fun _ _ _ hu => stationsLaw_enableStation hu) h
  | disableStation tag body => exact keeps_hostRequest hP (fun _ _ _ hu => StationsKept.disable hu) h
  | clearStationCounts tag body =>
    exact keeps_hostRequest hP (fun _ _ _ hu => keeps_sendLink hP (stationsLaw_setStation hu rfl rfl)) h
  | holdExpiry epoch serial => exact nextKeeps_next (stationsLaw_expireHold h)
  | holdEntry lock => exact nextKeeps_next (StationsKept.holdArrives h)
  | holdClaim lock => exact nextKeeps_next (StationsKept.claimArrives h)
  | cardReadDone => exact stationsLaw_execCardReadDone h
  | appendWriteDone => exact stationsLaw_execAppendWriteDone h
  | appendWriteFails left => exact stationsLaw_execAppendWriteFails left h
  | cardWriteDone => exact stationsLaw_execCardWriteDone h
  | cardWriteFails left => exact stationsLaw_execCardWriteFails left h
  | offerStart n => exact stationsLaw_offerStart n h
  | broadcastStart n => exact stationsLaw_startBroadcast n h
  | emptyRoundWaitExpiry n => exact stationsLaw_endEmptyRound n h
  | offerSent n => exact stationsLaw_offerSent n h
  | broadcastSent n => exact stationsLaw_broadcastSent n h
  | goodAnswer n frame => exact nextKeeps_next (StationsKept.goodAnswer h n.isLt)
  | answerWindowExpiry n => exact stationsLaw_answerWindowExpiry n h
  | answerGapExpiry n => exact stationsLaw_answerGapExpiry n h
  | badAnswer n frame => exact stationsLaw_badAnswer n frame h
  | _ => exact exec_keeps_of_books hP rfl (.inr hsetup) h

end Stations

/-- One step under the station law (R143). -/
theorem step_keeps_stations {s t : State} (h : StationsOk s) (hsetup : SetupFree s) (ht : step s = .next t) : StationsOk t := by
  have hlaw := stationsLaw_iff.mpr h
  unfold step at ht
  split at ht
  · cases ht; exact h
  · next c rest _ =>
    refine stationsLaw_iff.mp (exec_keeps_stations (s := { s with pending := rest }) hsetup ?_ t ht)
    exact stationsLaw_ofBooks.frame hlaw rfl rfl

end Sys2Proof.Machine
end

section
/-! PROOF. What a command can do to the lock table and to the Hold Table (O6, O7): a run of nine kinds of table steps. The laws
of R20, R27 and R28 then follow from the steps alone. -/

namespace Sys2Proof.Machine
open Sys2Proof Sys2Proof.Safety

/-! ### The serial of a new hold (R28) -/

/-- The serial `i` steps after `n`, stepping from 65,535 to 1 (R28). -/
def serialFrom (n i : Nat) : Nat := (n - 1 + i) % 65535 + 1

theorem serialFrom_zero {n : Nat} (h1 : 1 ≤ n) (h2 : n ≤ 65535) : serialFrom n 0 = n := by
  rw [serialFrom]; omega

theorem serialFrom_next {n i : Nat} (h1 : 1 ≤ n) (h2 : n ≤ 65535) :
    serialFrom (if n = 65535 then 1 else n + 1) i = serialFrom n (i + 1) := by
  unfold serialFrom
  split <;> omega

/-- The search stops at the first free serial, or when its tries are used up (R28). -/
theorem freeSerial_search (used : List Nat) (fuel : Nat) {n : Nat} (h1 : 1 ≤ n) (h2 : n ≤ 65535) :
    ∃ i ≤ fuel, freeSerial used fuel n = serialFrom n i ∧ (∀ j, j < i → serialFrom n j ∈ used)
      ∧ (i < fuel → serialFrom n i ∉ used) := by
  induction fuel generalizing n with
  | zero => exact ⟨0, le_rfl, (serialFrom_zero h1 h2).symm, by omega, by omega⟩
  | succ fuel ih =>
    by_cases hused : n ∈ used
    · obtain ⟨i, hi, hfound, hbefore, hfree⟩ :=
        ih (n := if n = 65535 then 1 else n + 1) (by split <;> omega) (by split <;> omega)
      rw [serialFrom_next h1 h2] at hfound
      refine ⟨i + 1, by omega, by simpa [freeSerial, hused] using hfound, fun j hj => ?_, fun hlt => ?_⟩
      · cases j with
        | zero => rwa [serialFrom_zero h1 h2]
        | succ j => rw [← serialFrom_next h1 h2]; exact hbefore j (by omega)
      · rw [← serialFrom_next h1 h2]; exact hfree (by omega)
    · refine ⟨0, by omega, ?_, by omega, fun _ => ?_⟩
      · simp [freeSerial, hused, serialFrom_zero h1 h2]
      · rwa [serialFrom_zero h1 h2]

/-- Fewer than 512 serials in use leave one of 513 tries free. -/
theorem serialFrom_notAll {used : List Nat} (hroom : used.length < 512) (n : Nat) :
    ¬∀ j, j < 513 → serialFrom n j ∈ used := by
  intro hall
  have hdistinct : ((List.range 513).map (serialFrom n)).Nodup := by
    refine List.Nodup.map_on (fun i hi j hj heq => ?_) List.nodup_range
    rw [List.mem_range] at hi hj
    unfold serialFrom at heq
    omega
  have hsub : (List.range 513).map (serialFrom n) ⊆ used := fun x hx => by
    obtain ⟨j, hj, rfl⟩ := List.mem_map.mp hx
    exact hall j (List.mem_range.mp hj)
  have hlength := (hdistinct.subperm hsub).length_le
  rw [List.length_map, List.length_range] at hlength
  omega

/-- The serial given to a new hold is the first free one from the counter's on (R28). -/
theorem nextSerial_spec {s : State} (h1 : 1 ≤ s.ht.serial) (h2 : s.ht.serial ≤ 65535) (hroom : s.ht.holds.length < 512) :
    ∃ i, nextSerial s = serialFrom s.ht.serial i ∧ (∀ j, j < i → serialFrom s.ht.serial j ∈ s.ht.holds.map Hold.serial)
      ∧ nextSerial s ∉ s.ht.holds.map Hold.serial := by
  obtain ⟨i, hi, hfound, hbefore, hfree⟩ := freeSerial_search (s.ht.holds.map Hold.serial) 513 h1 h2
  have hlt : i < 513 := by
    refine lt_of_le_of_ne hi fun heq => ?_
    exact serialFrom_notAll (used := s.ht.holds.map Hold.serial) (by rwa [List.length_map]) s.ht.serial (heq ▸ hbefore)
  refine ⟨i, hfound, hbefore, ?_⟩
  rw [show nextSerial s = serialFrom s.ht.serial i from hfound]
  exact hfree hlt

/-! ### The table steps -/

/-- What the release of a lock makes of its slot: the oldest waiter's, or free (R24). -/
def passedOn (l : LockSlot) : Option LockSlot :=
  match l.waiters with
  | [] => none
  | w :: ws => some { card := w.card, owner := w, waiters := ws, doing := .reading }

/-- The Hold Table with a decided hold entered (R28, R31). -/
def withHold (req : CardReq) (p : HoldPlan) (s : State) : State :=
  { s with ht := { s.ht with
      holds := s.ht.holds ++ [newHold s req p]
      serial := if nextSerial s = 65535 then 1 else nextSerial s + 1 } }

/-- A step of the lock table or of the Hold Table. -/
inductive TableStep : State → State → Prop
  | same {s t : State} (hlocks : t.ce.locks = s.ce.locks) (hholds : t.ht.holds = s.ht.holds)
      (hserial : t.ht.serial = s.ht.serial) : TableStep s t
  | reset {s : State} (cause : ResetCause) (straps : BitVec 2) (mem : List Host.Cell) (pending : List Instr) :
      TableStep s (resetWith cause straps mem pending)
  | taken {s : State} {k : Nat} {req : CardReq} (hk : k < 16) (hother : ∀ j l, s.lock j = some l → l.card ≠ req.card) :
      TableStep s (s.setLock k (some { card := req.card, owner := req, waiters := [], doing := .reading }))
  | joined {s : State} {k : Nat} {l : LockSlot} {req : CardReq} (hl : s.lock k = some l) (hcard : l.card = req.card)
      (hroom : l.waiters.length < 6) : TableStep s (s.setLock k (some { l with waiters := l.waiters ++ [req] }))
  | passed {s : State} {k : Nat} {l : LockSlot} (hl : s.lock k = some l) : TableStep s (s.setLock k (passedOn l))
  | decided {s : State} {k : Nat} {l : LockSlot} {d : Deciding} (hl : s.lock k = some l)
      (hroom : ∀ p, d = .entering p → (s.chain l.owner.card l.owner.slot).length < 4) :
      TableStep s (s.setLock k (some { l with doing := d }))
  | dropped {s : State} (keep : Hold → Bool) : TableStep s (s.setHolds (s.ht.holds.filter keep))
  | marked {s : State} (which : Hold → Bool) (st : HoldState) :
      TableStep s (s.setHolds (s.ht.holds.map fun h => if which h then { h with state := st } else h))
  | entered {s : State} {k : Nat} {l : LockSlot} {p : HoldPlan} (hl : s.lock k = some l) (hd : l.doing = .entering p)
      (hroom : s.ht.holds.length < 512) : TableStep s ((withHold l.owner p s).setLock k (passedOn l))

/-- Any number of table steps. -/
abbrev TableRun : State → State → Prop := Relation.ReflTransGen TableStep

/-! ### The lock table's law (R20, R21) -/

section Locks
variable {s t : State} {k : Nat} {l : LockSlot} {x : Option LockSlot}

/-- A slot's owner and its waiters are requests for its card, 6 waiters at most. -/
def SlotOk (l : LockSlot) : Prop := l.owner.card = l.card ∧ l.waiters.length ≤ 6 ∧ ∀ w ∈ l.waiters, w.card = l.card

theorem locksOk_slot (h : LocksOk s) (hl : s.lock k = some l) : SlotOk l := h.1 k l (lock_inside hl) hl

/-- Two slots that lock one card are one. -/
theorem locksOk_apart (h : LocksOk s) {j : Nat} {m : LockSlot} (hl : s.lock k = some l) (hm : s.lock j = some m)
    (hcard : l.card = m.card) : k = j := h.2 k j l m (lock_inside hl) (lock_inside hm) hl hm hcard

theorem locksOk_congr (hlocks : t.ce.locks = s.ce.locks) (h : LocksOk s) : LocksOk t := by
  have hlock : ∀ k, t.lock k = s.lock k := fun k => by rw [State.lock, State.lock, hlocks]
  simpa only [LocksOk, hlock] using h

/-- One slot changes to one that fits its card, which stands in no other slot. -/
theorem locksOk_setLock (h : LocksOk s) (hk : k < 16)
    (hx : ∀ l, x = some l → SlotOk l ∧ ∀ j m, j ≠ k → s.lock j = some m → m.card ≠ l.card) : LocksOk (s.setLock k x) := by
  refine ⟨fun j l _ hl => ?_, fun i j l m _ _ hl hm hcard => ?_⟩
  · rw [lock_setLock hk] at hl
    split at hl
    · exact (hx l hl).1
    · exact locksOk_slot h hl
  · rw [lock_setLock hk] at hl hm
    split at hl
    · next hi =>
      split at hm
      · next hj => exact hi.trans hj.symm
      · next hj => exact absurd hcard.symm ((hx l hl).2 j m hj hm)
    · next hi =>
      split at hm
      · next hj => exact absurd hcard ((hx m hm).2 i l hi hl)
      · exact locksOk_apart h hl hm hcard

/-- A slot that keeps its card stands in no other slot's way. -/
theorem locksOk_others (h : LocksOk s) (hl : s.lock k = some l) :
    ∀ j m, j ≠ k → s.lock j = some m → m.card ≠ l.card := fun _ _ hj hm hcard => hj (locksOk_apart h hm hl hcard)

/-- The slot that a release leaves is for the same card. -/
theorem passedOn_ok (h : SlotOk l) {l' : LockSlot} (hp : passedOn l = some l') : SlotOk l' ∧ l'.card = l.card := by
  obtain ⟨_, hlength, hcards⟩ := h
  unfold passedOn at hp
  split at hp
  · cases hp
  · next w ws hw =>
    cases hp
    rw [hw] at hlength hcards
    have hcard : w.card = l.card := hcards w List.mem_cons_self
    refine ⟨⟨rfl, (Nat.le_succ _).trans hlength, fun v hv => ?_⟩, hcard⟩
    exact (hcards v (List.mem_cons_of_mem _ hv)).trans hcard.symm

theorem locksOk_passed (h : LocksOk s) (hl : s.lock k = some l) : LocksOk (s.setLock k (passedOn l)) := by
  refine locksOk_setLock h (lock_inside hl) fun l' hp => ?_
  obtain ⟨hok, hcard⟩ := passedOn_ok (locksOk_slot h hl) hp
  exact ⟨hok, hcard ▸ locksOk_others h hl⟩

/-- No lock is held in a reset state. -/
theorem locksOk_resetWith (cause : ResetCause) (straps : BitVec 2) (mem : List Host.Cell) (pending : List Instr) :
    LocksOk (resetWith cause straps mem pending) := by
  refine ⟨fun k l _ hl => ?_, fun k _ l _ _ _ hl => ?_⟩ <;> cases (resetWith_lock ..).symm.trans hl

theorem tableStep_locksOk (h : LocksOk s) (hstep : TableStep s t) : LocksOk t := by
  cases hstep with
  | same hlocks => exact locksOk_congr hlocks h
  | reset cause straps mem pending => exact locksOk_resetWith ..
  | taken hk hother =>
    refine locksOk_setLock h hk ?_
    rintro _ ⟨⟩
    exact ⟨⟨rfl, Nat.zero_le _, nofun⟩, fun j m _ hm => hother j m hm⟩
  | joined hl hcard hroom =>
    obtain ⟨howner, _, hcards⟩ := locksOk_slot h hl
    refine locksOk_setLock h (lock_inside hl) ?_
    rintro _ ⟨⟩
    refine ⟨⟨howner, ?_, fun w hw => ?_⟩, fun j m hj hm => locksOk_others h hl j m hj hm⟩
    · rw [List.length_append]; exact hroom
    · rcases List.mem_append.mp hw with hw | hw
      · exact hcards w hw
      · rw [List.mem_singleton.mp hw]; exact hcard.symm
  | passed hl => exact locksOk_passed h hl
  | decided hl _ =>
    refine locksOk_setLock h (lock_inside hl) ?_
    rintro _ ⟨⟩
    have hok := locksOk_slot h hl
    exact ⟨hok, fun j m hj hm => locksOk_others h hl j m hj hm⟩
  | dropped keep => exact h
  | marked which st => exact h
  | entered hl _ _ => exact locksOk_passed (s := withHold _ _ s) h hl

end Locks

/-! ### The Hold Table's law (R27, R28) -/

section Holds
variable {s t : State}

/-- A mark on holds changes no serial and no card. -/
theorem marked_serials (which : Hold → Bool) (st : HoldState) (hs : List Hold) :
    (hs.map fun h => if which h then { h with state := st } else h).map Hold.serial = hs.map Hold.serial := by
  rw [List.map_map]
  refine List.map_congr_left fun h _ => ?_
  rw [Function.comp_apply]
  split <;> rfl

/-- No hold stands in a reset state, and the serial counter is 1. -/
theorem holdsOk_resetWith (cause : ResetCause) (straps : BitVec 2) (mem : List Host.Cell) (pending : List Instr) :
    HoldsOk (resetWith cause straps mem pending) := ⟨Nat.zero_le _, List.nodup_nil, le_rfl, (by decide : 1 ≤ 65535)⟩

theorem tableStep_holdsOk (h : HoldsOk s) (hstep : TableStep s t) : HoldsOk t := by
  obtain ⟨hlength, hserials, hlow, hhigh⟩ := h
  cases hstep with
  | same _ hholds hserial => rw [HoldsOk, hholds, hserial]; exact ⟨hlength, hserials, hlow, hhigh⟩
  | reset cause straps mem pending => exact holdsOk_resetWith ..
  | taken _ _ => exact ⟨hlength, hserials, hlow, hhigh⟩
  | joined _ _ _ => exact ⟨hlength, hserials, hlow, hhigh⟩
  | passed _ => exact ⟨hlength, hserials, hlow, hhigh⟩
  | decided _ _ => exact ⟨hlength, hserials, hlow, hhigh⟩
  | dropped keep =>
    exact ⟨(List.length_filter_le ..).trans hlength, hserials.sublist (List.filter_sublist.map _), hlow, hhigh⟩
  | marked which st =>
    refine ⟨?_, ?_, hlow, hhigh⟩
    · exact (List.length_map _).trans_le hlength
    · exact (marked_serials which st s.ht.holds).symm ▸ hserials
  | @entered _ l p _ _ hroom =>
    obtain ⟨i, hserial, -, hfresh⟩ := nextSerial_spec hlow hhigh hroom
    have hbound : nextSerial s ≤ 65535 := by rw [hserial, serialFrom]; omega
    refine ⟨?_, ?_, ?_, ?_⟩
    · show (s.ht.holds ++ [newHold s l.owner p]).length ≤ 512
      rw [List.length_append]; exact hroom
    · show ((s.ht.holds ++ [newHold s l.owner p]).map Hold.serial).Nodup
      rw [List.map_append, List.nodup_append]
      refine ⟨hserials, List.nodup_singleton _, fun a ha b hb heq => hfresh ?_⟩
      rw [show nextSerial s = a from (heq.trans (List.mem_singleton.mp hb)).symm]
      exact ha
    · show 1 ≤ if nextSerial s = 65535 then 1 else nextSerial s + 1
      split <;> omega
    · show (if nextSerial s = 65535 then 1 else nextSerial s + 1) ≤ 65535
      split <;> omega

/-! ### The law of the chains (R27) -/

theorem chainsOk_congr (hlocks : t.ce.locks = s.ce.locks) (hholds : t.ht.holds = s.ht.holds) (h : ChainsOk s) : ChainsOk t := by
  have hlock : ∀ k, t.lock k = s.lock k := fun k => by rw [State.lock, State.lock, hlocks]
  have hchain : ∀ card slot, t.chain card slot = s.chain card slot := fun _ _ => by rw [State.chain, State.chain, hholds]
  simpa only [ChainsOk, hlock, hchain] using h

/-- Holds that leave no chain longer keep the law. -/
theorem chainsOk_setHolds {hs : List Hold} (h : ChainsOk s)
    (hle : ∀ card slot, ((s.setHolds hs).chain card slot).length ≤ (s.chain card slot).length) : ChainsOk (s.setHolds hs) :=
  ⟨fun card slot => (hle card slot).trans (h.1 card slot), fun k l p hl hp => (hle _ _).trans_lt (h.2 k l p hl hp)⟩

/-- A slot that changes owes the law its own decided hold alone. -/
theorem chainsOk_setLock {k : Nat} {x : Option LockSlot} (h : ChainsOk s) (hk : k < 16)
    (hx : ∀ l p, x = some l → l.doing = .entering p → (s.chain l.owner.card l.owner.slot).length < 4) :
    ChainsOk (s.setLock k x) := by
  refine ⟨h.1, fun j l p hl hp => ?_⟩
  rw [lock_setLock hk] at hl
  split at hl
  · exact hx l p hl hp
  · exact h.2 j l p hl hp

/-- The slot a release leaves has its card still to read. -/
theorem passedOn_reading {l l' : LockSlot} (hp : passedOn l = some l') : l'.doing = .reading := by
  unfold passedOn at hp
  split at hp <;> cases hp
  rfl

theorem marked_chain (which : Hold → Bool) (st : HoldState) (hs : List Hold) (card slot : Nat) :
    ((hs.map fun h => if which h then { h with state := st } else h).filter fun h => h.on card slot).length
      = (hs.filter fun h => h.on card slot).length := by
  rw [List.filter_map, List.length_map]
  congr 1
  refine List.filter_congr fun h _ => ?_
  rw [Function.comp_apply]
  split <;> rfl

/-- The chain after a hold is entered. -/
theorem withHold_chain (req : CardReq) (p : HoldPlan) (s : State) (card slot : Nat) : ((withHold req p s).chain card slot).length
    = (s.chain card slot).length + if req.card = card ∧ req.slot = slot then 1 else 0 := by
  show ((s.ht.holds ++ [newHold s req p]).filter fun h => h.on card slot).length = _
  rw [List.filter_append, List.length_append, State.chain]
  congr 1
  by_cases hon : req.card = card ∧ req.slot = slot
  · simp [Hold.on, newHold, hon]
  · rw [if_neg hon, List.filter_cons_of_neg]
    · rfl
    · simpa [Hold.on, newHold] using hon

/-- A decided hold that is entered was counted before, and its lock passes on (R27, R31). -/
theorem chainsOk_entered {k : Nat} {l : LockSlot} {p : HoldPlan} (hlocks : LocksOk s) (h : ChainsOk s) (hl : s.lock k = some l)
    (hd : l.doing = .entering p) : ChainsOk ((withHold l.owner p s).setLock k (passedOn l)) := by
  obtain ⟨hchains, hcounted⟩ := h
  refine ⟨fun card slot => ?_, fun j m q hm hq => ?_⟩
  · show ((withHold l.owner p s).chain card slot).length ≤ 4
    have hroom := hcounted k l p hl hd
    rw [withHold_chain]
    split
    · next hon => rw [← hon.1, ← hon.2]; exact hroom
    · exact hchains card slot
  · show ((withHold l.owner p s).chain m.owner.card m.owner.slot).length < 4
    rw [lock_setLock (lock_inside hl)] at hm
    split at hm
    · cases (passedOn_reading hm).symm.trans hq
    · next hj =>
      have hother : m.card ≠ l.card := locksOk_others hlocks hl j m hj hm
      have howner : l.owner.card ≠ m.owner.card := by
        rw [(locksOk_slot hlocks hl).1, (locksOk_slot hlocks hm).1]; exact hother.symm
      rw [withHold_chain, if_neg fun hon => howner hon.1]
      exact hcounted j m q hm hq

theorem chainsOk_resetWith (cause : ResetCause) (straps : BitVec 2) (mem : List Host.Cell) (pending : List Instr) :
    ChainsOk (resetWith cause straps mem pending) :=
  ⟨fun _ _ => Nat.zero_le _, fun k l p hl => by cases (resetWith_lock ..).symm.trans hl⟩

theorem tableStep_chainsOk (hlocks : LocksOk s) (h : ChainsOk s) (hstep : TableStep s t) : ChainsOk t := by
  cases hstep with
  | same hl hh _ => exact chainsOk_congr hl hh h
  | reset cause straps mem pending => exact chainsOk_resetWith ..
  | taken hk _ =>
    refine chainsOk_setLock h hk fun l p hx hp => ?_
    cases hx
    cases hp
  | @joined k l _ hl _ _ =>
    refine chainsOk_setLock h (lock_inside hl) fun l' p hx hp => ?_
    cases hx
    exact h.2 k l p hl hp
  | passed hl =>
    refine chainsOk_setLock h (lock_inside hl) fun l p hx hp => ?_
    cases (passedOn_reading hx).symm.trans hp
  | decided hl hroom =>
    refine chainsOk_setLock h (lock_inside hl) fun l p hx hp => ?_
    cases hx
    exact hroom p hp
  | dropped keep => exact chainsOk_setHolds h fun card slot => (List.filter_sublist.filter _).length_le
  | marked which st => exact chainsOk_setHolds h fun card slot => (marked_chain which st s.ht.holds card slot).le
  | entered hl hd _ => exact chainsOk_entered hlocks h hl hd

end Holds

/-! ### The laws along a run -/

section Runs
variable {s t : State}

theorem tableRun_locksOk (hrun : TableRun s t) (h : LocksOk s) : LocksOk t := by
  induction hrun with
  | refl => exact h
  | tail _ hstep ih => exact tableStep_locksOk ih hstep

theorem tableRun_holdsOk (hrun : TableRun s t) (h : HoldsOk s) : HoldsOk t := by
  induction hrun with
  | refl => exact h
  | tail _ hstep ih => exact tableStep_holdsOk ih hstep

theorem tableRun_chainsOk (hrun : TableRun s t) (hlocks : LocksOk s) (h : ChainsOk s) : ChainsOk t := by
  induction hrun with
  | refl => exact h
  | tail hbefore hstep ih => exact tableStep_chainsOk (tableRun_locksOk hbefore hlocks) ih hstep

end Runs

end Sys2Proof.Machine
end

section
/-! PROOF. Every command runs the lock table and the Hold Table by table steps alone (O6, O7). -/

namespace Sys2Proof.Machine
open Sys2Proof Sys2Proof.Safety

section Runs
variable {s t : State}

/-! ### The lock table's operations (R20 to R24) -/

theorem run_same (hlocks : t.ce.locks = s.ce.locks) (hholds : t.ht.holds = s.ht.holds) (hserial : t.ht.serial = s.ht.serial) :
    TableRun s t := .single (.same hlocks hholds hserial)

theorem run_sendReply (o : Origin) (r : Reply) (s : State) : TableRun s (sendReply o r s) :=
  run_same (by simp) (by simp) (by simp)

theorem run_issue (op : PortOp) (s : State) : TableRun s (issue op s) := run_same (by simp) (by simp) (by simp)

theorem passedOn_free {l : LockSlot} (hw : l.waiters = []) : passedOn l = none := by rw [passedOn, hw]

theorem passedOn_waiter {l : LockSlot} {w : CardReq} {ws : List CardReq} (hw : l.waiters = w :: ws) :
    passedOn l = some { card := w.card, owner := w, waiters := ws, doing := .reading } := by rw [passedOn, hw]

/-- A release passes the slot on, and leaves the holds alone (R24). -/
theorem releaseLock_tables {k : Nat} {l : LockSlot} (hl : s.lock k = some l) :
    (releaseLock k s).ce.locks = (s.setLock k (passedOn l)).ce.locks := by
  cases hw : l.waiters with
  | nil => rw [releaseLock_free hl hw, passedOn_free hw]
  | cons w ws => rw [releaseLock_grant hl hw, passedOn_waiter hw, grantLock, issue_ce]

theorem run_releaseLock (k : Nat) (s : State) : TableRun s (releaseLock k s) := by
  cases hl : s.lock k with
  | none => rw [releaseLock, hl]
  | some l =>
    exact .tail (.single (.passed hl)) (.same (releaseLock_tables hl) (by simp) (by simp))

theorem run_answerOwner (k : Nat) (req : CardReq) (r : Reply) (s : State) : TableRun s (answerOwner k req r s) :=
  (run_sendReply ..).trans (run_releaseLock ..)

/-- No slot that the search passed over locks the card (R21). -/
theorem lockOf_none {card : Nat} (h : lockOf s card = none) {j : Nat} {l : LockSlot} (hl : s.lock j = some l) : l.card ≠ card := by
  have hj := List.find?_eq_none.mp h j (List.mem_range.mpr (lock_inside hl))
  simpa [hl] using hj

theorem lockOf_some {card k : Nat} (h : lockOf s card = some k) : ∃ l, s.lock k = some l ∧ l.card = card := by
  have hk := List.find?_some h
  cases hl : s.lock k with
  | none => simp [hl] at hk
  | some l => exact ⟨l, rfl, by simpa [hl] using hk⟩

theorem freeLock_some {k : Nat} (h : freeLock s = some k) : k < 16 := by
  unfold freeLock findSlot at h
  exact List.mem_range.mp (List.mem_of_find?_eq_some h)

theorem run_seekLock (req : CardReq) (s : State) : TableRun s (seekLock req s) := by
  unfold seekLock
  split
  · next k hk =>
    obtain ⟨l, hl, hcard⟩ := lockOf_some hk
    rw [hl]
    dsimp only
    split
    · next hroom => exact .single (.joined hl hcard hroom)
    · exact run_sendReply ..
  · next hnone =>
    split
    · next k hk => exact .trans (.single (.taken (freeLock_some hk) fun _ _ => lockOf_none hnone)) (run_issue ..)
    · exact run_sendReply ..

theorem run_takeCardRequest (req : CardReq) (s : State) : TableRun s (takeCardRequest req s) := by
  unfold takeCardRequest
  split
  · exact run_sendReply ..
  · exact run_seekLock ..

theorem run_setDoing {k : Nat} {d : Deciding}
    (hroom : ∀ l p, s.lock k = some l → d = .entering p → (s.chain l.owner.card l.owner.slot).length < 4) :
    TableRun s (setDoing k d s) := by
  unfold setDoing
  split
  · next l hl => exact .single (.decided hl fun p hp => hroom l p hl hp)
  · exact .refl

/-! ### The append queue and the port (R116, R117) -/

theorem run_returnClaim (m : Movement) (s : State) : TableRun s (returnClaim m s) := by
  unfold returnClaim
  split
  · exact .single (.marked _ _)
  · exact .refl

theorem run_refuseItem (item : AppendItem) (st : Status) (reason : Nat) (extra : List Byte) (journal : Nat) (s : State) :
    TableRun s (refuseItem item st reason extra journal s) := by
  cases item with
  | movement k m => exact (run_returnClaim m s).trans (run_answerOwner ..)
  | admin tag k m => exact run_sendReply (.link tag) ..
  | cutoff tag => exact run_sendReply (.link tag) ..

theorem run_portLoop (fuel : Nat) (s : State) : TableRun s (portLoop fuel s) := by
  induction fuel generalizing s with
  | zero => exact run_same rfl rfl rfl
  | succ fuel ih =>
    have hqueue : TableRun s (queueAppend s) := run_same (by simp) (by simp) (by simp)
    refine hqueue.trans ?_
    simp only [portLoop]
    generalize queueAppend s = u
    split
    · exact run_same rfl rfl rfl
    · split
      · split
        · refine .trans ?_ (ih _)
          exact run_same rfl rfl rfl
        · split
          · exact run_same rfl rfl rfl
          · refine .trans (.trans ?_ (run_refuseItem ..)) (ih _)
            exact run_same rfl rfl rfl
      · exact run_same rfl rfl rfl

theorem run_portNext (n : Nat) (s : State) : TableRun s (portNext n s) := run_portLoop _ s

theorem run_issueDue (s : State) : TableRun s (issueDue s) := by
  unfold issueDue
  split
  · split
    · exact run_portNext 2 s
    · exact run_same (by simp) (by simp) (by simp)
  · exact .refl

theorem run_joinAppend (item : AppendItem) (s : State) : TableRun s (joinAppend item s) := by
  unfold joinAppend
  split
  · exact run_refuseItem ..
  · refine .trans ?_ (run_issueDue _)
    exact run_same rfl rfl rfl

/-! ### Store FAULT (R125, R126) -/

theorem run_foldl {α : Type} {f : State → α → State} (hf : ∀ u a, TableRun u (f u a)) (l : List α) (s : State) :
    TableRun s (l.foldl f s) := by
  induction l generalizing s with
  | nil => exact .refl
  | cons a l ih => exact (hf s a).trans (ih _)

theorem run_refuseUnissued (s : State) : TableRun s (refuseUnissued s) := by
  unfold refuseUnissued
  refine .trans ?_ (run_foldl (fun u i => run_refuseItem i .storeFault 0 [] 0 u) _ _)
  exact run_same rfl rfl rfl

theorem run_dropDue (s : State) : TableRun s (dropDue s) := run_same (by simp) (by simp) (by simp)

theorem run_enterFault (region : Region) (j : Nat) (s : State) : TableRun s (enterFault region j s) := by
  cases hs : s.jc.store with
  | fault => rw [enterFault_again _ _ _ hs]; exact run_same rfl rfl rfl
  | normal =>
    rw [enterFault_first _ _ _ hs]
    refine .trans (.trans ?_ (run_refuseUnissued _)) (run_dropDue _)
    exact run_same (by simp [raiseStoreFault]) (by simp [raiseStoreFault]) (by simp [raiseStoreFault])

/-! ### The run as a law of the books -/

/-- The states that a run from `s` reaches. -/
def RunFrom (s : State) (_ : Bool) (t : State) : Prop := TableRun s t

theorem runFrom_linesFree (s : State) : LinesFree (RunFrom s) := fun b u t h htables => by
  simp only [lawTables, Prod.mk.injEq] at htables
  obtain ⟨-, -, -, hlocks, hholds, hserial⟩ := htables
  exact Relation.ReflTransGen.tail h (.same hlocks hholds hserial)

theorem runFrom_ofBooks (s : State) : BooksLaw (RunFrom s) where
  frame := fun h _ htables => runFrom_linesFree s h htables
  begun := fun h _ => h
  access := fun h _ => Relation.ReflTransGen.trans h (run_issue ..)
  fault := fun h => Relation.ReflTransGen.trans h (run_enterFault ..)
  record := fun h _ => Relation.ReflTransGen.trans h (run_joinAppend ..)
  due := fun h => Relation.ReflTransGen.trans h (run_issueDue _)
  port := fun h => Relation.ReflTransGen.trans h (run_portNext ..)
  opened := fun h => Relation.ReflTransGen.trans h (run_same (by simp [openPart]) (by simp [openPart]) (by simp [openPart]))
  walked := fun h => Relation.ReflTransGen.trans h (run_same rfl rfl rfl)

/-! ### The card read and its decision (R11, R23, R30 to R32) -/

/-- A decision enters a hold only for a card with fewer than 4 (R30). -/
theorem decideHold_room {w : Window} {req : CardReq} {r : CardRec} {p : HoldPlan} (h : decideHold s w req r = .enter p) :
    (s.chain req.card req.slot).length < 4 := by
  by_contra hfull
  simp only [decideHold, Config.holdsPerCard, if_pos (Nat.le_of_not_lt hfull)] at h
  repeat' split at h
  all_goals cases h

theorem run_carryOut {k : Nat} {req : CardReq} {r : CardRec} {v : Verdict}
    (hroom : ∀ l p, s.lock k = some l → v = .enter p → (s.chain l.owner.card l.owner.slot).length < 4) :
    TableRun s (carryOut k req r v s) := by
  cases v with
  | answer reply => exact run_answerOwner ..
  | enter p => exact run_setDoing fun l _ hl _ => hroom l p hl rfl
  | claim => exact run_setDoing nofun
  | move m => exact .trans (run_setDoing (k := k) (d := .moving) nofun) (run_joinAppend ..)

theorem run_releaseHold (k : Nat) (req : CardReq) (r : CardRec) (s : State) : TableRun s (releaseHold k req r s) := by
  unfold releaseHold
  split
  · split
    · refine .trans ?_ (run_answerOwner ..)
      exact .single (.dropped _)
    · exact run_answerOwner ..
  · exact run_answerOwner ..

/-- A verdict that a decision of no HOLD comes to enters nothing. -/
theorem run_decideCard {k : Nat} {l : LockSlot} {r : CardRec} (hl : s.lock k = some l) : TableRun s (decideCard k l.owner r s) := by
  have hplain {v : Verdict} (hv : ∀ p, v ≠ .enter p) : TableRun s (carryOut k l.owner r v s) :=
    run_carryOut fun _ p _ hp => absurd hp (hv p)
  unfold decideCard
  dsimp only
  split
  · exact hplain fun p => by unfold decideActivate; (repeat' split) <;> nofun
  · exact hplain fun p => by unfold decideLoad; (repeat' split) <;> nofun
  · exact run_carryOut fun l' p hl' hp => by cases hl.symm.trans hl'; exact decideHold_room hp
  · exact run_releaseHold ..
  · exact run_answerOwner ..
  · exact hplain fun p => by unfold decideCapture; split <;> nofun
  · exact hplain fun p => by unfold decideRedeem; dsimp only; (repeat' split) <;> nofun
  · exact hplain fun p => by unfold decideVoid; (repeat' split) <;> nofun
  · exact hplain fun p => by unfold decideRefund; (repeat' split) <;> nofun
  · exact hplain fun p => by unfold decideCashOut; (repeat' split) <;> nofun
  · exact hplain fun p => by unfold decideBlock; split <;> nofun
  · exact hplain fun p => by unfold decideUnblock; split <;> nofun

theorem run_cardRead (k slot : Nat) (s : State) : TableRun s (cardRead k slot s) := by
  unfold cardRead
  split
  · exact .refl
  · next l hl =>
    split
    · refine .trans ?_ (run_answerOwner ..)
      exact run_same rfl rfl rfl
    split
    · exact run_answerOwner ..
    · exact run_decideCard hl

/-! ### The Hold Table's events (R31, R36, R37) -/

/-- A decided hold is entered and its lock passes on in one step (R23, R31). -/
theorem run_enterHold {k : Nat} {l : LockSlot} {p : HoldPlan} (hl : s.lock k = some l) (hd : l.doing = .entering p) :
    TableRun s (enterHold k l.owner p s) := by
  unfold enterHold
  split
  · exact run_answerOwner ..
  · next hroom =>
    have hentered := TableStep.entered hl hd (Nat.lt_of_not_le hroom)
    refine .tail (.single hentered) (.same ?_ ?_ ?_)
    · rw [answerOwner, releaseLock_tables (l := l) (by simpa [State.lock] using hl)]
      simp [State.setLock, withHold]
    · rw [answerOwner_ht]; rfl
    · rw [answerOwner_ht]; rfl

theorem run_holdArrives (k : Nat) (s : State) : TableRun s (holdArrives k s) := by
  unfold holdArrives
  split
  · next l hl =>
    split
    · next p hd => exact run_enterHold hl hd
    · exact .refl
  · exact .refl

theorem decideLate_notEnter (s : State) (w : Window) (req : CardReq) (r : CardRec) (p : HoldPlan) :
    decideLate s w req r ≠ .enter p := by
  unfold decideLate
  dsimp only
  (repeat' split) <;> nofun

theorem run_claimHold (k : Nat) (req : CardReq) (r : CardRec) (s : State) : TableRun s (claimHold k req r s) := by
  have hlate : TableRun s (carryOut k req r (decideLate s (s.window req.window) req r) s) :=
    run_carryOut fun _ p _ hp => (decideLate_notEnter _ _ _ _ _ hp).elim
  unfold claimHold
  dsimp only
  split
  · split
    · exact hlate
    split
    · exact run_answerOwner ..
    split
    · exact run_answerOwner ..
    · refine .trans (.single (.marked _ _)) (run_carryOut ?_)
      exact nofun
  · exact hlate

theorem run_claimArrives (k : Nat) (s : State) : TableRun s (claimArrives k s) := by
  unfold claimArrives
  split
  · split
    · exact run_claimHold ..
    · exact .refl
  · exact .refl

theorem run_expireHold (epoch serial : Nat) (s : State) : TableRun s (expireHold epoch serial s) := by
  unfold expireHold
  split
  · split
    · exact .trans (.single (.dropped _)) (run_same rfl rfl rfl)
    · exact .refl
  · exact .refl

/-! ### Completions of appends and card writes (R47, R48, R117, R118) -/

theorem run_completeHolds (m : Movement) (s : State) : TableRun s (completeHolds m s) := by
  rw [completeHolds_eq]
  exact .single (.dropped _)

theorem run_finishMovement (k : Nat) (m : Movement) (j p : Nat) (s : State) : TableRun s (finishMovement k m j p s) := by
  have hsweep : TableRun s (sweepAdjust m.req.slot m.paidDelta m.bonusDelta s) := run_same (by simp) (by simp) (by simp)
  have hring (u : State) : TableRun u (completeRing m j p u) := run_same (by simp) (by simp) (by simp)
  unfold finishMovement
  refine .trans (hsweep.trans ((run_completeHolds m _).trans (hring _))) ?_
  generalize completeRing m j p (completeHolds m (sweepAdjust m.req.slot m.paidDelta m.bonusDelta s)) = u
  exact (run_answerOwner k m.req (movementReply u m j p _) u).trans (run_same rfl rfl rfl)

theorem run_cardWritten (k : Nat) (m : Movement) (j p : Nat) (s : State) : TableRun s (cardWritten k m j p s) :=
  .trans (run_same (by simp) (by simp) (by simp)) (run_finishMovement ..)

theorem run_cardWriteFailed (k : Nat) (m : Movement) (j p : Nat) (left : Residue) (s : State) :
    TableRun s (cardWriteFailed k m j p left s) := by
  unfold cardWriteFailed finishReduced
  refine .trans (.trans (.trans ?_ (run_enterFault ..)) (run_completeHolds ..)) (run_answerOwner ..)
  exact run_same (by simp) (by simp) (by simp)

theorem run_refuseAppended (item : AppendItem) (rest : List AppendItem) (j : Nat) (s : State) :
    TableRun s (refuseAppended item rest j s) := by
  unfold refuseAppended
  refine .trans ?_ (run_refuseItem ..)
  exact run_same rfl rfl rfl

theorem run_appendWritten (b : JBody) (s : State) : TableRun s (appendWritten b s) := by
  have hstored : TableRun s (storeOp (.appendWrite b) s) := run_same (by simp) (by simp) (by simp)
  refine hstored.trans ?_
  unfold appendWritten
  generalize storeOp (.appendWrite b) s = u
  dsimp only
  split
  · exact .refl
  · next item rest _ =>
    split
    · have hcounted : TableRun u (countAppend rest u) := by
        unfold countAppend noteUntaken
        split
        · exact run_same rfl rfl rfl
        split
        · exact run_same rfl rfl rfl
        · exact run_same rfl rfl rfl
      refine hcounted.trans ?_
      unfold afterAppend
      split
      · exact run_issue ..
      · exact run_same (by simp [joinAccrual]) (by simp [joinAccrual]) (by simp [joinAccrual])
      · exact run_same (by simp [joinAccrual]) (by simp [joinAccrual]) (by simp [joinAccrual])
    · exact run_refuseAppended ..

theorem run_appendFailed (b : JBody) (left : Residue) (s : State) : TableRun s (appendFailed b left s) := by
  have hleft : TableRun s (leaveOp (.appendWrite b) left s) := run_same (by simp) (by simp) (by simp)
  refine (hleft.trans (run_enterFault .journal b.number _)).trans ?_
  unfold appendFailed
  dsimp only
  split
  · exact .refl
  · exact run_refuseAppended ..

/-! ### The till lines (R147 to R154) -/

theorem run_setLine (n : Nat) (x : Line) (s : State) : TableRun s (s.setLine n x) := run_same rfl rfl rfl

theorem run_setStation (n e : Nat) (x : Station) (s : State) : TableRun s (s.setStation n e x) := run_same rfl rfl rfl

theorem run_closeOffer {n e : Nat} {outcome : State → State} (h : TableRun s (outcome s)) :
    TableRun s (closeOffer n e outcome s) := by
  unfold closeOffer
  dsimp only
  split
  · exact run_setLine ..
  · exact h.trans (run_setLine ..)

theorem run_applyGood (n e : Nat) (s : State) : TableRun s (applyGood n e s) := by
  unfold applyGood
  dsimp only
  split
  · exact run_same rfl rfl rfl
  · exact run_setStation ..

theorem run_stationAsks (n e : Nat) (kind : Byte) (body : List Byte) (s : State) : TableRun s (stationAsks n e kind body s) := by
  unfold stationAsks
  dsimp only
  split
  · exact run_setStation ..
  split
  · exact (run_setStation ..).trans (run_takeCardRequest ..)
  · exact (run_setStation ..).trans (run_sendReply (.station n e) ..)

theorem run_goodAnswer (n : Nat) (frame : List Byte) (s : State) : TableRun s (goodAnswer n frame s) := by
  unfold goodAnswer
  split
  · next e _ =>
    split
    · next a _ =>
      refine run_closeOffer ?_
      cases a with
      | pass => exact run_applyGood ..
      | request kind body => exact (run_applyGood ..).trans (run_stationAsks ..)
    · exact .refl
  · exact .refl

theorem run_applyMiss (n e : Nat) (s : State) : TableRun s (applyMiss n e s) := by
  unfold applyMiss
  dsimp only
  split
  · exact run_same rfl rfl rfl
  · exact run_setStation ..

theorem run_dropHeld (n e : Nat) (s : State) : TableRun s (dropHeld n e s) := by
  unfold dropHeld
  split
  · exact run_same rfl rfl rfl
  · exact .refl

theorem run_applyBad (n e : Nat) (s : State) : TableRun s (applyBad n e s) := by
  unfold applyBad
  dsimp only
  split
  · refine .trans ?_ (run_dropHeld ..)
    exact run_same rfl rfl rfl
  · exact run_setStation ..

theorem run_badAnswer (n : Nat) (frame : List Byte) (s : State) : TableRun s (badAnswer n frame s) := by
  unfold badAnswer
  split
  · split
    · exact run_closeOffer (run_applyBad ..)
    · exact .refl
  · exact .refl

theorem run_enableStation (tag : Nat) (p : Nat × Nat) (s : State) : TableRun s (enableStation tag p s) := by
  unfold enableStation
  dsimp only
  split
  · split
    · exact run_sendReply (.link tag) ..
    split
    · exact run_sendReply (.link tag) ..
    · exact (run_setStation ..).trans (run_sendReply (.link tag) ..)
  · exact run_sendReply (.link tag) ..

theorem run_disableStation (tag : Nat) (p : Nat × Nat) (s : State) : TableRun s (disableStation tag p s) := by
  have hdrop (u : State) : TableRun u (dropOffer p.1 p.2 u) := by
    unfold dropOffer
    split
    · exact run_setLine ..
    · exact .refl
  unfold disableStation
  exact ((run_setStation ..).trans ((run_dropHeld ..).trans (hdrop _))).trans (run_sendReply (.link tag) ..)

/-! ### Every command -/

theorem run_complete {work : State → State} (h : TableRun s (work s)) : NextKeeps (RunFrom s) (.next (complete work s)) :=
  nextKeeps_next (h.trans (run_portNext ..))

theorem run_hostCard (k : CardKind) (tag : Byte) (body : List Byte) (s : State) :
    NextKeeps (RunFrom s) (.next (hostCard k tag body s)) :=
  keeps_hostRequest (runFrom_ofBooks s) (fun _ _ _ hu => Relation.ReflTransGen.trans hu (run_takeCardRequest ..)) .refl

theorem run_frameSent (left : Residue) (s : State) : TableRun s (frameSent left s) := by
  unfold frameSent
  split
  · exact .refl
  split
  · exact .single (.reset ..)
  · exact run_same rfl rfl rfl

theorem run_execCardReadDone (s : State) : NextKeeps (RunFrom s) (execCardReadDone s) := by
  unfold execCardReadDone
  split
  · split
    · exact run_complete (run_cardRead ..)
    · exact nextKeeps_fault _
  · exact nextKeeps_next .refl

theorem run_execCardWriteDone (s : State) : NextKeeps (RunFrom s) (execCardWriteDone s) := by
  unfold execCardWriteDone
  split
  · exact run_complete (run_cardWritten ..)
  · exact nextKeeps_next .refl

theorem run_execCardWriteFails (left : Residue) (s : State) : NextKeeps (RunFrom s) (execCardWriteFails left s) := by
  unfold execCardWriteFails
  split
  · exact run_complete (run_cardWriteFailed ..)
  · exact nextKeeps_next .refl

theorem run_execAppendWriteDone (s : State) : NextKeeps (RunFrom s) (execAppendWriteDone s) := by
  unfold execAppendWriteDone
  split
  · exact run_complete (run_appendWritten ..)
  · exact nextKeeps_next .refl

theorem run_execAppendWriteFails (left : Residue) (s : State) : NextKeeps (RunFrom s) (execAppendWriteFails left s) := by
  unfold execAppendWriteFails
  split
  · exact run_complete (run_appendFailed ..)
  · exact nextKeeps_next .refl

/-- Every command runs the two tables by table steps. -/
theorem exec_runs (c : Instr) (s : State) : NextKeeps (RunFrom s) (exec c s) := by
  have hP := runFrom_ofBooks s
  cases c with
  | reset cause straps left => exact nextKeeps_next (.single (.reset ..))
  | replyFrameSent left => exact nextKeeps_next (run_frameSent left s)
  | activate tag body => exact run_hostCard .activate tag body s
  | load tag body => exact run_hostCard .load tag body s
  | hold tag body => exact run_hostCard .hold tag body s
  | release tag body => exact run_hostCard .release tag body s
  | balance tag body => exact run_hostCard .balance tag body s
  | capture tag body => exact run_hostCard .capture tag body s
  | redeem tag body => exact run_hostCard .redeem tag body s
  | void tag body => exact run_hostCard .void tag body s
  | refund tag body => exact run_hostCard .refund tag body s
  | cashOut tag body => exact run_hostCard .cashOut tag body s
  | block tag body => exact run_hostCard .block tag body s
  | unblock tag body => exact run_hostCard .unblock tag body s
  | enableStation tag body =>
    exact keeps_hostRequest hP (fun _ _ _ hu => Relation.ReflTransGen.trans hu (run_enableStation ..)) .refl
  | disableStation tag body =>
    exact keeps_hostRequest hP (fun _ _ _ hu => Relation.ReflTransGen.trans hu (run_disableStation ..)) .refl
  | clearStationCounts tag body =>
    exact keeps_hostRequest hP (fun _ _ _ hu => keeps_sendLink hP (runFrom_linesFree s hu rfl)) .refl
  | holdExpiry epoch serial => exact nextKeeps_next (run_expireHold ..)
  | holdEntry lock => exact nextKeeps_next (run_holdArrives ..)
  | holdClaim lock => exact nextKeeps_next (run_claimArrives ..)
  | cardReadDone => exact run_execCardReadDone s
  | appendWriteDone => exact run_execAppendWriteDone s
  | appendWriteFails left => exact run_execAppendWriteFails left s
  | cardWriteDone => exact run_execCardWriteDone s
  | cardWriteFails left => exact run_execCardWriteFails left s
  | offerStart n =>
    refine nextKeeps_next ?_
    split
    · exact run_setLine ..
    · exact .refl
  | broadcastStart n => exact nextKeeps_next (run_setLine ..)
  | emptyRoundWaitExpiry n => exact nextKeeps_next (run_setLine ..)
  | offerSent n => exact nextKeeps_next (run_setLine ..)
  | broadcastSent n => exact nextKeeps_next (run_setLine ..)
  | goodAnswer n frame => exact nextKeeps_next (run_goodAnswer ..)
  | answerWindowExpiry n =>
    refine nextKeeps_next ?_
    split
    · exact run_closeOffer (run_applyMiss ..)
    · exact .refl
  | answerGapExpiry n =>
    refine nextKeeps_next ?_
    split
    · exact run_closeOffer (run_applyBad ..)
    · exact .refl
  | badAnswer n frame => exact nextKeeps_next (run_badAnswer ..)
  | _ => exact exec_keeps_of_books hP rfl (.inl (runFrom_linesFree s)) .refl

theorem step_runs (h : step s = .next t) : TableRun s t := by
  unfold step at h
  split at h
  · cases h; exact .refl
  · next c rest _ =>
    have hrun : TableRun { s with pending := rest } t := exec_runs c _ t h
    refine .trans ?_ hrun
    exact run_same rfl rfl rfl

end Runs

/-! ### The settlement of O6 and O7 -/

/-- Settles O6: the lock table's law along the step's table steps, and the station law by `step_keeps_stations`. -/
theorem stepKeepsLockTable : Obligations.StepKeepsLockTable :=
  ⟨fun _ _ h ht => tableRun_locksOk (step_runs ht) h,
    fun _ _ h hread hwrite hformat ht => step_keeps_stations h ⟨hread, hwrite, hformat⟩ ht⟩

/-- Settles O7: the laws of the holds and of the chains along the step's table steps. -/
theorem stepKeepsHoldTable : Obligations.StepKeepsHoldTable :=
  ⟨fun _ _ h ht => tableRun_holdsOk (step_runs ht) h,
    fun _ _ hlocks h ht => tableRun_chainsOk (step_runs ht) hlocks h⟩

end Sys2Proof.Machine
end

section
/-! The laws right after reset (O3), the holds that expire and enter (O45), and a capture's claim (O46). -/

namespace Sys2Proof.Machine
open Sys2Proof Sys2Proof.Safety

/-! ### Reset -/

/-- Settles O3: the laws of the locks, the holds and the stations hold at every reset state, and the others say things of empty
tables alone. -/
theorem resetKeepsInvariants : Obligations.ResetKeepsInvariants := by
  have hattn : AttnOk State.reset := ⟨fun _ => rfl, rfl⟩
  have hlimits : LimitsOk State.reset := ⟨Nat.zero_le _, List.nodup_nil, nofun, Nat.zero_le _, Nat.zero_le _⟩
  have hjournal : JournalOk State.reset := by
    refine ⟨Nat.zero_le _, Nat.zero_le _, le_rfl, nofun, nofun, fun op hop => ?_⟩
    cases hop
    exact ⟨nofun, nofun⟩
  exact ⟨rfl, hattn, locksOk_resetWith .., holdsOk_resetWith .., hlimits, hjournal, chainsOk_resetWith .., stationsOk_resetWith ..⟩

section Holds
variable {s : State}

/-! ### Expiry (R36) -/

theorem expireHold_due {epoch serial : Nat} {h : Hold} (hf : s.ht.holds.find? (fun x => x.named epoch serial) = some h)
    (ha : h.state = .active) (hdue : h.expiry ≤ s.ht.seconds) :
    expireHold epoch serial s = raiseHoldsExpired (removeHold h.card h.slot epoch serial s) := by
  simp only [expireHold, hf, ha, hdue, and_self, if_true]

theorem expireHold_notDue {epoch serial : Nat} {h : Hold} (hf : s.ht.holds.find? (fun x => x.named epoch serial) = some h)
    (hnot : h.state = .claimed ∨ s.ht.seconds < h.expiry) : expireHold epoch serial s = s := by
  have hno : ¬(h.state = .active ∧ h.expiry ≤ s.ht.seconds) := by
    rintro ⟨ha, hdue⟩
    rcases hnot with hc | hlt
    · cases ha.symm.trans hc
    · omega
  simp only [expireHold, hf, if_neg hno]

theorem expireHold_none {epoch serial : Nat} (hf : s.ht.holds.find? (fun x => x.named epoch serial) = none) :
    expireHold epoch serial s = s := by
  simp only [expireHold, hf]

/-! ### Entry (R28, R31) -/

section Entry
variable {k : Fin 16} {l : LockSlot} {p : HoldPlan}

theorem exec_holdEntry (hl : s.lock k.val = some l) (hd : l.doing = .entering p) :
    exec (.holdEntry k) s = .next (enterHold k.val l.owner p s) := by
  simp only [exec, execHoldEntry, holdArrives, hl, hd]

theorem enterHold_full (hfull : 512 ≤ s.ht.holds.length) (k : Nat) (req : CardReq) (p : HoldPlan) :
    enterHold k req p s = answerOwner k req (refusal req .holdTableFull) s := if_pos hfull

theorem enterHold_room (hroom : s.ht.holds.length < 512) (k : Nat) (req : CardReq) (p : HoldPlan) :
    enterHold k req p s = answerOwner k req (holdReply req p (newHold s req p)) (withHold req p s) :=
  if_neg (Nat.not_le_of_lt hroom)

end Entry
end Holds

/-- Settles O45: the three ways of an expiry, and an entry whose serial is the first free one by `nextSerial_spec`. -/
theorem holdsExpireAndEnter : Obligations.HoldsExpireAndEnter := by
  refine ⟨?_, ?_⟩
  · intro epoch serial s named
    have hexec : exec (.holdExpiry epoch serial) s = .next (expireHold epoch.toNat serial.toNat s) := rfl
    refine ⟨fun h hf ha hdue => ?_, fun h hf hnot => ?_, fun hf => ?_⟩
    · rw [hexec, expireHold_due hf ha hdue]; rfl
    · rw [hexec, expireHold_notDue hf hnot]
    · rw [hexec, expireHold_none hf]
  · intro k l p s hholds hl hd req serials
    obtain ⟨-, -, hlow, hhigh⟩ := hholds
    have hexec := exec_holdEntry hl hd
    refine ⟨fun hfull => ?_, fun hroom => ?_⟩
    · rw [hexec, enterHold_full hfull, refusal_eq_plainReply]
    · obtain ⟨i, hserial, hbefore, hfresh⟩ := nextSerial_spec hlow hhigh hroom
      have hfirst (hfree : s.ht.serial ∉ serials) : nextSerial s = s.ht.serial := by
        cases i with
        | zero => rw [hserial, serialFrom_zero hlow hhigh]
        | succ i => exact absurd (serialFrom_zero hlow hhigh ▸ hbefore 0 (by omega)) hfree
      refine ⟨nextSerial s, ?_, ?_, hfresh, hfirst, ⟨i, hserial, hbefore⟩, ?_⟩
      · rw [hserial]; exact Nat.le_add_left ..
      · rw [hserial, serialFrom]; omega
      · rw [hexec, enterHold_room hroom]; rfl

/-! ### A capture's claim (R37, R54 to R58) -/

section Claim
variable {k : Fin 16} {l : LockSlot} {r : CardRec} {req : CardReq} {s : State}

theorem exec_holdClaim (hl : s.lock k.val = some l) (hd : l.doing = .claiming r) :
    exec (.holdClaim k) s = .next (claimHold k.val l.owner r s) := by
  simp only [exec, execHoldClaim, claimArrives, hl, hd]

/-- A claim looks at the whole table for the card's hold of that reference. -/
theorem findHold_eq (s : State) (card slot epoch serial : Nat) : s.findHold card slot epoch serial
    = s.ht.holds.find? fun x => x.card == card && x.slot == slot && (x.epoch == epoch && x.serial == serial) := by
  refine List.find?_filter.trans (congrArg (List.find? · s.ht.holds) (funext fun x => ?_))
  rw [Bool.eq_iff_iff, decide_eq_true_iff, Bool.and_eq_true]
  rfl

/-- A capture that finds no ACTIVE hold goes on as a LATE-CAPTURE (R37, R57; log 29). -/
theorem claimHold_late {k : Nat} (h : ∀ h, s.findHold req.card req.slot req.epoch req.serial = some h → h.state = .claimed) :
    claimHold k req r s = carryOut k req r (decideLate s (s.window req.window) req r) s := by
  unfold claimHold
  dsimp only
  split
  · next x hx => rw [if_pos (by rw [h x hx]; nofun)]
  · rfl

section Found
variable {k : Nat} {h : Hold} (hf : s.findHold req.card req.slot req.epoch req.serial = some h) (ha : h.state = .active)
include hf ha

theorem claimHold_otherMerchant (hm : h.merchant ≠ req.merchant) :
    claimHold k req r s = answerOwner k req (refusal req .badRequest [] reasonOtherMerchant) s := by
  simp only [claimHold, hf]
  rw [if_neg (not_not.mpr ha), if_pos hm]

theorem claimHold_exceeds (hm : h.merchant = req.merchant) (hlt : h.held < req.amount) :
    claimHold k req r s = answerOwner k req (refusal req .exceedsHold (fig 3 h.held)) s := by
  simp only [claimHold, hf]
  rw [if_neg (not_not.mpr ha), if_neg (not_not.mpr hm), if_pos hlt]

theorem claimHold_claims (hm : h.merchant = req.merchant) (hle : req.amount ≤ h.held) :
    claimHold k req r s = carryOut k req r (.move (captureMovement (s.window req.window) req r h))
      (markHold req.card req.slot req.epoch req.serial .claimed s) := by
  simp only [claimHold, hf]
  rw [if_neg (not_not.mpr ha), if_neg (not_not.mpr hm), if_neg (Nat.not_lt.mpr hle)]

end Found

/-! ### The movement on its way to the append queue (R39, R46, R116) -/

/-- A record in the append queue makes the access due, unless one is issued or 32 records are PENDING (R116). -/
theorem mayAppend_joined (item : AppendItem) (hs : s.jc.store = .normal) :
    mayAppend { s with jc := { s.jc with appendQueue := s.jc.appendQueue ++ [item] } } = true
      ↔ ¬(s.jc.appendIssued = true ∨ 32 ≤ s.jc.pendingCount) := by
  rw [mayAppend_iff]
  simp [hs]

/-- A record joins the append queue, its access issued when that makes it due (R116). -/
theorem joinAppend_normal (item : AppendItem) (hs : s.jc.store = .normal) : joinAppend item s = queued item s := by
  have hjoin : joinAppend item s = issueDue { s with jc := { s.jc with appendQueue := s.jc.appendQueue ++ [item] } } := by
    rw [joinAppend, hs]
  rw [hjoin, queued]
  by_cases hwaits : s.jc.appendIssued = true ∨ 32 ≤ s.jc.pendingCount
  · rw [if_pos hwaits, issueDue_notDue (eq_false_of_ne_true fun hdue => (mayAppend_joined item hs).mp hdue hwaits)]
  · have hdue := (mayAppend_joined item hs).mpr hwaits
    rw [if_neg hwaits]
    split
    · next op hs => exact (issueDue_busy hdue hs).trans (issue_busy hs)
    · next hs => rw [issueDue, if_pos hdue]; simp only [hs]

theorem joinAppend_fault (item : AppendItem) (hs : s.jc.store = .fault) :
    joinAppend item s = refuseItem item .storeFault 0 [] 0 s := by rw [joinAppend, hs]

/-- The state with a capture decided: its movement is under way, and the hold table stands as given. -/
def deciding (k : Nat) (l : LockSlot) (holds : List Hold) (s : State) : State :=
  ({ s with ht := { s.ht with holds := holds } } : State).setLock k (some { l with doing := .moving })

/-- A decided movement in store NORMAL joins the append queue (R44, R116). -/
theorem carryOut_move_normal {k : Nat} {m : Movement} {holds : List Hold} (hl : s.lock k = some l) (hs : s.jc.store = .normal) :
    carryOut k req r (.move m) (s.setHolds holds) = queued (.movement k m) (deciding k l holds s) := by
  show joinAppend (.movement k m) (setDoing k .moving (s.setHolds holds)) = _
  rw [setDoing_locked (s := s.setHolds holds) hl]
  exact joinAppend_normal (s := deciding k l holds s) _ hs

/-- A decided movement in store FAULT is refused at once, its claimed hold given back (R39, R46, R126). -/
theorem carryOut_move_fault {k : Nat} {m : Movement} {holds : List Hold} (hl : s.lock k = some l) (hs : s.jc.store = .fault) :
    carryOut k req r (.move m) (s.setHolds holds)
      = answerOwner k m.req (refusal m.req .storeFault) (returnClaim m (deciding k l holds s)) := by
  show joinAppend (.movement k m) (setDoing k .moving (s.setHolds holds)) = _
  rw [setDoing_locked (s := s.setHolds holds) hl]
  exact joinAppend_fault (s := deciding k l holds s) _ hs

/-- A hold marked CLAIMED and given back is marked ACTIVE (R26, R39). -/
theorem returnClaim_claimed {m : Movement} {k : Nat} {holds : List Hold} {named : Hold → Bool} (hm : m.kind = .capture)
    (hn : named = fun x => x.card == m.req.card && x.slot == m.req.slot && (x.epoch == m.req.epoch && x.serial == m.req.serial)) :
    returnClaim m (deciding k l (holds.map fun x => if named x then { x with state := .claimed } else x) s)
      = deciding k l (holds.map fun x => if named x then { x with state := .active } else x) s := by
  have hmap : (holds.map fun x => if named x then { x with state := HoldState.claimed } else x).map
      (fun x => if named x then { x with state := HoldState.active } else x)
      = holds.map fun x => if named x then { x with state := HoldState.active } else x := by
    rw [List.map_map]
    refine List.map_congr_left fun x _ => ?_
    by_cases hx : named x = true
    · have hx' : named { x with state := HoldState.claimed } = true := by rw [hn] at hx ⊢; exact hx
      simp only [Function.comp_apply, hx, hx', if_true]
    · simp only [Function.comp_apply, if_neg hx]
  rw [returnClaim, if_pos hm]
  unfold markHold deciding
  rw [← hmap, hn]
  rfl

/-- A LATE-CAPTURE has claimed no hold. -/
theorem returnClaim_other {m : Movement} (hm : m.kind ≠ .capture) : returnClaim m s = s := if_neg hm

/-! ### LATE-CAPTURE (R57, R58) -/

section Late
variable {w : Window}

theorem decideLate_mask (hm : maskAllows s w req.merchant = false) : decideLate s w req r = .answer (refusal req .programmeRule) :=
  if_pos hm

theorem decideLate_gone (hm : maskAllows s w req.merchant = true) (hlt : (availOf s req r).1 + (availOf s req r).2 < req.amount) :
    decideLate s w req r
      = .answer (refusal req .holdGone (fig 3 ((availOf s req r).1 + (availOf s req r).2))) := by
  simp only [decideLate]
  rw [if_neg (by simp [hm]), if_pos hlt]

theorem decideLate_moves (hm : maskAllows s w req.merchant = true) (hle : req.amount ≤ (availOf s req r).1 + (availOf s req r).2) :
    decideLate s w req r = .move (movementOf req r .lateCapture req.amount .active
      (r.paid - (splitPurses w.order req.amount (availOf s req r).1 (availOf s req r).2).1)
      (r.bonus - (splitPurses w.order req.amount (availOf s req r).1 (availOf s req r).2).2)) := by
  simp only [decideLate]
  rw [if_neg (by simp [hm]), if_neg (Nat.not_lt.mpr hle)]

end Late
end Claim

/-- Settles O46: each outcome of the claim by its lemma, and the movement's way to the append queue. -/
theorem holdClaimDecides : Obligations.HoldClaimDecides := by
  intro k l r s hl hd req w answers moves named
  have hexec := exec_holdClaim hl hd
  have hfind (h : Hold) (hf : s.ht.holds.find? named = some h) :
      s.findHold req.card req.slot req.epoch req.serial = some h := (findHold_eq ..).trans hf
  have hmoves {kind : MoveKind} {p : Nat × Nat} {held : Nat} {holds back : List Hold} {m : Movement}
      (hm : m = { movementOf req r kind req.amount .active (r.paid - p.1) (r.bonus - p.2) with held := held })
      (hclaim : claimHold k.val req r s = carryOut k.val req r (.move m) (s.setHolds holds))
      (hback : returnClaim m (deciding k.val l holds s) = deciding k.val l back s) : moves kind p held holds back := by
    subst hm
    refine ⟨fun hs => ?_, fun hs => ?_⟩
    · rw [hexec, hclaim, carryOut_move_normal hl hs]; rfl
    · rw [hexec, hclaim, carryOut_move_fault hl hs, hback, refusal_eq_plainReply]; rfl
  refine ⟨fun h hf ha => ⟨fun hm => ?_, fun hm hlt => ?_, fun hm hle => ?_⟩, fun hlate => ?_⟩
  · show exec _ s = _
    rw [hexec, claimHold_otherMerchant (hfind h hf) ha hm]; rfl
  · show exec _ s = _
    rw [hexec, claimHold_exceeds (hfind h hf) ha hm hlt]; rfl
  · exact hmoves rfl (claimHold_claims (hfind h hf) ha hm hle) (returnClaim_claimed rfl rfl)
  · intro chain paid bonus allowed
    have hclaim := claimHold_late (k := k.val) (r := r) (req := req) (s := s) fun h hf =>
      hlate h ((findHold_eq ..).symm.trans hf)
    refine ⟨fun hno => ?_, fun hyes hlt => ?_, fun hyes hle => ?_⟩
    · show exec _ s = _
      rw [hexec, hclaim, decideLate_mask (maskAllows_eq_false hno)]
      rfl
    · show exec _ s = _
      rw [hexec, hclaim, decideLate_gone (maskAllows_iff.mpr hyes) hlt]
      rfl
    · exact hmoves (holds := s.ht.holds) (held := 0) (p := splitPurses w.order req.amount paid bonus) rfl
        (hclaim.trans (by rw [decideLate_moves (maskAllows_iff.mpr hyes) hle]; rfl)) (returnClaim_other nofun)

end Sys2Proof.Machine
end

section
/-! The port's choice and the tests of an append (O10). -/

namespace Sys2Proof.Machine
open Sys2Proof Sys2Proof.Safety

section Port
variable {s : State} {op : PortOp} {rest : List PortOp}

/-! ### The choice (R112) -/

theorem queueAppend_notDue (h : mayAppend s = false) : queueAppend s = s := by rw [queueAppend, h]; rfl

/-- An idle port serves nothing. -/
theorem portLoop_idle (h : mayAppend s = false) (hw : s.jc.waiting = []) (n : Nat) :
    portLoop (n + 1) s = { s with jc := { s.jc with serving := none } } := by
  have hpick : pickNext [] = none := rfl
  simp only [portLoop, queueAppend_notDue h, hw, hpick]

/-- An access that is no append is served as it is (R112). -/
theorem portLoop_serves (h : mayAppend s = false) (hw : pickNext s.jc.waiting = some (op, rest)) (hop : op ≠ .append) (n : Nat) :
    portLoop (n + 1) s = { s with jc := { s.jc with serving := some op, waiting := rest } } := by
  cases op with
  | append => exact absurd rfl hop
  | _ => simp only [portLoop, queueAppend_notDue h, hw]

section Append
variable {item : AppendItem} {items : List AppendItem}
variable (h : mayAppend s = false) (hw : pickNext s.jc.waiting = some (.append, rest)) (hq : s.jc.appendQueue = item :: items)
include h hw hq

/-- An append that passes its tests is written with the next number and the append period (R117). -/
theorem portLoop_writes (ht : appendTest s item = none) (n : Nat) : portLoop (n + 1) s = { s with jc := { s.jc with
    serving := some (.appendWrite (itemBody item s.jc.next s.jc.appendPeriod)), waiting := rest } } := by
  have htest := (appendTest_atPort item s.jc.appendQueue s.jc.appendIssued (some .append) rest s).trans ht
  simp only [portLoop, queueAppend_notDue h, hw, hq] at htest ⊢
  rw [htest]

/-- The record of an append that fails its tests leaves the queue, and the next access is chosen (R117). -/
theorem portLoop_refuses {st : Status} {reason : Nat} {figures : List Byte} (ht : appendTest s item = some (st, reason, figures))
    (n : Nat) : portLoop (n + 1) s = portLoop n (refuseItem item st reason figures 0 { s with jc := { s.jc with
      serving := some .append, waiting := rest, appendQueue := items, appendIssued := false } }) := by
  have htest := (appendTest_atPort item s.jc.appendQueue s.jc.appendIssued (some .append) rest s).trans ht
  simp only [portLoop, queueAppend_notDue h, hw, hq] at htest ⊢
  rw [htest]

end Append

/-! ### The tests of an append (R75, R92, R117, R119) -/

/-- There is no room for a record that is no CUTOFF's when 4,096 are untaken or the last number has come (R119). -/
theorem journalFull_iff : journalFull s false = true ↔ 4096 ≤ s.jc.untaken ∨ 281474976710655 ≤ s.jc.next := by
  simp only [journalFull, Bool.or_eq_true, Bool.and_eq_true, decide_eq_true_eq, Bool.not_false, and_true]
  simp only [Config.journalSlots, Config.maxJournal]
  omega

/-- A CUTOFF's record may take the last number (R119). -/
theorem journalFull_cutoff_iff : journalFull s true = false ↔ s.jc.untaken < 4096 ∧ s.jc.next ≤ 281474976710655 := by
  simp only [journalFull, Bool.or_eq_false_iff, Bool.not_true, Bool.and_false, decide_eq_false_iff_not, and_true, not_le, not_lt]
  simp only [Config.journalSlots, Config.maxJournal]

/-- The kinds a merchant state admits (R79). -/
theorem admits_iff (st : MerchantState) (kind : MoveKind) : admits st kind = true
    ↔ st = .active ∨ (st = .suspended ∧ (kind = .capture ∨ kind = .void ∨ kind = .refund)) := by
  cases st <;> cases kind <;> decide

/-- The From states of a merchant state request (R74). -/
theorem allows_iff (k : AdminKind) (st : MerchantState) : k.allows st = true
    ↔ (k = .suspend ∧ st = .active) ∨ (k = .resume ∧ st = .suspended) ∨ (k = .close ∧ (st = .active ∨ st = .suspended)) := by
  cases k <;> cases st <;> decide

theorem appendTest_fault (item : AppendItem) (hs : s.jc.store = .fault) : appendTest s item = some (.storeFault, 0, []) := if_pos hs

section Normal
variable (hs : s.jc.store = .normal)
include hs

/-- The tests of a movement's record in their order (R79, R117, R119). -/
theorem appendTest_movement (k : Nat) (m : Movement) : appendTest s (.movement k m)
    = if journalFull s false = true then some (.journalFull, 0, [])
      else if m.req.merchant ≠ 0 ∧ admits (s.admission m.req.merchant).state m.kind = false then some (.merchantState, 0, [])
      else if m.kind = .void ∧ m.capturePeriod ≠ s.jc.appendPeriod then some (.voidTooLate, 0, [])
      else none := if_neg (by rw [hs]; nofun)

/-- The tests of a merchant state request's record in their order (R75, R119). -/
theorem appendTest_admin (tag : Nat) (k : AdminKind) (m : Nat) : appendTest s (.admin tag k m)
    = if journalFull s false = true then some (.journalFull, 0, [])
      else if k.allows (s.admission m).state = false then some (.merchantState, 0, [])
      else none := if_neg (by rw [hs]; nofun)

/-- The tests of a CUTOFF's record in their order (R92, R119). -/
theorem appendTest_cutoff (tag : Nat) : appendTest s (.cutoff tag)
    = if journalFull s true = true then some (.journalFull, 0, [])
      else
        let refused (reason : Nat) := some (Status.closeRefused, reason,
          fig 4 s.jc.appendPeriod ++ fig 4 s.mau.copy.accrued ++ fig 1 s.pcu.state.code)
        if s.pcu.state ≠ .empty then refused 32
        else if s.mau.copy.accrued < s.jc.appendPeriod then refused 33
        else if s.jc.appendPeriod = 4294967295 then refused 34
        else none := if_neg (by rw [hs]; nofun)

end Normal

/-! ### Refusals at append (R39, R46) -/

/-- A refused movement is answered under its card number (R46). -/
theorem refuseItem_movement (k : Nat) (m : Movement) (st : Status) (reason j : Nat) (figures : List Byte) (s : State) :
    refuseItem (.movement k m) st reason figures j s = answerOwner k m.req
      { kind := m.req.kind.code, status := st, reason := reason, figures := fig 4 m.req.card ++ figures, journal := j }
      (returnClaim m s) := rfl

/-- A capture's hold is ACTIVE again (R39). -/
theorem returnClaim_capture {m : Movement} (hm : m.kind = .capture) (s : State) : returnClaim m s
    = { s with ht := { s.ht with holds := s.ht.holds.map fun x =>
          if x.card == m.req.card && x.slot == m.req.slot && (x.epoch == m.req.epoch && x.serial == m.req.serial) then
            { x with state := .active } else x } } := if_pos hm

end Port

/-- Settles O10: the choice by `pickNext_spec`, each test by its place in the order, and the answers of a refused record. -/
theorem portServesLowestClass : Obligations.PortServesLowestClass := by
  refine ⟨?_, ?_, ?_, ?_⟩
  · refine fun s => ⟨fun hdue => ?_, fun hdue hw => ?_⟩
    · rw [← portNext_queueAppend, queueAppend_due (mayAppend_iff.mpr hdue)]
    · exact portLoop_idle (eq_false_of_ne_true fun h => hdue (mayAppend_iff.mp h)) hw _
  · intro s op pre post hdue hw hpre hpost serves
    have hnot : mayAppend s = false := eq_false_of_ne_true fun h => hdue (mayAppend_iff.mp h)
    have hpick : pickNext s.jc.waiting = some (op, pre ++ post) := hw ▸ pickNext_spec op pre post hpre hpost
    refine ⟨fun hop => portLoop_serves hnot hpick hop _, ?_⟩
    rintro item rest rfl hq
    refine ⟨fun ht => portLoop_writes hnot hpick hq ht _, fun st reason figures ht => ?_⟩
    have hfuel : s.jc.appendQueue.length + 2 = (rest.length + 2) + 1 := by rw [hq]; rfl
    refine (congrArg (portLoop · s) hfuel).trans ((portLoop_refuses hnot hpick hq ht _).trans ?_)
    unfold portNext
    rw [refuseItem_jc_appendQueue]
  · intro s full
    have hfull : journalFull s false = true ↔ full := journalFull_iff
    refine ⟨fun item hs => appendTest_fault item hs, ?_, ?_, ?_⟩
    · intro k m hs st admitted late
      have hadmit : ¬admitted ↔ m.req.merchant ≠ 0 ∧ admits st m.kind = false := by
        rw [← Bool.not_eq_true, admits_iff, ← not_or]
      have htest := appendTest_movement hs k m
      refine ⟨fun h => ?_, fun h ha => ?_, fun h ha hl => ?_, fun h ha hl => ?_⟩
      · exact htest.trans (if_pos (hfull.mpr h))
      all_goals rw [if_neg (mt hfull.mp h)] at htest
      · exact htest.trans (if_pos (hadmit.mp ha))
      · exact htest.trans ((if_neg (mt hadmit.mpr (not_not.mpr ha))).trans (if_pos hl))
      · exact htest.trans ((if_neg (mt hadmit.mpr (not_not.mpr ha))).trans (if_neg hl))
    · intro tag k m hs st fits
      have hfits : ¬fits ↔ k.allows st = false := by rw [← Bool.not_eq_true, allows_iff]
      have htest := appendTest_admin hs tag k m
      refine ⟨fun h => ?_, fun h hf => ?_, fun h hf => ?_⟩
      · exact htest.trans (if_pos (hfull.mpr h))
      all_goals rw [if_neg (mt hfull.mp h)] at htest
      · exact htest.trans (if_pos (hfits.mp hf))
      · exact htest.trans (if_neg (mt hfits.mpr (not_not.mpr hf)))
    · intro tag hs p a refused room
      have hroom : ¬journalFull s true = true ↔ room := (Bool.not_eq_true _).to_iff.trans journalFull_cutoff_iff
      have htest := appendTest_cutoff hs tag
      refine ⟨fun h => ?_, fun h he => ?_, fun h he ha => ?_, fun h he ha hp => ?_, fun h he ha hp => ?_⟩
      · exact htest.trans (if_pos (not_not.mp fun hno => h (hroom.mp hno)))
      all_goals rw [if_neg (hroom.mpr h)] at htest
      · exact htest.trans (if_pos he)
      · exact htest.trans ((if_neg (not_not.mpr he)).trans (if_pos ha))
      · exact htest.trans ((if_neg (not_not.mpr he)).trans ((if_neg (Nat.not_lt.mpr ha)).trans (if_pos hp)))
      · exact htest.trans ((if_neg (not_not.mpr he)).trans ((if_neg (Nat.not_lt.mpr ha)).trans (if_neg hp)))
  · refine fun st reason j figures s => ⟨fun tag k m => rfl, fun tag => rfl, ?_⟩
    intro k m req named r
    refine ⟨fun hm => ?_, fun hm => ?_⟩
    · rw [refuseItem_movement, returnClaim_other hm]
    · rw [refuseItem_movement, returnClaim_capture hm]

end Sys2Proof.Machine
end

section
/-! Replies on their way to their origin (O18), and TAKE-NOTICES, RESTART, SET-TIME and the tick (O37). -/

namespace Sys2Proof.Machine
open Sys2Proof Sys2Proof.Safety

/-! ### The outbound queue (R161) -/

theorem notices_none?_eq (n : Notices) : (!n.none?) = decide (n ≠ {}) := by
  rw [Bool.eq_iff_iff, Bool.not_eq_true', decide_eq_true_iff, Notices.none?, beq_eq_false_iff_ne]

/-- A frame as it joins the outbound queue: it begins at once on an idle transmitter, with NOTICES-PENDING as the notice set
stands (R161). -/
def joinedFrame (f : OutFrame) (s : State) : OutFrame := { f with
  begun := decide (s.hlp.outbound = [])
  noticesPending := if s.hlp.outbound = [] then decide (s.hlp.notices ≠ {}) else f.noticesPending }

theorem pushFrame_eq {f : OutFrame} (hf : f.begun = false) (s : State) :
    pushFrame f s = { s with hlp := { s.hlp with outbound := s.hlp.outbound ++ [joinedFrame f s] } } := by
  unfold pushFrame joinedFrame
  by_cases h : s.hlp.outbound = []
  · simp [h, beginFrame, notices_none?_eq]
  · simp [h, ← hf]

/-! ### The lock after the answer (R23, R24) -/

theorem sendReply_lock (o : Origin) (r : Reply) (s : State) (k : Nat) : (sendReply o r s).lock k = s.lock k := by
  rw [State.lock, sendReply_ce]; rfl

section Answer
variable {k : Nat} {l : LockSlot} {s : State}

theorem answerOwner_free (hl : s.lock k = some l) (hw : l.waiters = []) (req : CardReq) (r : Reply) :
    answerOwner k req r s = (sendReply req.origin r s).setLock k none :=
  releaseLock_free ((sendReply_lock ..).trans hl) hw

theorem answerOwner_grant {w : CardReq} {ws : List CardReq} (hl : s.lock k = some l) (hw : l.waiters = w :: ws) (req : CardReq)
    (r : Reply) : answerOwner k req r s = grantLock k w ws (sendReply req.origin r s) :=
  releaseLock_grant ((sendReply_lock ..).trans hl) hw

end Answer

/-- Settles O18: the frame by `pushFrame_eq`, the station's reply by the state of its entry, the lock by its waiters. -/
theorem answersReachTheirOrigin : Obligations.AnswersReachTheirOrigin := by
  refine ⟨fun tag r s => ?_, ?_, ?_⟩
  · let f : OutFrame := { kind := replyKind r.kind, tag := tag, reply := r, tagged := true }
    exact ⟨joinedFrame f s, rfl, rfl, rfl, rfl, rfl, rfl, fun h => if_pos h, pushFrame_eq (f := f) rfl s⟩
  · intro n e r s _ _ x
    exact ⟨sendStation_held, fun h => sendStation_discarded h⟩
  · intro k req r l s _ hl
    exact ⟨fun hw => answerOwner_free hl hw req r, fun w ws hw => answerOwner_grant hl hw req r⟩

/-! ### TAKE-NOTICES, RESTART, SET-TIME and the tick (R34, R35, R164, R167) -/

theorem noticeBytes_eq (code : Nat) (details : Option (List Byte)) :
    noticeBytes code details = (details.map fun d => fig 1 code ++ d).toList := by
  cases details <;> rfl

theorem timeField_leBytes {v : Nat} (h : v < 256 ^ 4) : timeField? (leBytes 4 v) = some v := by
  have hlen : (leBytes 4 v).length = 4 := leBytes_length 4 v
  rw [timeField?, if_pos hlen, field, List.drop_zero, List.take_of_length_le hlen.le, leNat_leBytes, Nat.mod_eq_of_lt h]

section Requests
variable {tag : Byte} {s : State}

theorem exec_takeNotices (h : Admits .status tag s) :
    exec (.takeNotices tag []) s = .next (takeNotices tag.toNat (taken tag s)) :=
  congrArg Host.Outcome.next (hostRequest_admitted h rfl)

theorem exec_restart (h : Admits .restart tag s) : exec (.restart tag []) s = .next (takeRestart tag.toNat (taken tag s)) :=
  congrArg Host.Outcome.next (hostRequest_admitted h rfl)

theorem exec_setTime {v : Nat} (h : Admits .time tag s) (hv : v < 256 ^ 4) :
    exec (.setTime tag (leBytes 4 v)) s = .next (setTime tag.toNat v (taken tag s)) :=
  congrArg Host.Outcome.next (hostRequest_admitted h (timeField_leBytes hv))

end Requests

/-- Settles O37: each request reaches its block with its tag taken, and the tick saturates. -/
theorem noticesRestartAndTime : Obligations.NoticesRestartAndTime := by
  intro tag v s hv u
  refine ⟨?_, fun h => ?_, fun h => ?_, fun h => ?_, fun h => ?_⟩
  · intro h n kind kinds
    have hkinds : (taken tag s).hlp.notices.list = kinds := by
      simp only [Notices.list, noticeBytes_eq]
      rfl
    rw [exec_takeNotices h, takeNotices, Notices.figures, hkinds]
    rfl
  · let f : OutFrame :=
      { kind := replyKind 0x33, tag := tag.toNat, reply := { kind := 0x33, status := .ok }, tagged := true, resets := true }
    refine ⟨joinedFrame f (taken tag s), rfl, rfl, rfl, rfl, rfl, ?_⟩
    rw [exec_restart h, takeRestart, pushFrame_eq (f := f) rfl]
    rfl
  · rw [exec_setTime h hv]
    rfl
  · show Host.Outcome.next { s with ht := { s.ht with seconds := satInc 4294967295 s.ht.seconds } } = _
    rw [satInc, if_pos h]
  · show Host.Outcome.next { s with ht := { s.ht with seconds := satInc 4294967295 s.ht.seconds } } = _
    rw [satInc, if_neg (Nat.not_lt.mpr h)]

end Sys2Proof.Machine
end

section
/-! A write that fails its verification (O44): what it sets for good, and what FAULT ends. -/

namespace Sys2Proof.Machine
open Sys2Proof Sys2Proof.Safety

/-! ### What stands after a failed write (R125) -/

/-- What a failed write settles: the notice and the store that FAULT sets, and what it leaves of the memory, the windows and the
reset that is pending. -/
def faultRecord (s : State) :=
  (s.hlp.notices.storeFault, s.jc.store, s.mem, s.windows, s.pending)

section Kept
variable {s t : State}

theorem faultRecord_of_notices (hn : NoticesKept s t) (hstore : t.jc.store = s.jc.store) (hmem : t.mem = s.mem)
    (hwindows : t.windows = s.windows) (hpending : t.pending = s.pending) : faultRecord t = faultRecord s := by
  rw [faultRecord, faultRecord, hn.1, hstore, hmem, hwindows, hpending]

@[simp] theorem faultRecord_issue (op : PortOp) (s : State) : faultRecord (issue op s) = faultRecord s := by simp [faultRecord]

@[simp] theorem faultRecord_portNext (n : Nat) (s : State) : faultRecord (portNext n s) = faultRecord s :=
  faultRecord_of_notices (noticesKept_portNext n s) (by simp) (by simp) (by simp) (by simp)

@[simp] theorem faultRecord_answerOwner (k : Nat) (req : CardReq) (r : Reply) (s : State) :
    faultRecord (answerOwner k req r s) = faultRecord s :=
  faultRecord_of_notices (noticesKept_answerOwner k req r s) (by simp) (by simp) (by simp) (by simp)

@[simp] theorem faultRecord_refuseItem (i : AppendItem) (st : Status) (reason : Nat) (extra : List Byte) (j : Nat) (s : State) :
    faultRecord (refuseItem i st reason extra j s) = faultRecord s :=
  faultRecord_of_notices (noticesKept_refuseItem i st reason extra j s) (by simp) (by simp) (by simp) (by simp)

@[simp] theorem faultRecord_completeHolds (m : Movement) (s : State) : faultRecord (completeHolds m s) = faultRecord s := by
  simp [faultRecord]

@[simp] theorem faultRecord_nextTotals (s : State) : faultRecord (nextTotals s) = faultRecord s := by simp [faultRecord]

@[simp] theorem faultRecord_answerAdvice (tag : Nat) (r : Reply) (s : State) :
    faultRecord (answerAdvice tag r s) = faultRecord s := by
  simp [faultRecord]

@[simp] theorem faultRecord_finishRecovery (s : State) : faultRecord (finishRecovery s) = faultRecord s := by
  unfold finishRecovery
  split
  · exact faultRecord_issue _ _
  · exact faultRecord_issue _ _

@[simp] theorem faultRecord_endRecoveryIfStarting (s : State) : faultRecord (endRecoveryIfStarting s) = faultRecord s := by
  unfold endRecoveryIfStarting
  split
  · exact faultRecord_finishRecovery s
  · rfl

theorem faultRecord_openService (tag : Nat) (s : State) : faultRecord (openService tag s) = faultRecord s := by
  unfold openService
  split
  · rfl
  · rfl

/-- A request of R170 that is taken changes no copy at once (R170). -/
theorem faultRecord_startCfg (q : ConfigReq) (s : State) : faultRecord (startCfg q s).1 = faultRecord s := by
  unfold startCfg
  dsimp only
  split
  · rfl
  split
  · exact faultRecord_openService _ _
  · split
    · rfl
    · exact faultRecord_issue _ _
  · split
    · rfl
    · exact faultRecord_issue _ _
  · split
    · rfl
    split
    · rfl
    · exact faultRecord_issue _ _

theorem faultRecord_runCfg (l : List ConfigReq) (s : State) : faultRecord (runCfg l s) = faultRecord s := by
  induction l generalizing s with
  | nil => rfl
  | cons q rest ih =>
    unfold runCfg
    dsimp only
    split
    · exact faultRecord_startCfg q s
    · exact (ih _).trans (faultRecord_startCfg q s)

@[simp] theorem faultRecord_answerCfg (st : Status) (figures : List Byte) (s : State) :
    faultRecord (answerCfg st figures s) = faultRecord s := by
  unfold answerCfg
  split
  · exact faultRecord_runCfg _ _
  · rfl

/-- FAULT as the failed write sets it (R125). -/
theorem faultRecord_enterFault (region : Region) (j : Nat) (s : State) : faultRecord (enterFault region j s)
    = (some { region := region, journal := j }, .fault, s.mem, s.windows, s.pending) := by
  simp only [faultRecord, enterFault_storeFault, enterFault_store, enterFault_mem, enterFault_windows, enterFault_pending]

end Kept

/-! ### The failed write of each access (R88, R102, R118, R122, R125) -/

section Fails
variable {left : Residue} {op : PortOp} {s t u : State} {region : Region} {j : Nat}

/-- The store is in FAULT under this notice, and the record is as the device left it. -/
def FaultSetBy (left : Residue) (op : PortOp) (region : Region) (j : Nat) (s t : State) : Prop := t.jc.store = .fault
  ∧ t.hlp.notices.storeFault = some { region := region, journal := j } ∧ t.mem = (leaveOp op left s).mem
  ∧ t.windows = s.windows ∧ t.pending = s.pending

/-- The work and the port's next access after FAULT leave its record. -/
theorem faultSetBy_of_kept (h : faultRecord t = faultRecord (enterFault region j (leaveOp op left s))) :
    FaultSetBy left op region j s (portNext 2 t) := by
  have hrecord := (faultRecord_portNext 2 t).trans (h.trans (faultRecord_enterFault region j (leaveOp op left s)))
  simp only [faultRecord, Prod.mk.injEq, leaveOp_windows, leaveOp_pending] at hrecord
  obtain ⟨hnotice, hstore, hmem, hwindows, hpending⟩ := hrecord
  exact ⟨hstore, hnotice, hmem, hwindows, hpending⟩

theorem appendFailed_record (b : JBody) : faultRecord (appendFailed b left s)
    = faultRecord (enterFault .journal b.number (leaveOp (.appendWrite b) left s)) := by
  unfold appendFailed
  dsimp only
  split
  · rfl
  · exact faultRecord_refuseItem _ _ _ _ _ _

theorem cardWriteFailed_record (k : Nat) (m : Movement) (j p : Nat) : faultRecord (cardWriteFailed k m j p left s)
    = faultRecord (enterFault .cards j (leaveOp (.cardWrite k m j p) left s)) := by
  simp [cardWriteFailed, finishReduced]

theorem commitFailed_record : faultRecord (commitFailed j s) = faultRecord (enterFault .journal j s) :=
  faultRecord_endRecoveryIfStarting _

theorem failAccrual_record : faultRecord (failAccrual region j s) = faultRecord (enterFault region j s) :=
  faultRecord_endRecoveryIfStarting _

theorem failWalk_record : faultRecord (failWalk region j s) = faultRecord (enterFault region j s) :=
  faultRecord_endRecoveryIfStarting _

theorem totalsFailed_epoch_record (copy : Totals) (earlier : Nat) :
    faultRecord (totalsFailed .epoch copy earlier s) = faultRecord (enterFault .totals 0 s) :=
  faultRecord_issue _ _

theorem totalsFailed_release_record (tag p : Nat) (copy : Totals) (earlier : Nat) :
    faultRecord (totalsFailed (.release tag p) copy earlier s) = faultRecord (enterFault .totals 0 s) := rfl

theorem totalsFailed_advice_record (tag n : Nat) (recs : List (List Byte)) (copy : Totals) (earlier : Nat) :
    faultRecord (totalsFailed (.advice tag n recs) copy earlier s) = faultRecord (enterFault .totals 0 s) :=
  faultRecord_answerAdvice _ _ _

/-- A failed totals write of an accrual names its record (R88). -/
theorem totalsFailed_accrual_record {a : Accrual} (ha : s.mau.accrual = some a) (copy : Totals) (earlier : Nat) :
    faultRecord (totalsFailed .accrual copy earlier s) = faultRecord (enterFault .totals a.body.number s) := by
  rw [totalsFailed, accrualNumber, ha]
  exact failAccrual_record

/-- A failed totals write of a walk names its PERIOD-END record (R102). -/
theorem totalsFailed_walkEnd_record {w : Walk} (ha : s.mau.accrual = none) (hw : s.mau.walk = some w) (copy : Totals)
    (earlier : Nat) : faultRecord (totalsFailed .walkEnd copy earlier s) = faultRecord (enterFault .totals w.j s) := by
  rw [totalsFailed, accrualNumber, ha, hw]
  exact failWalk_record

theorem exec_appendWriteFails {b : JBody} (hs : s.jc.serving = some (.appendWrite b)) :
    exec (.appendWriteFails left) s = .next (portNext 2 (appendFailed b left s)) := by
  rw [exec, execAppendWriteFails, hs]; rfl

theorem exec_cardWriteFails {k : Nat} {m : Movement} {p : Nat} (hs : s.jc.serving = some (.cardWrite k m j p)) :
    exec (.cardWriteFails left) s = .next (portNext 2 (cardWriteFailed k m j p left s)) := by
  rw [exec, execCardWriteFails, hs]; rfl

theorem exec_commitMarkFails {d : Int} {r : Nat} (hs : s.jc.serving = some (.commitMark j d r)) :
    exec (.commitMarkFails left) s = .next (portNext 2 (commitFailed j (leaveOp (.commitMark j d r) left s))) := by
  rw [exec, execCommitMarkFails, hs]; rfl

/-- The accrual of the record in stage 1 stops (R88). -/
theorem exec_accrualWriteFails {m : Nat} {r : MerchantRec} {a : Accrual} (hs : s.jc.serving = some (.accrualWrite m r))
    (ha : s.mau.accrual = some a) : exec (.accrualMerchantWriteDone (some left)) s
      = .next (portNext 2 (failAccrual .merchants a.body.number (leaveOp (.accrualWrite m r) left s))) := by
  rw [exec, execAccrualMerchantWriteDone, hs]
  simp only [complete, accrualWriteFailed, leaveOp_mau, ha]

/-- The walk stops (R102). -/
theorem exec_walkWriteFails {m : Nat} {r : MerchantRec} {w : Walk} (hs : s.jc.serving = some (.walkWrite m r))
    (hw : s.mau.walk = some w) : exec (.walkMerchantWriteFails left) s
      = .next (portNext 2 (failWalk .merchants w.j (leaveOp (.walkWrite m r) left s))) := by
  rw [exec, execWalkMerchantWriteFails, hs]
  simp only [complete, walkWriteFailed, leaveOp_mau, hw]

theorem exec_totalsWriteFails {job : TotalsJob} {copy : Totals} {earlier : Nat}
    (hs : s.jc.serving = some (.totalsWrite job copy earlier)) : exec (.totalsWriteFails left) s
      = .next (portNext 2 (nextTotals (totalsFailed job copy earlier (leaveOp (.totalsWrite job copy earlier) left s)))) := by
  rw [exec, execTotalsWriteFails, hs]; rfl

theorem exec_configWriteFails_item {i : ConfigItem} (hs : s.jc.serving = some (.configWrite i)) :
    exec (.configWriteFails left) s
      = .next (portNext 2 (answerCfg .storeFault [] (enterFault .config 0 (leaveOp (.configWrite i) left s)))) := by
  rw [exec, execConfigWriteFails, hs]; rfl

theorem exec_configWriteFails_merchant {tag m : Nat} {before : MerchantState} {r : MerchantRec}
    (hs : s.jc.serving = some (.setMerchantWrite tag m before r)) : exec (.configWriteFails left) s
      = .next (portNext 2 (answerCfg .storeFault []
          (enterFault .merchants 0 (leaveOp (.setMerchantWrite tag m before r) left s)))) := by
  rw [exec, execConfigWriteFails, hs]; rfl

theorem exec_formatWriteFails {stage i a : Nat} {bs : List Byte} {job : FormatJob}
    (hs : s.jc.serving = some (.formatWrite stage i a bs)) (hf : s.jc.format = some job) :
    exec (.formatWriteFails left) s = .next (portNext 2 (formatFailed job (leaveOp (.formatWrite stage i a bs) left s))) := by
  rw [exec, execFormatWriteFails, hs]
  simp only [complete, formatStops, leaveOp_jc, hf]

theorem exec_recoveryCardWriteFails {b : JBody} (hs : s.jc.serving = some (.recoveryCardWrite b)) :
    exec (.recoveryCardWriteDone (some left)) s
      = .next (portNext 2 (finishRecovery (enterFault .cards b.number (leaveOp (.recoveryCardWrite b) left s)))) := by
  rw [exec, execRecoveryCardWriteDone, hs]; rfl

/-! ### A failed FORMAT write (R172) -/

/-- FORMAT stops in UNFORMATTED with the copies cleared, and its request is answered (R172). -/
def formatStopped (job : FormatJob) (s : State) : State :=
  let t := setFigures 0 0 0 (clearCopies (enterFault (stageRegion job.stage) 0 s))
  { t with
    mau := { t.mau with copy := totalsReset }
    ht := { t.ht with epoch := 0 }
    jc := { t.jc with phase := .unformatted, format := none } }

theorem formatFailed_eq (job : FormatJob) (s : State) :
    formatFailed job s = answerCfg .storeFault (fig 1 job.stage) (formatStopped job s) := rfl

theorem formatFailed_record (job : FormatJob) (s : State) : faultRecord (formatFailed job s)
    = (some { region := stageRegion job.stage, journal := 0 }, .fault, s.mem, Vector.replicate 8 windowReset, s.pending) := by
  have hrecord := faultRecord_enterFault (stageRegion job.stage) 0 s
  simp only [faultRecord, Prod.mk.injEq] at hrecord
  obtain ⟨hnotice, hstore, hmem, -, hpending⟩ := hrecord
  rw [formatFailed_eq, faultRecord_answerCfg]
  show (_, _, _, _, _) = _
  rw [← hnotice, ← hstore, ← hmem, ← hpending]
  rfl

/-- With no other request of R170 waiting, the part is UNFORMATTED and runs no FORMAT (R172). -/
theorem answerCfg_alone {st : Status} {figures : List Byte} (h : s.jc.cfgWaiting = []) :
    (answerCfg st figures s).jc.phase = s.jc.phase ∧ (answerCfg st figures s).jc.format = s.jc.format := by
  unfold answerCfg
  split
  · rw [h]; exact ⟨rfl, rfl⟩
  · exact ⟨rfl, rfl⟩

/-- What a failed write sets (R125), and for a FORMAT's where it takes the part (R172). -/
def FailsWith (left : Residue) (op : PortOp) (s : State) (c : Instr) (region : Region) (j : Nat) : Prop :=
  ∃ t, exec c s = .next t ∧ t.jc.store = .fault
    ∧ t.hlp.notices.storeFault = some { region := region, journal := j } ∧ t.mem = (leaveOp op left s).mem
    ∧ t.windows = (match op with | .formatWrite _ _ _ _ => t.windows | _ => s.windows) ∧ t.pending = s.pending
    ∧ (match op with | .formatWrite _ _ _ _ => s.jc.cfgWaiting = [] → t.jc.phase = .unformatted ∧ t.jc.format = none | _ => True)

/-- An access that is no FORMAT write. -/
theorem failsWith_of_record {c : Instr} (hop : ∀ stage i a bs, op ≠ .formatWrite stage i a bs)
    (hexec : exec c s = .next (portNext 2 t)) (hrecord : faultRecord t = faultRecord (enterFault region j (leaveOp op left s))) :
    FailsWith left op s c region j := by
  obtain ⟨hstore, hnotice, hmem, hwindows, hpending⟩ := faultSetBy_of_kept hrecord
  refine ⟨_, hexec, hstore, hnotice, hmem, ?_, hpending, ?_⟩
  · split
    · rfl
    · exact hwindows
  · split
    · exact absurd rfl (hop _ _ _ _)
    · trivial

/-- A totals write that fails, by its job (R88, R102, R106, R123, R127). -/
theorem totalsWrite_failsWith {job : TotalsJob} {copy : Totals} {earlier : Nat}
    (hs : s.jc.serving = some (.totalsWrite job copy earlier))
    (hrecord : faultRecord (totalsFailed job copy earlier (leaveOp (.totalsWrite job copy earlier) left s))
      = faultRecord (enterFault .totals j (leaveOp (.totalsWrite job copy earlier) left s))) :
    FailsWith left (.totalsWrite job copy earlier) s (.totalsWriteFails left) .totals j :=
  failsWith_of_record nofun (exec_totalsWriteFails hs) ((faultRecord_nextTotals _).trans hrecord)

/-- A FORMAT write that fails (R172). -/
theorem formatWrite_failsWith {job : FormatJob} {i a : Nat} {bs : List Byte}
    (hs : s.jc.serving = some (.formatWrite job.stage i a bs)) (hf : s.jc.format = some job) :
    FailsWith left (.formatWrite job.stage i a bs) s (.formatWriteFails left) (stageRegion job.stage) 0 := by
  have hrecord := (faultRecord_portNext 2 _).trans (formatFailed_record job (leaveOp (.formatWrite job.stage i a bs) left s))
  simp only [faultRecord, Prod.mk.injEq, leaveOp_pending] at hrecord
  obtain ⟨hnotice, hstore, hmem, -, hpending⟩ := hrecord
  refine ⟨_, exec_formatWriteFails hs hf, hstore, hnotice, hmem, rfl, hpending, fun hw => ?_⟩
  have hwaiting : (formatStopped job (leaveOp (.formatWrite job.stage i a bs) left s)).jc.cfgWaiting = [] := by
    simpa [formatStopped, setFigures] using hw
  rw [portNext_jc_phase, portNext_jc_format, formatFailed_eq]
  exact answerCfg_alone hwaiting

end Fails

end Sys2Proof.Machine
end

section
/-! What FAULT ends: the records refused, the writes dropped, the sweep (O44). -/

namespace Sys2Proof.Machine
open Sys2Proof Sys2Proof.Safety

/-- What one element of a list settles, the others keep, holds after the whole list. -/
theorem foldl_reaches {α : Type} {f : State → α → State} {I P : State → Prop} {l : List α} {a : α} {s : State} (ha : a ∈ l)
    (hs : I s) (hI : ∀ s b, b ∈ l → I s → I (f s b)) (hset : ∀ s, I s → P (f s a)) (hkeep : ∀ s b, b ∈ l → I s → P s → P (f s b)) :
    P (l.foldl f s) := by
  obtain ⟨pre, post, rfl⟩ := List.append_of_mem ha
  have hpre : I (pre.foldl f s) := List.foldlRecOn pre f hs fun u hu b hb => hI u b (List.mem_append_left _ hb) hu
  have hset' : I (f (pre.foldl f s) a) ∧ P (f (pre.foldl f s) a) := ⟨hI _ a ha hpre, hset _ hpre⟩
  rw [List.foldl_append, List.foldl_cons]
  refine (List.foldlRecOn (motive := fun u => I u ∧ P u) post f hset' fun u hu b hb => ?_).2
  have hmem : b ∈ pre ++ a :: post := List.mem_append_right _ (List.mem_cons_of_mem _ hb)
  exact ⟨hI u b hmem hu.1, hkeep u b hmem hu.1 hu.2⟩

/-! ### Replies in the outbound queue (R161) -/

/-- A reply with this tag is in the outbound queue. -/
def Answered (tag : Nat) (r : Reply) (s : State) : Prop := ∃ f ∈ s.hlp.outbound, f.tag = tag ∧ f.reply = r

section Outbound
variable {tag : Nat} {r : Reply} {s t : State}

theorem Answered.mono (h : Answered tag r s) (hp : s.hlp.outbound <+: t.hlp.outbound) : Answered tag r t := by
  obtain ⟨f, hf, hreply⟩ := h
  exact ⟨f, hp.subset hf, hreply⟩

theorem answered_sendLink (tag : Nat) (r : Reply) (s : State) : Answered tag r (sendLink tag r s) := by
  rw [sendLink, pushFrame_eq rfl]
  exact ⟨_, List.mem_append_right _ (List.mem_singleton_self _), rfl, rfl⟩

theorem outbound_sendLink (tag : Nat) (r : Reply) (s : State) : s.hlp.outbound <+: (sendLink tag r s).hlp.outbound :=
  List.prefix_append _ _

theorem outbound_sendReply (o : Origin) (r : Reply) (s : State) : s.hlp.outbound <+: (sendReply o r s).hlp.outbound := by
  cases o with
  | link tag => exact outbound_sendLink tag r s
  | station n e => rw [sendReply, sendStation_hlp_outbound]

theorem outbound_answerOwner (k : Nat) (req : CardReq) (r : Reply) (s : State) :
    s.hlp.outbound <+: (answerOwner k req r s).hlp.outbound := by
  rw [answerOwner, releaseLock_hlp]
  exact outbound_sendReply _ _ _

theorem outbound_refuseItem (i : AppendItem) (st : Status) (reason : Nat) (extra : List Byte) (j : Nat) (s : State) :
    s.hlp.outbound <+: (refuseItem i st reason extra j s).hlp.outbound := by
  cases i with
  | movement k m =>
    rw [← returnClaim_hlp m s]
    exact outbound_answerOwner _ _ _ _
  | admin tag k m => exact outbound_sendLink _ _ _
  | cutoff tag => exact outbound_sendLink _ _ _

theorem outbound_runAdvice (l : List (Nat × Nat)) (s : State) : s.hlp.outbound <+: (runAdvice l s).hlp.outbound := by
  induction l generalizing s with
  | nil => exact List.prefix_rfl
  | cons q rest ih =>
    simp only [runAdvice]
    split
    · exact (outbound_sendLink _ _ _).trans (ih _)
    split
    · rw [issue_hlp]
    · exact (outbound_sendLink _ _ _).trans (ih _)

theorem outbound_dropJob (s : State) (job : TotalsJob) : s.hlp.outbound <+: (dropJob s job).hlp.outbound := by
  cases job with
  | epoch | accrual | walkEnd => exact List.prefix_rfl
  | release tag p => exact outbound_sendLink _ _ _
  | advice tag n recs => exact (outbound_sendLink _ _ _).trans (outbound_runAdvice _ _)

theorem outbound_dropDue (s : State) : s.hlp.outbound <+: (dropDue s).hlp.outbound := by
  unfold dropDue
  refine List.foldlRecOn (motive := fun u => s.hlp.outbound <+: u.hlp.outbound) _ _ ?_ fun u hu job _ =>
    hu.trans (outbound_dropJob u job)
  exact List.prefix_rfl

end Outbound

/-! ### Records refused (R39, R46, R126, R152) -/

/-- A record whose access is not issued is refused at FAULT (R126). -/
def refuseAtFault (s : State) (i : AppendItem) : State := refuseItem i .storeFault 0 [] 0 s

section Refused
variable {s : State} {i : AppendItem} {I P : State → Prop}

/-- What the refusal of one record settles and the others keep, FAULT settles. -/
theorem refuseUnissued_reaches (hi : i ∈ unissued s)
    (hs : ∀ queue, I { s with jc := { s.jc with appendQueue := queue } })
    (hI : ∀ u b, b ∈ unissued s → I u → I (refuseAtFault u b)) (hset : ∀ u, I u → P (refuseAtFault u i))
    (hkeep : ∀ u b, b ∈ unissued s → I u → P u → P (refuseAtFault u b)) : P (refuseUnissued s) :=
  foldl_reaches hi (hs _) hI hset hkeep

/-- The reply that the refusal of a record of the link forms. -/
theorem refuseUnissued_answers {tag : Nat} {r : Reply} (hi : i ∈ unissued s) (hset : ∀ u, Answered tag r (refuseAtFault u i)) :
    Answered tag r (refuseUnissued s) :=
  refuseUnissued_reaches (I := fun _ => True) hi (fun _ => trivial) (fun _ _ _ _ => trivial) (fun u _ => hset u)
    fun u b _ _ h => h.mono (outbound_refuseItem b _ _ _ _ u)

theorem refuseAtFault_movement (k : Nat) (m : Movement) (u : State) : refuseAtFault u (.movement k m)
    = answerOwner k m.req (plainReply m.req.kind.code .storeFault 0 (fig 4 m.req.card)) (returnClaim m u) := by
  rw [← refusal_eq_plainReply]; rfl

theorem refuseAtFault_link {k tag : Nat} {m : Movement} (ho : m.req.origin = .link tag) (u : State) :
    Answered tag (plainReply m.req.kind.code .storeFault 0 (fig 4 m.req.card)) (refuseAtFault u (.movement k m)) := by
  rw [refuseAtFault_movement, answerOwner, ho]
  refine (answered_sendLink tag _ (returnClaim m u)).mono ?_
  rw [releaseLock_hlp]
  exact List.prefix_rfl

/-- The holds that a movement's reference names are ACTIVE. -/
def ClaimsBack (req : CardReq) (s : State) : Prop := ∀ h ∈ s.ht.holds,
  h.card = req.card → h.slot = req.slot → h.epoch = req.epoch → h.serial = req.serial → h.state = .active

/-- A hold marked ACTIVE is another's or ACTIVE. -/
theorem claimsBack_markHold {req : CardReq} {card slot epoch serial : Nat} (h : ∀ x ∈ s.ht.holds,
    (x.on card slot && x.named epoch serial) = false → x.card = req.card → x.slot = req.slot → x.epoch = req.epoch →
      x.serial = req.serial → x.state = .active) : ClaimsBack req (markHold card slot epoch serial .active s) := by
  intro x hx
  obtain ⟨y, hy, rfl⟩ := List.mem_map.mp hx
  cases hc : y.on card slot && y.named epoch serial with
  | true => exact fun _ _ _ _ => rfl
  | false => exact h y hy hc

theorem claimsBack_markHold_same (req : CardReq) (s : State) :
    ClaimsBack req (markHold req.card req.slot req.epoch req.serial .active s) :=
  claimsBack_markHold fun x _ hno hcard hslot hepoch hserial => absurd hno (by
    simp [Hold.on, Hold.named, hcard, hslot, hepoch, hserial])

theorem claimsBack_refuse {req : CardReq} (h : ClaimsBack req s) (b : AppendItem) : ClaimsBack req (refuseAtFault s b) := by
  cases b with
  | movement k m =>
    rw [refuseAtFault_movement, ClaimsBack, answerOwner_ht, returnClaim]
    split
    · exact claimsBack_markHold fun x hx _ => h x hx
    · exact h
  | admin tag k m => exact h
  | cutoff tag => exact h

theorem claimsBack_refuse_same {k : Nat} {m : Movement} (hm : m.kind = .capture) (s : State) :
    ClaimsBack m.req (refuseAtFault s (.movement k m)) := by
  rw [refuseAtFault_movement, ClaimsBack, answerOwner_ht, returnClaim, if_pos hm]
  exact claimsBack_markHold_same m.req s

/-! The reply held for a station (R152). -/

section Station
variable {n e : Nat}

/-- A refusal that is not for a station leaves its entry. -/
theorem refuseAtFault_station_ne (b : AppendItem) (s : State)
    (hb : ∀ k m, b = .movement k m → m.req.origin ≠ .station n e) : (refuseAtFault s b).station n e = s.station n e := by
  cases b with
  | movement k m =>
    have ho := hb k m rfl
    rw [refuseAtFault_movement, answerOwner, State.station, State.line, releaseLock_lines]
    cases horigin : m.req.origin with
    | link tag => simp [State.station, State.line, sendReply]
    | station n' e' =>
      have hne : (n', e') ≠ (n, e) := by
        rintro ⟨⟩
        exact ho horigin
      have hclaim : (returnClaim m s).station n e = s.station n e := by simp [State.station, State.line]
      rw [← hclaim]
      show (sendStation n' e' _ _).station n e = _
      unfold sendStation
      split
      · exact setStation_station_ne hne
      · exact setStation_station_ne hne
      · exact setStation_station_ne hne
  | admin tag k m => rfl
  | cutoff tag => rfl

/-- The entry of a station after a refusal of one of its requests (R152). -/
def refusedEntry (m : Movement) (x : Station) : Station :=
  if x.state = .faulty ∨ x.state = .disabled then { x with held := none, outstanding := false }
  else { x with held := some (plainReply m.req.kind.code .storeFault 0 (fig 4 m.req.card)) }

theorem refuseAtFault_station_same {k : Nat} {m : Movement} (ho : m.req.origin = .station n e) (hn : n < 4) (he : e < 48)
    (s : State) : (refuseAtFault s (.movement k m)).station n e = refusedEntry m (s.station n e) := by
  have hclaim : (returnClaim m s).station n e = s.station n e := by simp [State.station, State.line]
  rw [refuseAtFault_movement, answerOwner, State.station, State.line, releaseLock_lines, ho, ← hclaim, refusedEntry]
  split
  · next h =>
    rw [sendStation_discarded h]
    exact setStation_station_same (s := returnClaim m s) hn he
  · next h =>
    obtain ⟨hf, hd⟩ := not_or.mp h
    rw [sendStation_held hf hd]
    exact setStation_station_same hn he

theorem refusedEntry_state (m : Movement) (x : Station) : (refusedEntry m x).state = x.state := by
  unfold refusedEntry
  split
  · rfl
  · rfl

/-- A record is a request's of this station. -/
def ofStation (n e : Nat) (i : AppendItem) : Prop := ∃ k m, i = .movement k m ∧ m.req.origin = .station n e

/-- A refusal leaves the state of every entry (R152). -/
theorem refuseAtFault_station_state (hn : n < 4) (he : e < 48) (b : AppendItem) (s : State) :
    ((refuseAtFault s b).station n e).state = (s.station n e).state := by
  by_cases hb : ofStation n e b
  · obtain ⟨k, m, rfl, ho⟩ := hb
    rw [refuseAtFault_station_same ho hn he, refusedEntry_state]
  · rw [refuseAtFault_station_ne b s fun k m hk ho => hb ⟨k, m, hk, ho⟩]

/-- FAULT leaves a station with the entry that the refusal of one of its requests leaves (R152). -/
theorem refuseUnissued_station (hi : i ∈ unissued s) (ho : ofStation n e i) (hn : n < 4) (he : e < 48) :
    ∃ k m x, .movement k m ∈ unissued s ∧ m.req.origin = .station n e ∧ x.state = (s.station n e).state
      ∧ (refuseUnissued s).station n e = refusedEntry m x := by
  have hset (u : State) (b : AppendItem) (hb : b ∈ unissued s) (hu : (u.station n e).state = (s.station n e).state)
      (hof : ofStation n e b) : ∃ k m x, .movement k m ∈ unissued s ∧ m.req.origin = .station n e
        ∧ x.state = (s.station n e).state ∧ (refuseAtFault u b).station n e = refusedEntry m x := by
    obtain ⟨k, m, rfl, hm⟩ := hof
    exact ⟨k, m, u.station n e, hb, hm, hu, refuseAtFault_station_same hm hn he u⟩
  refine refuseUnissued_reaches (I := fun u => (u.station n e).state = (s.station n e).state) (P := fun u =>
      ∃ k m x, .movement k m ∈ unissued s ∧ m.req.origin = .station n e ∧ x.state = (s.station n e).state
        ∧ u.station n e = refusedEntry m x) hi (fun _ => rfl)
    (fun u b _ hu => (refuseAtFault_station_state hn he b u).trans hu) (fun u hu => hset u i hi hu ho) fun u b hb hu hP => ?_
  by_cases hof : ofStation n e b
  · exact hset u b hb hu hof
  · rw [refuseAtFault_station_ne b u fun k m hk ho => hof ⟨k, m, hk, ho⟩]
    exact hP

end Station

end Refused

/-! ### Totals writes dropped (R89, R102, R126) -/

section Dropped
variable {s : State} {job : TotalsJob} {P : State → Prop}

/-- What the drop of one totals write settles and the others keep, holds after all of them. -/
theorem dropDue_reaches (hjob : job ∈ s.mau.totalsDue) (hset : ∀ u, P (dropJob u job)) (hkeep : ∀ u b, P u → P (dropJob u b)) :
    P (dropDue s) :=
  foldl_reaches (I := fun _ => True) hjob trivial (fun _ _ _ _ => trivial) (fun u _ => hset u) fun u b _ _ => hkeep u b

theorem dropDue_totalsDue (s : State) : (dropDue s).mau.totalsDue = [] :=
  foldl_keeps dropJob (fun u => u.mau.totalsDue) (fun u b => dropJob_mau_totalsDue u b) s.mau.totalsDue
    { s with mau := { s.mau with totalsDue := [] } }

theorem dropDue_answers {tag : Nat} {r : Reply} (hjob : job ∈ s.mau.totalsDue) (hset : ∀ u, Answered tag r (dropJob u job)) :
    Answered tag r (dropDue s) :=
  dropDue_reaches hjob hset fun u b h => h.mono (outbound_dropJob u b)

theorem dropDue_accrual (h : .accrual ∈ s.mau.totalsDue) : (dropDue s).mau.accrual = none :=
  dropDue_reaches (P := fun u => u.mau.accrual = none) h (fun _ => rfl) fun u b hu => by
    cases b with
    | accrual => rfl
    | epoch | walkEnd | release tag p => exact hu
    | advice tag n recs => rw [dropJob, answerAdvice_mau]; exact hu

theorem dropDue_walk (h : .walkEnd ∈ s.mau.totalsDue) : (dropDue s).mau.walk = none :=
  dropDue_reaches (P := fun u => u.mau.walk = none) h (fun _ => rfl) fun u b hu => by
    cases b with
    | walkEnd => rfl
    | epoch | accrual | release tag p => exact hu
    | advice tag n recs => rw [dropJob, answerAdvice_mau]; exact hu

theorem dropDue_releasing {tag p : Nat} (h : .release tag p ∈ s.mau.totalsDue) : (dropDue s).pcu.releasing = false :=
  dropDue_reaches (P := fun u => u.pcu.releasing = false) h (fun _ => rfl) fun u b hu => by
    cases b with
    | release tag p => rfl
    | epoch | accrual | walkEnd => exact hu
    | advice tag n recs => rw [dropJob, answerAdvice_pcu]; exact hu

end Dropped

/-! ### The sweep's notice (R141) -/

section Sweep
variable {s : State}

theorem sweepDone_sendReply (o : Origin) (r : Reply) (s : State) :
    (sendReply o r s).hlp.notices.sweepDone = s.hlp.notices.sweepDone := by
  cases o with
  | link tag => rfl
  | station n e =>
    simp only [sendReply, sendStation]
    split
    · rfl
    · rfl
    · rfl

theorem sweepDone_refuseAtFault (s : State) (i : AppendItem) :
    (refuseAtFault s i).hlp.notices.sweepDone = s.hlp.notices.sweepDone := by
  cases i with
  | movement k m =>
    rw [refuseAtFault_movement, answerOwner, releaseLock_hlp, sweepDone_sendReply, returnClaim_hlp]
  | admin tag k m => rfl
  | cutoff tag => rfl

theorem sweepDone_refuseUnissued (s : State) : (refuseUnissued s).hlp.notices.sweepDone = s.hlp.notices.sweepDone :=
  foldl_keeps refuseAtFault (fun u => u.hlp.notices.sweepDone) sweepDone_refuseAtFault (unissued s)
    { s with jc := { s.jc with appendQueue := if s.jc.appendIssued then s.jc.appendQueue.take 1 else [] } }

theorem abortSweep_running (h : s.asu.state = .running) :
    (abortSweep s).asu = { s.asu with state := .idle, stale := s.asu.stale || s.asu.outstanding }
      ∧ ∃ d, (abortSweep s).hlp.notices.sweepDone = some d ∧ d.outcome = .aborted := by
  rw [abortSweep, h]
  exact ⟨rfl, _, rfl, rfl⟩

theorem abortSweep_idle (h : s.asu.state = .idle) : (abortSweep s).asu = s.asu := by rw [abortSweep, h]

end Sweep

/-! ### FAULT as it is entered (R125, R126) -/

/-- The store in FAULT with its notice raised and the sweep aborted, before anything is refused (R125, R141). -/
def faultBegun (region : Region) (j : Nat) (s : State) : State :=
  abortSweep { raiseStoreFault region j s with jc := { s.jc with store := .fault } }

section Entered
variable {region : Region} {j : Nat} {s : State}

theorem enterFault_normal (h : s.jc.store = .normal) :
    enterFault region j s = dropDue (refuseUnissued (faultBegun region j s)) := enterFault_first region j s h

theorem unissued_faultBegun : unissued (faultBegun region j s) = unissued s := by simp [unissued, faultBegun]

theorem totalsDue_refused : (refuseUnissued (faultBegun region j s)).mau.totalsDue = s.mau.totalsDue := by
  rw [refuseUnissued_mau, faultBegun, abortSweep_mau]; rfl

theorem refuseUnissued_appendQueue (s : State) :
    (refuseUnissued s).jc.appendQueue = if s.jc.appendIssued then s.jc.appendQueue.take 1 else [] :=
  foldl_keeps refuseAtFault (fun u => u.jc.appendQueue) (fun u i => refuseItem_jc_appendQueue i _ _ _ _ u) (unissued s)
    { s with jc := { s.jc with appendQueue := if s.jc.appendIssued then s.jc.appendQueue.take 1 else [] } }

/-- What is left of the append queue at FAULT (R126). -/
theorem enterFault_appendQueue (h : s.jc.store = .normal) : (enterFault region j s).jc.appendQueue
    = if s.jc.appendIssued then s.jc.appendQueue.take 1 else [] := by
  rw [enterFault_normal h, dropDue_jc_appendQueue, refuseUnissued_appendQueue, faultBegun, abortSweep_jc]

/-- A record of the link refused at FAULT is answered (R126). -/
theorem enterFault_answers_record {tag : Nat} {r : Reply} {i : AppendItem} (h : s.jc.store = .normal) (hi : i ∈ unissued s)
    (hset : ∀ u, Answered tag r (refuseAtFault u i)) : Answered tag r (enterFault region j s) := by
  rw [enterFault_normal h]
  exact (refuseUnissued_answers (by rwa [unissued_faultBegun]) hset).mono (outbound_dropDue _)

/-- A request whose totals write is dropped is answered (R126). -/
theorem enterFault_answers_job {tag : Nat} {r : Reply} {job : TotalsJob} (h : s.jc.store = .normal) (hjob : job ∈ s.mau.totalsDue)
    (hset : ∀ u, Answered tag r (dropJob u job)) : Answered tag r (enterFault region j s) := by
  rw [enterFault_normal h]
  exact dropDue_answers (by rwa [totalsDue_refused]) hset

/-- The hold of a capture that is refused is ACTIVE (R39). -/
theorem enterFault_claimsBack {k : Nat} {m : Movement} (h : s.jc.store = .normal) (hi : .movement k m ∈ unissued s)
    (hm : m.kind = .capture) : ClaimsBack m.req (enterFault region j s) := by
  rw [enterFault_normal h, ClaimsBack, dropDue_ht]
  exact refuseUnissued_reaches (I := fun _ => True) (P := ClaimsBack m.req) (by rwa [unissued_faultBegun]) (fun _ => trivial)
    (fun _ _ _ _ => trivial) (fun u _ => claimsBack_refuse_same hm u) fun u b _ _ hu => claimsBack_refuse hu b

/-- The entry of a station with a request that is refused (R152). -/
theorem enterFault_station {i : AppendItem} {n e : Nat} (h : s.jc.store = .normal) (hi : i ∈ unissued s) (ho : ofStation n e i)
    (hn : n < 4) (he : e < 48) : ∃ k m x, .movement k m ∈ unissued s ∧ m.req.origin = .station n e
      ∧ x.state = (s.station n e).state ∧ (enterFault region j s).station n e = refusedEntry m x := by
  obtain ⟨k, m, x, hmem, hm, hx, hentry⟩ :=
    refuseUnissued_station (s := faultBegun region j s) (by rwa [unissued_faultBegun]) ho hn he
  have hlines : (faultBegun region j s).lines = s.lines := abortSweep_lines _
  refine ⟨k, m, x, unissued_faultBegun ▸ hmem, hm, ?_, ?_⟩
  · rw [hx, State.station, State.line, hlines]; rfl
  · rw [enterFault_normal h, ← hentry, State.station, State.line, dropDue_lines]; rfl

/-- A running sweep is aborted at FAULT (R141). -/
theorem enterFault_sweep_running (h : s.jc.store = .normal) (hrun : s.asu.state = .running) :
    (enterFault region j s).asu = { s.asu with state := .idle, stale := s.asu.stale || s.asu.outstanding }
      ∧ ∃ d, (enterFault region j s).hlp.notices.sweepDone = some d ∧ d.outcome = .aborted := by
  rw [enterFault_normal h, dropDue_asu, refuseUnissued_asu, dropDue_hlp_notices, sweepDone_refuseUnissued]
  exact abortSweep_running hrun

theorem enterFault_sweep_idle (h : s.jc.store = .normal) (hidle : s.asu.state = .idle) : (enterFault region j s).asu = s.asu := by
  rw [enterFault_normal h, dropDue_asu, refuseUnissued_asu]
  exact abortSweep_idle hidle

/-- The totals writes due end at FAULT, and their accrual, walk or release with them (R89, R102, R126). -/
theorem enterFault_dropped (h : s.jc.store = .normal) :
    (enterFault region j s).mau.totalsDue = [] ∧ (.accrual ∈ s.mau.totalsDue → (enterFault region j s).mau.accrual = none)
      ∧ (.walkEnd ∈ s.mau.totalsDue → (enterFault region j s).mau.walk = none)
      ∧ ∀ tag p, .release tag p ∈ s.mau.totalsDue → (enterFault region j s).pcu.releasing = false := by
  have hdue {job : TotalsJob} (hjob : job ∈ s.mau.totalsDue) : job ∈ (refuseUnissued (faultBegun region j s)).mau.totalsDue := by
    rwa [totalsDue_refused]
  rw [enterFault_normal h]
  exact ⟨dropDue_totalsDue _, fun ha => dropDue_accrual (hdue ha), fun hw => dropDue_walk (hdue hw),
    fun _ _ hr => dropDue_releasing (hdue hr)⟩

end Entered

/-! ### The failed append and the failed card write (R48, R118) -/

section Failed
variable {s : State}

theorem appendWritten_fault {b : JBody} {item : AppendItem} {rest : List AppendItem} (hq : s.jc.appendQueue = item :: rest)
    (hs : s.jc.store = .fault) :
    appendWritten b s = refuseAppended item rest b.number (storeOp (.appendWrite b) s) := by
  simp only [appendWritten, storeOp_jc, hq, hs]

/-- The record of a failed append is the one left in the queue at FAULT (R118). -/
theorem appendFailed_normal {b : JBody} {item : AppendItem} {rest : List AppendItem} {left : Residue}
    (hq : s.jc.appendQueue = item :: rest) (hs : s.jc.store = .normal) (hissued : s.jc.appendIssued = true) :
    appendFailed b left s
      = refuseAppended item [] b.number (enterFault .journal b.number (leaveOp (.appendWrite b) left s)) := by
  have hleft : (leaveOp (.appendWrite b) left s).jc.store = .normal := by rw [leaveOp_jc, hs]
  have hqueue := enterFault_appendQueue (region := .journal) (j := b.number) hleft
  rw [leaveOp_jc, hissued, hq, if_pos rfl, List.take_succ_cons, List.take_zero] at hqueue
  simp only [appendFailed, hqueue]

/-- The reduced completion of a failed card write (R48). -/
theorem cardWriteFailed_eq (k : Nat) (m : Movement) (j p : Nat) (left : Residue) :
    cardWriteFailed k m j p left s = answerOwner k m.req
      { kind := m.req.kind.code, status := .storeFault, figures := fig 4 m.req.card ++ fig 6 j, journal := j }
      ((enterFault .cards j (leaveOp (.cardWrite k m j p) left s)).setHolds
        (heldAfter m (enterFault .cards j (leaveOp (.cardWrite k m j p) left s)).ht.holds)) := by
  rw [cardWriteFailed, finishReduced, completeHolds_eq]
  rfl

end Failed

/-- Settles O44: each failed write by the record that FAULT leaves, then what FAULT ends, and the answers of the failed append and
of the failed card write. -/
theorem failedWritesSetFault : Obligations.FailedWritesSetFault := by
  refine ⟨?_, ?_, ?_, ?_, ?_⟩
  · intro left op s hs fails
    cases op with
    | appendWrite b => exact failsWith_of_record nofun (exec_appendWriteFails hs) (appendFailed_record b)
    | cardWrite k m j p => exact failsWith_of_record nofun (exec_cardWriteFails hs) (cardWriteFailed_record k m j p)
    | commitMark j d r => exact failsWith_of_record nofun (exec_commitMarkFails hs) commitFailed_record
    | accrualWrite m r => exact fun a ha => failsWith_of_record nofun (exec_accrualWriteFails hs ha) failAccrual_record
    | walkWrite m r => exact fun w hw => failsWith_of_record nofun (exec_walkWriteFails hs hw) failWalk_record
    | totalsWrite job copy earlier =>
      cases job with
      | epoch => exact totalsWrite_failsWith hs (totalsFailed_epoch_record copy earlier)
      | release tag p => exact totalsWrite_failsWith hs (totalsFailed_release_record tag p copy earlier)
      | advice tag n recs => exact totalsWrite_failsWith hs (totalsFailed_advice_record tag n recs copy earlier)
      | accrual => exact fun a ha => totalsWrite_failsWith hs (totalsFailed_accrual_record (by simpa using ha) copy earlier)
      | walkEnd =>
        exact fun w ha hw => totalsWrite_failsWith hs
          (totalsFailed_walkEnd_record (by simpa using ha) (by simpa using hw) copy earlier)
    | configWrite i => exact failsWith_of_record nofun (exec_configWriteFails_item hs) (faultRecord_answerCfg _ _ _)
    | setMerchantWrite tag m before r =>
      exact failsWith_of_record nofun (exec_configWriteFails_merchant hs) (faultRecord_answerCfg _ _ _)
    | recoveryCardWrite b => exact failsWith_of_record nofun (exec_recoveryCardWriteFails hs) (faultRecord_finishRecovery _)
    | formatWrite stage i a bs =>
      rintro job hf rfl
      exact formatWrite_failsWith hs hf
    | _ => trivial
  · intro region j s hs t refused answered
    obtain ⟨hdue, haccrual, hwalk, hreleasing⟩ := enterFault_dropped (region := region) (j := j) hs
    refine ⟨enterFault_store region j s, enterFault_appendQueue hs, fun tag k m hi => ?_, fun tag hi => ?_, fun k m hi => ?_,
      fun k m n e hi ho hn he => ?_, enterFault_sweep_running hs, enterFault_sweep_idle hs, hdue, haccrual, hwalk,
      fun tag p h => ?_, fun tag n recs h => ?_, ?_⟩
    · exact enterFault_answers_record hs hi fun u => answered_sendLink _ _ u
    · exact enterFault_answers_record hs hi fun u => answered_sendLink _ _ u
    · exact ⟨fun tag ho => enterFault_answers_record hs hi (refuseAtFault_link ho), enterFault_claimsBack hs hi⟩
    · obtain ⟨k', m', x, hmem, hm', hx, hentry⟩ := enterFault_station (region := region) (j := j) hs hi ⟨k, m, rfl, ho⟩ hn he
      refine ⟨fun hf hd => ⟨k', m', hmem, hm'.trans ho.symm, ?_⟩, fun hoff => ?_⟩
      · rw [hentry, refusedEntry, hx, if_neg (not_or.mpr ⟨hf, hd⟩)]
      · rw [hentry, refusedEntry, hx, if_pos hoff]
        exact ⟨rfl, rfl⟩
    · exact ⟨hreleasing tag p h, enterFault_answers_job hs h fun u => answered_sendLink _ _ _⟩
    · exact enterFault_answers_job hs h fun u => (answered_sendLink _ _ _).mono (outbound_runAdvice _ _)
    · simp [t]
  · exact fun region j s hs => enterFault_again region j s hs
  · intro b item rest left s hs hq refused
    refine ⟨fun hfault => ?_, fun hnormal hissued => ?_⟩
    · rw [exec_appendWriteDone hs, appendWritten_fault hq hfault]
      rfl
    · rw [exec_appendWriteFails hs, appendFailed_normal hq hnormal hissued]
      rfl
  · intro k m j p left s hs req on u kept
    rw [exec_cardWriteFails hs, cardWriteFailed_eq]
    rfl

end Sys2Proof.Machine
end

section
/-! The limits of the link, the ring and the journal over the part's book-keeping (O8): a law that outlives falling counts and the
issue of accesses that are no appends is kept by every operation of the books. -/

namespace Sys2Proof.Machine
open Sys2Proof Sys2Proof.Safety

/-! ### The law and its operations -/

/-- The replies in the outbound queue of frames that took no tag (R161). -/
def untaggedCount (s : State) : Nat := (s.hlp.outbound.filter fun f => !f.tagged).length

/-- What the limits look at beside the two counts of the journal. -/
def limitTables (s : State) :=
  (s.hlp.inFlight, untaggedCount s, s.ce.ring, s.jc.appendIssued, s.jc.serving, s.jc.waiting)

/-- All that the limits look at. -/
def limitView (s : State) := (limitTables s, s.jc.pendingCount, s.jc.untaken)

/-- A law that the fall of the journal's counts and an access that is no append leave in force. -/
structure Steady (Q : State → Prop) : Prop where
  lower : ∀ {s t}, Q s → limitTables t = limitTables s → t.jc.pendingCount ≤ s.jc.pendingCount →
    t.jc.untaken ≤ s.jc.untaken → Q t
  access : ∀ {s op}, Q s → NoAppend op → Q (issue op s)

/-- A tagged frame in the outbound queue is none of those that the limit counts (R161). -/
theorem untaggedCount_pushFrame {f : OutFrame} (hf : f.tagged = true) (s : State) : untaggedCount (pushFrame f s) = untaggedCount s := by
  have hjoined : (if s.hlp.outbound.isEmpty then beginFrame s.hlp.notices f else f).tagged = true := by
    split
    · exact hf
    · exact hf
  show (List.filter _ (s.hlp.outbound ++ [_])).length = _
  rw [List.filter_append, List.filter_cons_of_neg (by rw [hjoined]; exact Bool.false_ne_true), List.filter_nil, List.append_nil]
  rfl

theorem limitView_pushFrame {f : OutFrame} (hf : f.tagged = true) (s : State) : limitView (pushFrame f s) = limitView s := by
  rw [limitView, limitTables, untaggedCount_pushFrame hf]; rfl

theorem limitView_sendLink (tag : Nat) (r : Reply) (s : State) : limitView (sendLink tag r s) = limitView s :=
  limitView_pushFrame rfl s

theorem limitView_sendStation (n e : Nat) (r : Reply) (s : State) : limitView (sendStation n e r s) = limitView s := by
  unfold sendStation
  split
  · rfl
  · rfl
  · rfl

theorem limitView_storeOp (op : PortOp) (s : State) : limitView (storeOp op s) = limitView s := by
  unfold storeOp
  split
  · rfl
  · rfl

theorem limitView_leaveOp (op : PortOp) (left : Residue) (s : State) : limitView (leaveOp op left s) = limitView s := by
  unfold leaveOp
  split
  · rfl
  · rfl

theorem limitView_abortSweep (s : State) : limitView (abortSweep s) = limitView s := by
  unfold abortSweep
  split
  · rfl
  · rfl

theorem limitView_loadItem (i : ConfigItem) (s : State) : limitView (loadItem i s) = limitView s := by
  cases i with
  | window k w => rfl
  | tariff c t => rfl
  | line n c => rfl
  | station n e merchant lane enabled => rfl

/-- The reply to a RESTART is tagged (R167). -/
theorem limitView_takeRestart (tag : Nat) (s : State) : limitView (takeRestart tag s) = limitView s :=
  limitView_pushFrame rfl s

/-- The reply to a FORMAT done in store FAULT is tagged (R172). -/
theorem limitView_formatDoneFault (job : FormatJob) (s : State) :
    limitView (formatDoneFault job s) = limitView (freshBooks job s) := by
  unfold formatDoneFault
  exact limitView_pushFrame rfl (freshBooks job s)

section Books
variable {Q : State → Prop} (hQ : Steady Q) {s t : State}
include hQ

/-- The law looks at nothing else. -/
theorem Steady.frame (h : Q s) (hview : limitView t = limitView s) : Q t := by
  simp only [limitView, Prod.mk.injEq] at hview
  obtain ⟨htables, hpending, huntaken⟩ := hview
  exact hQ.lower h htables hpending.le huntaken.le

theorem steady_sendLink {tag : Nat} {r : Reply} (h : Q s) : Q (sendLink tag r s) := hQ.frame h (limitView_sendLink ..)

theorem steady_sendReply {o : Origin} {r : Reply} (h : Q s) : Q (sendReply o r s) := by
  cases o with
  | link tag => exact steady_sendLink hQ h
  | station n e => exact hQ.frame h (limitView_sendStation ..)

theorem steady_storeOp (op : PortOp) (h : Q s) : Q (storeOp op s) := hQ.frame h (limitView_storeOp ..)

theorem steady_leaveOp (op : PortOp) (left : Residue) (h : Q s) : Q (leaveOp op left s) := hQ.frame h (limitView_leaveOp ..)

/-! ### Card locks (R21 to R24) -/

theorem steady_grantLock {k : Nat} {req : CardReq} {ws : List CardReq} (h : Q s) : Q (grantLock k req ws s) :=
  hQ.access (hQ.frame h rfl) ⟨nofun, nofun⟩

theorem steady_releaseLock {k : Nat} (h : Q s) : Q (releaseLock k s) := by
  unfold releaseLock
  split
  · split
    · exact hQ.frame h rfl
    · exact steady_grantLock hQ h
  · exact h

theorem steady_answerOwner {k : Nat} {req : CardReq} {r : Reply} (h : Q s) : Q (answerOwner k req r s) :=
  steady_releaseLock hQ (steady_sendReply hQ h)

theorem steady_seekLock {req : CardReq} (h : Q s) : Q (seekLock req s) := by
  unfold seekLock
  split
  · split
    · split
      · exact hQ.frame h rfl
      · exact steady_sendReply hQ h
    · exact h
  · split
    · exact steady_grantLock hQ h
    · exact steady_sendReply hQ h

theorem steady_takeCardRequest {req : CardReq} (h : Q s) : Q (takeCardRequest req s) := by
  unfold takeCardRequest
  split
  · exact steady_sendReply hQ h
  · exact steady_seekLock hQ h

theorem steady_setDoing {k : Nat} {d : Deciding} (h : Q s) : Q (setDoing k d s) := by
  unfold setDoing
  split
  · exact hQ.frame h rfl
  · exact h

/-! ### Refused records, totals writes and advice (R46, R123, R131) -/

theorem steady_refuseItem {item : AppendItem} {st : Status} {reason journal : Nat} {extra : List Byte} (h : Q s) :
    Q (refuseItem item st reason extra journal s) := by
  cases item with
  | movement k m =>
    refine steady_answerOwner hQ (hQ.frame h ?_)
    unfold returnClaim
    split
    · rfl
    · rfl
  | admin tag k m => exact steady_sendLink hQ h
  | cutoff tag => exact steady_sendLink hQ h

theorem steady_issueTotals {job : TotalsJob} (h : Q s) : Q (issueTotals job s) :=
  hQ.access (hQ.frame h rfl) ⟨nofun, nofun⟩

theorem steady_requestTotals {job : TotalsJob} (h : Q s) : Q (requestTotals job s) := by
  unfold requestTotals
  split
  · exact steady_issueTotals hQ h
  · exact hQ.frame h rfl

theorem steady_nextTotals (h : Q s) : Q (nextTotals s) := by
  unfold nextTotals
  split
  · exact hQ.frame h rfl
  · exact steady_issueTotals hQ (hQ.frame h rfl)

theorem steady_runAdvice (l : List (Nat × Nat)) (h : Q s) : Q (runAdvice l s) := by
  induction l generalizing s with
  | nil => exact hQ.frame h rfl
  | cons q rest ih =>
    obtain ⟨tag, count⟩ := q
    unfold runAdvice
    split
    · exact ih (steady_sendLink hQ h)
    split
    · exact hQ.access (hQ.frame h rfl) ⟨nofun, nofun⟩
    · exact ih (steady_sendLink hQ h)

theorem steady_answerAdvice {tag : Nat} {r : Reply} (h : Q s) : Q (answerAdvice tag r s) :=
  steady_runAdvice hQ _ (steady_sendLink hQ h)

/-! ### Store FAULT (R125, R126) -/

theorem steady_dropJob (job : TotalsJob) (h : Q s) : Q (dropJob s job) := by
  cases job with
  | epoch => exact h
  | accrual => exact hQ.frame h rfl
  | walkEnd => exact hQ.frame h rfl
  | release tag p => exact steady_sendLink hQ (hQ.frame h rfl)
  | advice tag u records => exact steady_answerAdvice hQ h

theorem steady_enterFault {region : Region} {j : Nat} (h : Q s) : Q (enterFault region j s) := by
  cases hs : s.jc.store with
  | fault => rw [enterFault_again _ _ _ hs]; exact hQ.frame h rfl
  | normal =>
    have hbegun : Q (faultBegun region j s) := hQ.frame h (limitView_abortSweep _)
    have hrefused : Q (refuseUnissued (faultBegun region j s)) :=
      List.foldlRecOn _ _ (hQ.frame hbegun rfl) fun _ hu _ _ => steady_refuseItem hQ hu
    rw [enterFault_normal hs]
    exact List.foldlRecOn _ _ (hQ.frame hrefused rfl) fun _ hu job _ => steady_dropJob hQ job hu

/-! ### Recovery (R127 to R130) -/

theorem steady_startAdmission (h : Q s) : Q (startAdmission s) := hQ.access (hQ.frame h rfl) ⟨nofun, nofun⟩

theorem steady_finishRecovery (h : Q s) : Q (finishRecovery s) := by
  unfold finishRecovery
  split
  · exact hQ.access (hQ.frame h rfl) ⟨nofun, nofun⟩
  · exact steady_startAdmission hQ h

theorem steady_recoverNext (todo : List JBody) (h : Q s) : Q (recoverNext todo s) := by
  unfold recoverNext
  split
  · exact steady_finishRecovery hQ h
  split
  · exact hQ.access (hQ.frame h rfl) ⟨nofun, nofun⟩
  · exact hQ.frame h rfl

theorem steady_endRecoveryIfStarting (h : Q s) : Q (endRecoveryIfStarting s) := by
  unfold endRecoveryIfStarting
  split
  · exact steady_finishRecovery hQ h
  · exact h

theorem steady_recoverOn (h : Q s) : Q (recoverOn s) := by
  unfold recoverOn
  split
  · exact steady_recoverNext hQ _ (hQ.frame h rfl)
  · exact h

/-! ### Accruals (R82 to R89) -/

theorem steady_stopAccrual (h : Q s) : Q (stopAccrual s) := steady_endRecoveryIfStarting hQ (hQ.frame h rfl)

theorem steady_failAccrual {region : Region} {j : Nat} (h : Q s) : Q (failAccrual region j s) :=
  steady_stopAccrual hQ (steady_enterFault hQ h)

theorem steady_accrualTotals {a : Accrual} (h : Q s) : Q (accrualTotals a s) := by
  unfold accrualTotals
  dsimp only
  split
  · exact hQ.access (hQ.frame h rfl) ⟨nofun, nofun⟩
  split
  · exact steady_requestTotals hQ (hQ.frame h rfl)
  · exact steady_failAccrual hQ h

theorem steady_endStage1 {a : Accrual} (h : Q s) : Q (endStage1 a s) := by
  unfold endStage1
  split
  · exact steady_accrualTotals hQ h
  · exact steady_stopAccrual hQ h

theorem steady_beginAccrual {body : JBody} (h : Q s) : Q (beginAccrual body s) := by
  unfold beginAccrual
  dsimp only
  split
  · exact hQ.access (hQ.frame h rfl) ⟨nofun, nofun⟩
  · exact steady_accrualTotals hQ h

theorem steady_accrualReadArrives {m : Nat} (h : Q s) : Q (accrualReadArrives m s) := by
  unfold accrualReadArrives
  split
  · unfold accrualRead
    dsimp only
    split
    · exact steady_failAccrual hQ h
    split
    · exact steady_endStage1 hQ h
    split
    · exact hQ.access (hQ.frame h rfl) ⟨nofun, nofun⟩
    · exact steady_failAccrual hQ h
  · exact h

theorem steady_accrualWritten (h : Q s) : Q (accrualWritten s) := by
  unfold accrualWritten
  split
  · exact steady_endStage1 hQ h
  · exact h

theorem steady_accrualWriteFailed (h : Q s) : Q (accrualWriteFailed s) := by
  unfold accrualWriteFailed
  split
  · exact steady_failAccrual hQ h
  · exact h

/-! ### The close walk and the rebuild of a list (R95 to R102, R109) -/

theorem steady_stopWalk (h : Q s) : Q (stopWalk s) := steady_endRecoveryIfStarting hQ (hQ.frame h rfl)

theorem steady_failWalk {region : Region} {j : Nat} (h : Q s) : Q (failWalk region j s) :=
  steady_stopWalk hQ (steady_enterFault hQ h)

theorem steady_walkTo {w : Walk} {g m : Nat} (h : Q s) : Q (walkTo w g m s) := hQ.access (hQ.frame h rfl) ⟨nofun, nofun⟩

theorem steady_endWalk {w : Walk} (h : Q s) : Q (endWalk w s) := by
  unfold endWalk
  split
  · exact steady_failWalk hQ h
  · exact steady_requestTotals hQ (hQ.frame h rfl)

theorem steady_walkOn {w : Walk} (h : Q s) : Q (walkOn w s) := by
  unfold walkOn
  split
  · exact steady_walkTo hQ h
  split
  · exact steady_failWalk hQ h
  split
  · exact steady_walkTo hQ (hQ.frame h rfl)
  · exact steady_endWalk hQ (hQ.frame h rfl)

theorem steady_walkMerchant {w : Walk} {m : Nat} {r : MerchantRec} (h : Q s) : Q (walkMerchant w m r s) := by
  unfold walkMerchant
  dsimp only
  split
  · split
    · exact steady_walkOn hQ (hQ.frame h rfl)
    · exact steady_walkOn hQ h
  split
  · exact steady_walkOn hQ h
  split
  · exact steady_walkOn hQ h
  split
  · exact hQ.access h ⟨nofun, nofun⟩
  · exact steady_failWalk hQ h

theorem steady_walkReadArrives {m : Nat} (h : Q s) : Q (walkReadArrives m s) := by
  unfold walkReadArrives
  split
  · unfold walkRead
    split
    · exact steady_failWalk hQ h
    split
    · exact steady_stopWalk hQ h
    · exact steady_walkMerchant hQ h
  · exact h

/-- The record that the walk wrote, in the admission table and in the list (R98). -/
theorem steady_walkWriteArrives {m : Nat} {r : MerchantRec} (h : Q s) : Q (walkWriteArrives m r s) := by
  unfold walkWriteArrives
  split
  · have hlisted {u : State} (hu : Q u) :
        Q (match r.lastResult with | some pay => addEntry (.merchant pay) u | none => u) := by
      split
      · exact hQ.frame hu rfl
      · exact hu
    have hclosed : Q (if r.state = .closed then s.setAdmission m { s.admission m with state := .closed } else s) := by
      split
      · exact hQ.frame h rfl
      · exact h
    unfold walkWritten
    dsimp only
    split
    · exact steady_walkOn hQ (hlisted hclosed)
    · exact steady_stopWalk hQ (hlisted hclosed)
  · exact h

theorem steady_walkWriteFailed (h : Q s) : Q (walkWriteFailed s) := by
  unfold walkWriteFailed
  split
  · exact steady_failWalk hQ h
  · exact h

theorem steady_endRebuild {st : ListState} (h : Q s) : Q (endRebuild st s) := steady_startAdmission hQ (hQ.frame h rfl)

theorem steady_failRebuild (h : Q s) : Q (failRebuild s) := steady_endRebuild hQ (steady_enterFault hQ h)

theorem steady_rebuildOn {g m : Nat} (h : Q s) : Q (rebuildOn g m s) := by
  unfold rebuildOn
  dsimp only
  split
  · exact hQ.access (hQ.frame h rfl) ⟨nofun, nofun⟩
  split
  · exact steady_failRebuild hQ h
  split
  · exact hQ.access (hQ.frame h rfl) ⟨nofun, nofun⟩
  split
  · exact steady_failRebuild hQ (hQ.frame h rfl)
  · exact steady_endRebuild hQ (hQ.frame h rfl)

theorem steady_rebuildArrives {m : Nat} (h : Q s) : Q (rebuildArrives m s) := by
  unfold rebuildArrives
  split
  · unfold rebuildRead
    split
    · exact steady_failRebuild hQ h
    split
    · split
      · exact steady_rebuildOn hQ (hQ.frame h rfl)
      · exact steady_rebuildOn hQ h
    · exact steady_rebuildOn hQ h
  · exact h

/-! ### Totals writes, commit marks and advice (R122, R123, R131) -/

theorem steady_loadEpoch {epoch : Nat} (h : Q s) : Q (loadEpoch epoch s) := hQ.access (hQ.frame h rfl) ⟨nofun, nofun⟩

/-- The untaken count falls by the records that an advice took (R123). -/
theorem steady_totalsWritten {job : TotalsJob} {copy : Totals} (h : Q s) : Q (totalsWritten job copy s) := by
  unfold totalsWritten
  split
  · exact steady_loadEpoch hQ h
  · split
    · exact hQ.access h ⟨nofun, nofun⟩
    · exact steady_stopAccrual hQ h
  · split
    · exact hQ.access h ⟨nofun, nofun⟩
    · exact steady_stopWalk hQ h
  · exact steady_sendLink hQ (hQ.frame h rfl)
  · exact steady_answerAdvice hQ (hQ.lower h rfl le_rfl (Nat.sub_le ..))

theorem steady_totalsFailed {job : TotalsJob} {copy : Totals} {earlier : Nat} (h : Q s) : Q (totalsFailed job copy earlier s) := by
  unfold totalsFailed
  split
  · exact steady_loadEpoch hQ (steady_enterFault hQ h)
  · exact steady_failAccrual hQ h
  · exact steady_failWalk hQ h
  · exact steady_sendLink hQ (hQ.frame (steady_enterFault hQ h) rfl)
  · exact steady_answerAdvice hQ (hQ.frame (steady_enterFault hQ h) rfl)

/-- The pending count falls with a commit mark (R122). -/
theorem steady_committed {j : Nat} (h : Q s) : Q (committed j s) := by
  have hfall : Q { s with jc := { s.jc with pendingCount := s.jc.pendingCount - 1 } } := hQ.lower h rfl (Nat.sub_le ..) le_rfl
  unfold committed
  refine steady_recoverOn hQ ?_
  split
  · split
    · exact hQ.frame hfall rfl
    · exact hfall
  · exact hQ.frame hfall rfl

theorem steady_commitFailed {j : Nat} (h : Q s) : Q (commitFailed j s) :=
  steady_endRecoveryIfStarting hQ (hQ.frame (steady_enterFault hQ h) rfl)

theorem steady_takeAdvice {tag count : Nat} (h : Q s) : Q (takeAdvice tag count s) := by
  unfold takeAdvice
  split
  · exact steady_runAdvice hQ _ h
  · exact hQ.frame h rfl

theorem steady_endAdviceReads {job : AdviceJob} (h : Q s) : Q (endAdviceReads job s) := by
  unfold endAdviceReads
  split
  · exact steady_answerAdvice hQ h
  · exact steady_requestTotals hQ (hQ.frame h rfl)

theorem steady_adviceSlot {job : AdviceJob} {bs : List Byte} (h : Q s) : Q (adviceSlot job bs s) := by
  unfold adviceSlot
  dsimp only
  split
  · exact steady_endAdviceReads hQ h
  split
  · exact hQ.access (hQ.frame h rfl) ⟨nofun, nofun⟩
  · exact steady_endAdviceReads hQ h

theorem steady_adviceArrives {j : Nat} (h : Q s) : Q (adviceArrives j s) := by
  unfold adviceArrives
  split
  · unfold adviceRead
    dsimp only
    split
    · exact steady_answerAdvice hQ (steady_enterFault hQ h)
    split
    · exact steady_answerAdvice hQ h
    · exact steady_adviceSlot hQ h
  · exact h

/-! ### Reads of the books, and the payout list's requests (R90, R104 to R106, R134) -/

theorem steady_totalsRead {tag : Nat} (h : Q s) : Q (totalsRead tag s) := by
  unfold totalsRead
  dsimp only
  split
  · exact steady_sendLink hQ h
  · exact steady_sendLink hQ (steady_enterFault hQ h)

theorem steady_statusRead {tag m : Nat} (h : Q s) : Q (statusRead tag m s) := by
  unfold statusRead
  split
  · exact steady_sendLink hQ h
  · exact steady_sendLink hQ (steady_enterFault hQ h)

theorem steady_readPayoutEntry {tag : Nat} (h : Q s) : Q (readPayoutEntry tag s) := by
  unfold readPayoutEntry
  dsimp only
  split
  · exact steady_sendLink hQ h
  · split
    · exact steady_sendLink hQ (hQ.frame h rfl)
    · exact steady_sendLink hQ h
  · split
    · exact steady_sendLink hQ (hQ.frame h rfl)
    · exact steady_sendLink hQ h

theorem steady_releaseList {tag : Nat} (h : Q s) : Q (releaseList tag s) := by
  unfold releaseList
  split
  · exact steady_sendLink hQ h
  split
  · exact steady_sendLink hQ h
  · exact steady_requestTotals hQ (hQ.frame h rfl)

/-! ### The audit sweep (R135 to R141) -/

theorem steady_issueSweepRead (h : Q s) : Q (issueSweepRead s) := hQ.access (hQ.frame h rfl) ⟨nofun, nofun⟩

theorem steady_startSweep {tag : Nat} (h : Q s) : Q (startSweep tag s) := by
  unfold startSweep
  dsimp only
  split
  · exact steady_sendLink hQ h
  split
  · exact steady_sendLink hQ h
  refine steady_sendLink hQ ?_
  split
  · exact hQ.frame h rfl
  · exact steady_issueSweepRead hQ (hQ.frame h rfl)

theorem steady_stopSweep {tag : Nat} (h : Q s) : Q (stopSweep tag s) := by
  unfold stopSweep
  split
  · exact steady_sendLink hQ (hQ.frame h (limitView_abortSweep s))
  · exact steady_sendLink hQ h

theorem steady_sweepOn {slot : Nat} (h : Q s) : Q (sweepOn slot s) := by
  have hadded : Q (sweepAdd slot { s with asu := { s.asu with outstanding := false, cursor := s.asu.cursor + 1 } }) := by
    unfold sweepAdd
    split
    · exact hQ.frame h rfl
    · exact hQ.frame h rfl
  unfold sweepOn
  generalize sweepAdd slot _ = u at hadded
  dsimp only
  split
  · exact hQ.frame hadded rfl
  · exact steady_issueSweepRead hQ hadded

theorem steady_sweepRead {slot : Nat} (h : Q s) : Q (sweepRead slot s) := by
  unfold sweepRead
  split
  · unfold dropStale
    dsimp only
    split
    · exact steady_issueSweepRead hQ (hQ.frame h rfl)
    · exact hQ.frame h rfl
  split
  · exact steady_sweepOn hQ h
  · exact hQ.frame h rfl

/-! ### Start-up (R127 to R130) -/

theorem steady_startupTotals (h : Q s) : Q (startupTotals s) := by
  unfold startupTotals
  dsimp only
  split
  · exact hQ.frame h rfl
  split
  · exact hQ.frame (steady_enterFault hQ h) rfl
  · exact steady_requestTotals hQ (hQ.frame h rfl)

theorem steady_startupConfig {k : Nat} (h : Q s) : Q (startupConfig k s) := by
  have hload : Q (loadConfig k s) := by
    unfold loadConfig
    split
    · exact hQ.frame h (limitView_loadItem _ s)
    · exact hQ.frame h rfl
  unfold startupConfig
  dsimp only
  split
  · exact hQ.access (hQ.frame hload rfl) ⟨nofun, nofun⟩
  · exact hQ.access (hQ.frame hload rfl) ⟨nofun, nofun⟩

/-- The scan takes the journal's counts from memory (R128): a law that does not look at them stays in force. -/
theorem steady_scanArrives {n : Nat} (hcounts : ∀ s t, Q s → limitTables t = limitTables s → Q t) (h : Q s) :
    Q (scanArrives n s) := by
  have hend {found : List JBody} : Q (endScan n found s) := by
    unfold endScan
    split
    · exact steady_finishRecovery hQ (hcounts _ _ (steady_enterFault hQ h) rfl)
    · dsimp only
      split
      · exact steady_recoverNext hQ _ (hcounts _ _ h rfl)
      · exact steady_finishRecovery hQ (hcounts _ _ h rfl)
  unfold scanArrives
  split
  · unfold scanSlot
    dsimp only
    split
    · exact hQ.access (hQ.frame h rfl) ⟨nofun, nofun⟩
    · exact hend
  · exact h

theorem steady_cardStepDone (h : Q s) : Q (cardStepDone s) := by
  unfold cardStepDone
  split
  · exact hQ.frame h rfl
  · exact h

theorem steady_recoverCard {b : JBody} (h : Q s) : Q (recoverCard b s) := by
  unfold recoverCard
  dsimp only
  split
  · exact steady_cardStepDone hQ h
  · exact hQ.access h ⟨nofun, nofun⟩

theorem steady_admissionOn {m : Nat} (h : Q s) : Q (admissionOn m s) := by
  have hload : Q (loadAdmission m s) := by
    unfold loadAdmission
    split
    · exact hQ.frame h rfl
    · exact hQ.frame (steady_enterFault hQ h) rfl
  unfold admissionOn
  generalize loadAdmission m s = u at hload
  dsimp only
  split
  · exact hQ.access (hQ.frame hload rfl) ⟨nofun, nofun⟩
  · exact hQ.frame hload rfl

/-! ### The requests of R170 -/

theorem steady_issueFormat {job : FormatJob} (h : Q s) : Q (issueFormat job s) := hQ.access (hQ.frame h rfl) ⟨nofun, nofun⟩

theorem steady_openService {tag : Nat} (h : Q s) : Q (openService tag s) := by
  unfold openService
  split
  · exact steady_sendLink hQ h
  · exact steady_sendLink hQ (hQ.frame h rfl)

theorem steady_startCfg {q : ConfigReq} (h : Q s) : Q (startCfg q s).1 := by
  unfold startCfg
  dsimp only
  split
  · exact steady_sendLink hQ h
  split
  · exact steady_openService hQ h
  · split
    · exact steady_sendLink hQ h
    · exact steady_issueFormat hQ h
  · split
    · exact steady_sendLink hQ h
    · exact hQ.access h ⟨nofun, nofun⟩
  · split
    · exact steady_sendLink hQ h
    split
    · exact steady_sendLink hQ h
    · exact hQ.access h ⟨nofun, nofun⟩

theorem steady_runCfg (l : List ConfigReq) (h : Q s) : Q (runCfg l s) := by
  induction l generalizing s with
  | nil => exact hQ.frame h rfl
  | cons q rest ih =>
    unfold runCfg
    dsimp only
    split
    · exact hQ.frame (steady_startCfg hQ h) rfl
    · exact ih (steady_startCfg hQ h)

theorem steady_takeCfg {kind tag : Nat} {what : ConfigWhat} (h : Q s) : Q (takeCfg kind tag what s) := by
  unfold takeCfg
  dsimp only
  split
  · exact steady_runCfg hQ _ h
  · exact hQ.frame h rfl

theorem steady_answerCfg {st : Status} {figures : List Byte} (h : Q s) : Q (answerCfg st figures s) := by
  unfold answerCfg
  split
  · exact steady_runCfg hQ _ (steady_sendLink hQ h)
  · exact h

theorem steady_itemWritten (i : ConfigItem) (h : Q s) : Q (itemWritten i s) :=
  steady_answerCfg hQ (hQ.frame (steady_storeOp hQ _ h) (limitView_loadItem i _))

theorem steady_setMerchantRead {tag m cls group : Nat} (h : Q s) : Q (setMerchantRead tag m cls group s) := by
  unfold setMerchantRead
  split
  · exact steady_answerCfg hQ (steady_enterFault hQ h)
  · exact steady_answerCfg hQ h
  · exact hQ.access h ⟨nofun, nofun⟩

theorem steady_setMerchantWritten {tag m : Nat} {before : MerchantState} {r : MerchantRec} (h : Q s) :
    Q (setMerchantWritten tag m before r s) := by
  unfold setMerchantWritten
  have hstored := steady_storeOp hQ (.setMerchantWrite tag m before r) h
  generalize storeOp (.setMerchantWrite tag m before r) s = u at hstored
  exact steady_answerCfg hQ (hQ.frame hstored rfl)

/-! ### FORMAT (R171, R172) -/

/-- The books that FORMAT makes have an empty journal (R172). -/
theorem steady_freshBooks {job : FormatJob} (h : Q s) : Q (freshBooks job s) := hQ.lower h rfl (Nat.zero_le _) (Nat.zero_le _)

theorem steady_formatArrives (h : Q s) : Q (formatArrives s) := by
  unfold formatArrives
  split
  · next job _ =>
    have hfresh := steady_freshBooks hQ (job := job) h
    unfold formatWritten
    dsimp only
    split
    · exact steady_issueFormat hQ h
    split
    · exact steady_issueFormat hQ h
    split
    · exact steady_answerCfg hQ (hQ.frame hfresh rfl)
    · exact hQ.frame hfresh (limitView_formatDoneFault job s)
  · exact h

theorem steady_formatStops (h : Q s) : Q (formatStops s) := by
  unfold formatStops
  split
  · exact steady_answerCfg hQ (hQ.lower (steady_enterFault hQ h) rfl (Nat.zero_le _) (Nat.zero_le _))
  · exact h

end Books

end Sys2Proof.Machine
end

section
/-! The limits of the link, the ring and the journal over the commands (O8): what a law of the limits owes to the port, the link, the
ring and the appends, and that every command then keeps it. -/

namespace Sys2Proof.Machine
open Sys2Proof Sys2Proof.Safety

/-! ### The law along the commands -/

/-- A law of the limits: `P true` is the law itself, and `P false` what holds of it while the event of the access in service is
under way. -/
structure LimitLaw (P : Bool → State → Prop) : Prop where
  steady : ∀ b, Steady (P b)
  begun : ∀ {s}, P true s → P false s
  due : ∀ {b s}, P b s → P b (issueDue s)
  port : ∀ {s n}, P false s → P true (portNext n s)
  tagTaken : ∀ {s t}, P true s → t ≠ 0 → t ∉ s.hlp.inFlight → s.hlp.inFlight.length < 8 →
    P true { s with hlp := { s.hlp with inbound := [], inFlight := s.hlp.inFlight ++ [t] } }
  untagged : ∀ {s kind tag r}, P true s → P true (sendUntagged kind tag r s)
  ringed : ∀ {s m j p}, P false s → P false (completeRing m j p s)
  appendEnds : ∀ {s b queue pending untaken}, P true s → s.jc.serving = some (.appendWrite b) →
    pending ≤ s.jc.pendingCount + 1 → untaken ≤ s.jc.untaken + 1 →
    P false { s with jc := { s.jc with
      appendQueue := queue, appendIssued := false, pendingCount := pending, untaken := untaken } }
  sent : ∀ {s left}, P true s → P true (frameSent left s)
  reset : ∀ {s cause straps left}, P true (resetPart cause straps left s)

section Commands
variable {P : Bool → State → Prop} (hP : LimitLaw P) {b : Bool} {s : State}
include hP

theorem limits_complete {work : State → State} (hw : ∀ {u}, P false u → P false (work u)) (h : P true s) :
    NextKeeps P (.next (complete work s)) := nextKeeps_next (hP.port (hw (hP.begun h)))

/-- A request frame keeps the law when its block does (R157 to R160). -/
theorem limits_hostRequest {α : Type} {kind : Nat} {c : ReqClass} {tag : Byte} {body : List Byte} {fields : List Byte → Option α}
    {act : Nat → α → State → State} (hact : ∀ f u, P true u → P true (act tag.toNat f u)) (h : P true s) :
    NextKeeps P (.next (hostRequest kind c tag body fields act s)) := by
  have hunt : P true { s with hlp := { s.hlp with inbound := [] } } := (hP.steady true).frame h rfl
  refine nextKeeps_next ?_
  unfold hostRequest
  dsimp only
  split
  · exact h
  split
  · exact hP.untagged hunt
  next hzero =>
  split
  · exact hP.untagged hunt
  next hfresh =>
  split
  · exact hP.untagged hunt
  next hroom =>
  have htaken := hP.tagTaken h hzero (by simpa using hfresh) (Nat.lt_of_not_le hroom)
  split
  · exact steady_sendLink (hP.steady true) htaken
  split
  · exact steady_sendLink (hP.steady true) htaken
  · exact hact _ _ htaken

/-! ### Card requests and their decisions (R21, R44) -/

theorem limits_hostCard (k : CardKind) {tag : Byte} {body : List Byte} (h : P true s) :
    NextKeeps P (.next (hostCard k tag body s)) :=
  limits_hostRequest hP (fun _ _ hu => steady_takeCardRequest (hP.steady true) hu) h

theorem limits_joinAppend {item : AppendItem} (h : P b s) : P b (joinAppend item s) := by
  unfold joinAppend
  split
  · exact steady_refuseItem (hP.steady b) h
  · exact hP.due ((hP.steady b).frame h rfl)

theorem limits_carryOut {k : Nat} {req : CardReq} {r : CardRec} {v : Verdict} (h : P b s) : P b (carryOut k req r v s) := by
  cases v with
  | answer reply => exact steady_answerOwner (hP.steady b) h
  | enter p => exact steady_setDoing (hP.steady b) h
  | claim => exact steady_setDoing (hP.steady b) h
  | move m => exact limits_joinAppend hP (steady_setDoing (hP.steady b) h)

theorem limits_releaseHold {k : Nat} {req : CardReq} {r : CardRec} (h : P b s) : P b (releaseHold k req r s) := by
  unfold releaseHold
  split
  · split
    · exact steady_answerOwner (hP.steady b) ((hP.steady b).frame h rfl)
    · exact steady_answerOwner (hP.steady b) h
  · exact steady_answerOwner (hP.steady b) h

theorem limits_decideCard {k : Nat} {req : CardReq} {r : CardRec} (h : P b s) : P b (decideCard k req r s) := by
  cases hk : req.kind with
  | release => rw [decideCard_release hk]; exact limits_releaseHold hP h
  | balance => rw [decideCard_balance hk]; exact steady_answerOwner (hP.steady b) h
  | activate | load | hold | capture | redeem | void | refund | cashOut | block | unblock =>
    simp only [decideCard, hk]; exact limits_carryOut hP h

theorem limits_cardRead {k slot : Nat} (h : P b s) : P b (cardRead k slot s) := by
  unfold cardRead
  split
  · exact h
  split
  · exact steady_answerOwner (hP.steady b) ((hP.steady b).frame h rfl)
  split
  · exact steady_answerOwner (hP.steady b) h
  · exact limits_decideCard hP h

theorem limits_execCardReadDone (h : P true s) : NextKeeps P (execCardReadDone s) := by
  unfold execCardReadDone
  split
  · split
    · exact limits_complete hP (limits_cardRead hP) h
    · exact nextKeeps_fault _
  · exact nextKeeps_next h

/-! ### The Hold Table's events (R31, R36, R37) -/

theorem limits_holdArrives {k : Nat} (h : P b s) : P b (holdArrives k s) := by
  unfold holdArrives
  split
  · split
    · unfold enterHold
      split
      · exact steady_answerOwner (hP.steady b) h
      · exact steady_answerOwner (hP.steady b) ((hP.steady b).frame h rfl)
    · exact h
  · exact h

theorem limits_claimHold {k : Nat} {req : CardReq} {r : CardRec} (h : P b s) : P b (claimHold k req r s) := by
  unfold claimHold
  dsimp only
  split
  · split
    · exact limits_carryOut hP h
    split
    · exact steady_answerOwner (hP.steady b) h
    split
    · exact steady_answerOwner (hP.steady b) h
    · exact limits_carryOut hP ((hP.steady b).frame h rfl)
  · exact limits_carryOut hP h

theorem limits_claimArrives {k : Nat} (h : P b s) : P b (claimArrives k s) := by
  unfold claimArrives
  split
  · split
    · exact limits_claimHold hP h
    · exact h
  · exact h

theorem limits_expireHold {epoch serial : Nat} (h : P b s) : P b (expireHold epoch serial s) := by
  unfold expireHold
  split
  · split
    · exact (hP.steady b).frame h rfl
    · exact h
  · exact h

/-! ### Completions of appends and card writes (R47, R48, R117, R118) -/

theorem limits_completeHolds {m : Movement} (h : P b s) : P b (completeHolds m s) := by
  rw [completeHolds_eq]
  exact (hP.steady b).frame h rfl

theorem limits_finishMovement {k j p : Nat} {m : Movement} (h : P false s) : P false (finishMovement k m j p s) := by
  have hswept : P false (sweepAdjust m.req.slot m.paidDelta m.bonusDelta s) := by
    unfold sweepAdjust
    split
    · exact (hP.steady false).frame h rfl
    · exact h
  have hringed := hP.ringed (m := m) (j := j) (p := p) (limits_completeHolds hP (m := m) hswept)
  exact (hP.steady false).frame (steady_answerOwner (hP.steady false) hringed) rfl

theorem limits_execCardWriteDone (h : P true s) : NextKeeps P (execCardWriteDone s) := by
  unfold execCardWriteDone
  split
  · exact limits_complete hP (fun hu => limits_finishMovement hP (steady_storeOp (hP.steady false) _ hu)) h
  · exact nextKeeps_next h

theorem limits_cardWriteFailed {k j p : Nat} {m : Movement} {left : Residue} (h : P b s) :
    P b (cardWriteFailed k m j p left s) :=
  steady_answerOwner (hP.steady b) (limits_completeHolds hP
    (steady_enterFault (hP.steady b) (steady_leaveOp (hP.steady b) _ left h)))

theorem limits_execCardWriteFails {left : Residue} (h : P true s) : NextKeeps P (execCardWriteFails left s) := by
  unfold execCardWriteFails
  split
  · exact limits_complete hP (limits_cardWriteFailed hP) h
  · exact nextKeeps_next h

section Append
variable {body : JBody} (h : P true s) (hs : s.jc.serving = some (.appendWrite body))
include h hs

/-- A record that ends at its append gives up the access (R118). -/
theorem limits_refuseAppended {item : AppendItem} {rest : List AppendItem} {j : Nat} : P false (refuseAppended item rest j s) :=
  steady_refuseItem (hP.steady false) (hP.appendEnds h hs (Nat.le_succ _) (Nat.le_succ _))

/-- A record that is appended raises the journal's counts by 1 as it gives up the access (R117). -/
theorem limits_countAppend {rest : List AppendItem} : P false (countAppend rest s) := by
  have hcounted := (hP.steady false).frame (hP.appendEnds (queue := rest) h hs le_rfl le_rfl)
    (t := { s with jc := { s.jc with
      next := s.jc.next + 1, untaken := s.jc.untaken + 1, pendingCount := s.jc.pendingCount + 1, appendQueue := rest,
      appendIssued := false } }) rfl
  unfold countAppend noteUntaken
  split
  · exact (hP.steady false).frame hcounted rfl
  split
  · exact (hP.steady false).frame hcounted rfl
  · exact hcounted

theorem limits_appendWritten : P false (appendWritten body s) := by
  have hstored := steady_storeOp (hP.steady true) (.appendWrite body) h
  have hserving : (storeOp (.appendWrite body) s).jc.serving = some (.appendWrite body) := by rw [storeOp_jc, hs]
  unfold appendWritten
  generalize storeOp (.appendWrite body) s = u at hstored hserving
  dsimp only
  split
  · exact hP.begun hstored
  next item rest _ =>
  split
  · have hcounted := limits_countAppend hP hstored hserving (rest := rest)
    generalize countAppend rest u = v at hcounted
    cases item with
    | movement k m => exact (hP.steady false).access hcounted ⟨nofun, nofun⟩
    | admin tag k m =>
      have hset : P false (v.setAdmission m { v.admission m with state := k.to }) := (hP.steady false).frame hcounted rfl
      exact (hP.steady false).frame (steady_sendLink (hP.steady false) hset) rfl
    | cutoff tag =>
      have hset : P false { v with jc := { v.jc with appendPeriod := body.period + 1 } } :=
        (hP.steady false).frame hcounted rfl
      exact (hP.steady false).frame (steady_sendLink (hP.steady false) hset) rfl
  · exact limits_refuseAppended hP hstored hserving

omit h hs in
/-- The access in service stays there while FAULT is entered. -/
theorem steady_served (op : PortOp) : Steady fun u => P true u ∧ u.jc.serving = some op where
  lower := by
    intro s t ⟨h, hs⟩ htables hpending huntaken
    refine ⟨(hP.steady true).lower h htables hpending huntaken, ?_⟩
    simp only [limitTables, Prod.mk.injEq] at htables
    obtain ⟨-, -, -, -, hserving, -⟩ := htables
    rw [hserving, hs]
  access := fun ⟨h, hs⟩ hop => ⟨(hP.steady true).access h hop, by rw [issue_busy hs, hs]⟩

theorem limits_appendFailed {left : Residue} : P false (appendFailed body left s) := by
  have hfault := steady_enterFault (steady_served hP (.appendWrite body)) (region := .journal) (j := body.number)
    (steady_leaveOp (steady_served hP (.appendWrite body)) (.appendWrite body) left ⟨h, hs⟩)
  unfold appendFailed
  generalize enterFault .journal body.number (leaveOp (.appendWrite body) left s) = u at hfault
  dsimp only
  split
  · exact hP.begun hfault.1
  · exact limits_refuseAppended hP hfault.1 hfault.2

end Append

theorem limits_execAppendWriteDone (h : P true s) : NextKeeps P (execAppendWriteDone s) := by
  unfold execAppendWriteDone
  split
  · next hs => exact nextKeeps_next (hP.port (limits_appendWritten hP h hs))
  · exact nextKeeps_next h

theorem limits_execAppendWriteFails {left : Residue} (h : P true s) : NextKeeps P (execAppendWriteFails left s) := by
  unfold execAppendWriteFails
  split
  · next hs => exact nextKeeps_next (hP.port (limits_appendFailed hP h hs))
  · exact nextKeeps_next h

/-! ### The till lines (R147 to R154) -/

theorem limits_closeOffer {n e : Nat} {outcome : State → State} (houtcome : P b s → P b (outcome s)) (h : P b s) :
    P b (closeOffer n e outcome s) := by
  unfold closeOffer
  dsimp only
  split
  · exact (hP.steady b).frame h rfl
  · exact (hP.steady b).frame (houtcome h) rfl

theorem limits_applyGood {n e : Nat} (h : P b s) : P b (applyGood n e s) := by
  unfold applyGood
  dsimp only
  split
  · exact (hP.steady b).frame h rfl
  · exact (hP.steady b).frame h rfl

theorem limits_stationAsks {n e : Nat} {kind : Byte} {body : List Byte} (h : P b s) : P b (stationAsks n e kind body s) := by
  unfold stationAsks
  dsimp only
  split
  · exact (hP.steady b).frame h rfl
  have hflagged : P b (s.setStation n e { s.station n e with outstanding := true }) := (hP.steady b).frame h rfl
  split
  · exact steady_takeCardRequest (hP.steady b) hflagged
  · exact (hP.steady b).frame hflagged (limitView_sendStation ..)

theorem limits_goodAnswer {n : Nat} {frame : List Byte} (h : P b s) : P b (goodAnswer n frame s) := by
  unfold goodAnswer
  split
  · split
    · next a _ =>
      refine limits_closeOffer hP (fun h => ?_) h
      cases a with
      | pass => exact limits_applyGood hP h
      | request kind body => exact limits_stationAsks hP (limits_applyGood hP h)
    · exact h
  · exact h

theorem limits_applyMiss {n e : Nat} (h : P b s) : P b (applyMiss n e s) := by
  unfold applyMiss
  dsimp only
  split
  · exact (hP.steady b).frame h rfl
  · exact (hP.steady b).frame h rfl

omit hP in
theorem limitView_dropHeld (n e : Nat) (s : State) : limitView (dropHeld n e s) = limitView s := by
  unfold dropHeld
  split
  · rfl
  · rfl

theorem limits_applyBad {n e : Nat} (h : P b s) : P b (applyBad n e s) := by
  unfold applyBad
  dsimp only
  split
  · exact (hP.steady b).frame h (limitView_dropHeld ..)
  · exact (hP.steady b).frame h rfl

theorem limits_badAnswer {n : Nat} {frame : List Byte} (h : P b s) : P b (badAnswer n frame s) := by
  unfold badAnswer
  split
  · split
    · exact limits_closeOffer hP (limits_applyBad hP) h
    · exact h
  · exact h

theorem limits_enableStation {tag : Nat} {p : Nat × Nat} (h : P b s) : P b (enableStation tag p s) := by
  unfold enableStation
  dsimp only
  split
  · split
    · exact steady_sendLink (hP.steady b) h
    split
    · exact steady_sendLink (hP.steady b) h
    · exact steady_sendLink (hP.steady b) ((hP.steady b).frame h rfl)
  · exact steady_sendLink (hP.steady b) h

theorem limits_disableStation {tag : Nat} {p : Nat × Nat} (h : P b s) : P b (disableStation tag p s) := by
  have hoffer (u : State) : limitView (dropOffer p.1 p.2 u) = limitView u := by
    unfold dropOffer
    split
    · rfl
    · rfl
  refine steady_sendLink (hP.steady b) ((hP.steady b).frame h ?_)
  rw [hoffer, limitView_dropHeld]
  rfl

/-! ### Frames that are no request (R158) -/

theorem limits_rejectFrame {reason : Nat} (h : P true s) : P true (rejectFrame reason s) :=
  hP.untagged ((hP.steady true).frame h rfl)

theorem limits_takeRejected {bytes : List Byte} (h : P true s) : P true (takeRejected bytes s) := by
  unfold takeRejected
  split
  · exact h
  split
  · exact limits_rejectFrame hP h
  · exact h

theorem limits_takeGap {bytes : List Byte} (h : P true s) : P true (takeGap bytes s) := by
  unfold takeGap
  split
  · exact h
  split
  · exact limits_rejectFrame hP h
  · exact h

/-! ### Requests of the link beside those of cards -/

theorem limits_hostAdmin (k : AdminKind) {tag : Byte} {body : List Byte} (h : P true s) :
    NextKeeps P (.next (hostAdmin k tag body s)) := limits_hostRequest hP (fun _ _ hu => limits_joinAppend hP hu) h

theorem limits_hostItem {kind : Nat} {fields : List Byte → Option ConfigItem} {tag : Byte} {body : List Byte} (h : P true s) :
    NextKeeps P (.next (hostItem kind fields tag body s)) :=
  limits_hostRequest hP (fun _ _ hu => steady_takeCfg (hP.steady true) hu) h

/-! ### Completions of the books' accesses -/

theorem limits_execAccrualStart (h : P true s) : NextKeeps P (execAccrualStart s) := by
  unfold execAccrualStart
  split
  · exact nextKeeps_next (steady_beginAccrual (hP.steady true) ((hP.steady true).frame h rfl))
  · exact nextKeeps_next h

theorem limits_execAccrualMerchantReadDone (h : P true s) : NextKeeps P (execAccrualMerchantReadDone s) := by
  unfold execAccrualMerchantReadDone
  split
  · exact limits_complete hP (steady_accrualReadArrives (hP.steady false)) h
  · exact nextKeeps_next h

theorem limits_execAccrualMerchantWriteDone {failed : Option Residue} (h : P true s) :
    NextKeeps P (execAccrualMerchantWriteDone failed s) := by
  unfold execAccrualMerchantWriteDone
  split
  · cases failed with
    | none => exact limits_complete hP (fun hu => steady_accrualWritten (hP.steady false) (steady_storeOp (hP.steady false) _ hu)) h
    | some left =>
      exact limits_complete hP
        (fun hu => steady_accrualWriteFailed (hP.steady false) (steady_leaveOp (hP.steady false) _ left hu)) h
  · exact nextKeeps_next h

theorem limits_execTotalsWriteDone (h : P true s) : NextKeeps P (execTotalsWriteDone s) := by
  unfold execTotalsWriteDone
  split
  · exact limits_complete hP (fun hu => steady_nextTotals (hP.steady false)
      (steady_totalsWritten (hP.steady false) (steady_storeOp (hP.steady false) _ hu))) h
  · exact nextKeeps_next h

theorem limits_execTotalsWriteFails {left : Residue} (h : P true s) : NextKeeps P (execTotalsWriteFails left s) := by
  unfold execTotalsWriteFails
  split
  · exact limits_complete hP (fun hu => steady_nextTotals (hP.steady false)
      (steady_totalsFailed (hP.steady false) (steady_leaveOp (hP.steady false) _ left hu))) h
  · exact nextKeeps_next h

theorem limits_execCommitMarkDone (h : P true s) : NextKeeps P (execCommitMarkDone s) := by
  unfold execCommitMarkDone
  split
  · exact limits_complete hP (fun hu => steady_committed (hP.steady false) (steady_storeOp (hP.steady false) _ hu)) h
  · exact nextKeeps_next h

theorem limits_execCommitMarkFails {left : Residue} (h : P true s) : NextKeeps P (execCommitMarkFails left s) := by
  unfold execCommitMarkFails
  split
  · exact limits_complete hP (fun hu => steady_commitFailed (hP.steady false) (steady_leaveOp (hP.steady false) _ left hu)) h
  · exact nextKeeps_next h

theorem limits_execCloseWalkStart (h : P true s) : NextKeeps P (execCloseWalkStart s) := by
  unfold execCloseWalkStart
  split
  · exact nextKeeps_next (steady_walkTo (hP.steady true) ((hP.steady true).frame h rfl))
  · exact nextKeeps_next h

theorem limits_execWalkMerchantReadDone (h : P true s) : NextKeeps P (execWalkMerchantReadDone s) := by
  unfold execWalkMerchantReadDone
  split
  · exact limits_complete hP (steady_walkReadArrives (hP.steady false)) h
  · exact nextKeeps_next h

theorem limits_execWalkMerchantWriteDone (h : P true s) : NextKeeps P (execWalkMerchantWriteDone s) := by
  unfold execWalkMerchantWriteDone
  split
  · exact limits_complete hP (fun hu => steady_walkWriteArrives (hP.steady false) (steady_storeOp (hP.steady false) _ hu)) h
  · exact nextKeeps_next h

theorem limits_execWalkMerchantWriteFails {left : Residue} (h : P true s) : NextKeeps P (execWalkMerchantWriteFails left s) := by
  unfold execWalkMerchantWriteFails
  split
  · exact limits_complete hP
      (fun hu => steady_walkWriteFailed (hP.steady false) (steady_leaveOp (hP.steady false) _ left hu)) h
  · exact nextKeeps_next h

theorem limits_execAdviceReadDone (h : P true s) : NextKeeps P (execAdviceReadDone s) := by
  unfold execAdviceReadDone
  split
  · exact limits_complete hP (steady_adviceArrives (hP.steady false)) h
  · exact nextKeeps_next h

theorem limits_execMerchantStatusReadDone (h : P true s) : NextKeeps P (execMerchantStatusReadDone s) := by
  unfold execMerchantStatusReadDone
  split
  · exact limits_complete hP (steady_statusRead (hP.steady false)) h
  · exact nextKeeps_next h

theorem limits_execReadTotalsReadDone (h : P true s) : NextKeeps P (execReadTotalsReadDone s) := by
  unfold execReadTotalsReadDone
  split
  · exact limits_complete hP (steady_totalsRead (hP.steady false)) h
  · exact nextKeeps_next h

theorem limits_execSweepReadDone (h : P true s) : NextKeeps P (execSweepReadDone s) := by
  unfold execSweepReadDone
  split
  · split
    · exact limits_complete hP (steady_sweepRead (hP.steady false)) h
    · exact nextKeeps_fault _
  · exact nextKeeps_next h

theorem limits_execRebuildReadDone (h : P true s) : NextKeeps P (execRebuildReadDone s) := by
  unfold execRebuildReadDone
  split
  · exact limits_complete hP (steady_rebuildArrives (hP.steady false)) h
  · exact nextKeeps_next h

/-! ### Completions of setup's and start-up's accesses -/

theorem limits_execProgrammeWriteDone (h : P true s) : NextKeeps P (execProgrammeWriteDone s) := by
  unfold execProgrammeWriteDone
  split
  · exact limits_complete hP (steady_itemWritten (hP.steady false) _) h
  · exact nextKeeps_next h

theorem limits_execTariffWriteDone (h : P true s) : NextKeeps P (execTariffWriteDone s) := by
  unfold execTariffWriteDone
  split
  · exact limits_complete hP (steady_itemWritten (hP.steady false) _) h
  · exact nextKeeps_next h

theorem limits_execLineConfigWriteDone (h : P true s) : NextKeeps P (execLineConfigWriteDone s) := by
  unfold execLineConfigWriteDone
  split
  · exact limits_complete hP (steady_itemWritten (hP.steady false) _) h
  · exact limits_complete hP (steady_itemWritten (hP.steady false) _) h
  · exact nextKeeps_next h

theorem limits_execSetMerchantReadDone (h : P true s) : NextKeeps P (execSetMerchantReadDone s) := by
  unfold execSetMerchantReadDone
  split
  · exact limits_complete hP (steady_setMerchantRead (hP.steady false)) h
  · exact nextKeeps_next h

theorem limits_execSetMerchantWriteDone (h : P true s) : NextKeeps P (execSetMerchantWriteDone s) := by
  unfold execSetMerchantWriteDone
  split
  · exact limits_complete hP (steady_setMerchantWritten (hP.steady false)) h
  · exact nextKeeps_next h

theorem limits_execConfigWriteFails {left : Residue} (h : P true s) : NextKeeps P (execConfigWriteFails left s) := by
  have hfails (op : PortOp) (region : Region) : NextKeeps P (.next (complete (fun s =>
      answerCfg .storeFault [] (enterFault region 0 (leaveOp op left s))) s)) :=
    limits_complete hP (fun hu => steady_answerCfg (hP.steady false)
      (steady_enterFault (hP.steady false) (steady_leaveOp (hP.steady false) op left hu))) h
  unfold execConfigWriteFails
  split
  · exact hfails _ _
  · exact hfails _ _
  · exact nextKeeps_next h

theorem limits_execFormatWriteDone (h : P true s) : NextKeeps P (execFormatWriteDone s) := by
  unfold execFormatWriteDone
  split
  · exact limits_complete hP (fun hu => steady_formatArrives (hP.steady false) (steady_storeOp (hP.steady false) _ hu)) h
  · exact nextKeeps_next h

theorem limits_execFormatWriteFails {left : Residue} (h : P true s) : NextKeeps P (execFormatWriteFails left s) := by
  unfold execFormatWriteFails
  split
  · exact limits_complete hP (fun hu => steady_formatStops (hP.steady false) (steady_leaveOp (hP.steady false) _ left hu)) h
  · exact nextKeeps_next h

theorem limits_execStartupTotalsReadDone (h : P true s) : NextKeeps P (execStartupTotalsReadDone s) := by
  unfold execStartupTotalsReadDone
  split
  · exact limits_complete hP (steady_startupTotals (hP.steady false)) h
  · exact nextKeeps_next h

theorem limits_execStartupConfigReadDone (h : P true s) : NextKeeps P (execStartupConfigReadDone s) := by
  unfold execStartupConfigReadDone
  split
  · exact limits_complete hP (steady_startupConfig (hP.steady false)) h
  · exact nextKeeps_next h

theorem limits_execRecoveryCardReadDone (h : P true s) : NextKeeps P (execRecoveryCardReadDone s) := by
  unfold execRecoveryCardReadDone
  split
  · split
    · exact limits_complete hP (steady_recoverCard (hP.steady false)) h
    · exact nextKeeps_fault _
  · exact nextKeeps_next h

theorem limits_execRecoveryCardWriteDone {failed : Option Residue} (h : P true s) :
    NextKeeps P (execRecoveryCardWriteDone failed s) := by
  unfold execRecoveryCardWriteDone
  split
  · cases failed with
    | none => exact limits_complete hP (fun hu => steady_cardStepDone (hP.steady false) (steady_storeOp (hP.steady false) _ hu)) h
    | some left =>
      exact limits_complete hP (fun hu => steady_finishRecovery (hP.steady false)
        (steady_enterFault (hP.steady false) (steady_leaveOp (hP.steady false) _ left hu))) h
  · exact nextKeeps_next h

theorem limits_execAdmissionLoadReadDone (h : P true s) : NextKeeps P (execAdmissionLoadReadDone s) := by
  unfold execAdmissionLoadReadDone
  split
  · exact limits_complete hP (steady_admissionOn (hP.steady false)) h
  · exact nextKeeps_next h

/-- The law does not look at the journal's counts, or no read of the scan is in service (R128). -/
def ScanFree (P : Bool → State → Prop) (s : State) : Prop :=
  (∀ u t, P false u → limitTables t = limitTables u → P false t) ∨ ∀ n, s.jc.serving ≠ some (.scanRead n)

theorem limits_execJournalScanReadDone (hscan : ScanFree P s) (h : P true s) : NextKeeps P (execJournalScanReadDone s) := by
  unfold execJournalScanReadDone
  split
  · next n hs =>
    rcases hscan with hcounts | hnone
    · exact limits_complete hP (steady_scanArrives (hP.steady false) hcounts) h
    · exact absurd hs (hnone n)
  · exact nextKeeps_next h

/-! ### Every command -/

/-- Every command keeps a law of the limits, but for the scan's read where the law looks at the counts. -/
theorem exec_keeps_limits {c : Instr} (hscan : ScanFree P s) (h : P true s) : NextKeeps P (exec c s) := by
  have hQ := hP.steady true
  cases c with
  | reset cause straps left => exact nextKeeps_next hP.reset
  | frameRejected bytes => exact nextKeeps_next (limits_takeRejected hP h)
  | receiveGapExpiry bytes => exact nextKeeps_next (limits_takeGap hP h)
  | replyFrameSent left => exact nextKeeps_next (hP.sent h)
  | activate tag body => exact limits_hostCard hP .activate h
  | load tag body => exact limits_hostCard hP .load h
  | hold tag body => exact limits_hostCard hP .hold h
  | release tag body => exact limits_hostCard hP .release h
  | balance tag body => exact limits_hostCard hP .balance h
  | capture tag body => exact limits_hostCard hP .capture h
  | redeem tag body => exact limits_hostCard hP .redeem h
  | void tag body => exact limits_hostCard hP .void h
  | refund tag body => exact limits_hostCard hP .refund h
  | cashOut tag body => exact limits_hostCard hP .cashOut h
  | block tag body => exact limits_hostCard hP .block h
  | unblock tag body => exact limits_hostCard hP .unblock h
  | suspendMerchant tag body => exact limits_hostAdmin hP .suspend h
  | resumeMerchant tag body => exact limits_hostAdmin hP .resume h
  | closeMerchant tag body => exact limits_hostAdmin hP .close h
  | cutoff tag body => exact limits_hostRequest hP (fun _ _ hu => limits_joinAppend hP hu) h
  | takeAdvice tag body => exact limits_hostRequest hP (fun _ _ hu => steady_takeAdvice hQ hu) h
  | readPayout tag body => exact limits_hostRequest hP (fun _ _ hu => steady_readPayoutEntry hQ hu) h
  | rewindPayout tag body => exact limits_hostRequest hP (fun _ _ hu => steady_sendLink hQ (hQ.frame hu rfl)) h
  | releasePayout tag body => exact limits_hostRequest hP (fun _ _ hu => steady_releaseList hQ hu) h
  | readTotals tag body => exact limits_hostRequest hP (fun _ _ hu => hQ.access hu ⟨nofun, nofun⟩) h
  | merchantStatus tag body => exact limits_hostRequest hP (fun _ _ hu => hQ.access hu ⟨nofun, nofun⟩) h
  | startSweep tag body => exact limits_hostRequest hP (fun _ _ hu => steady_startSweep hQ hu) h
  | stopSweep tag body => exact limits_hostRequest hP (fun _ _ hu => steady_stopSweep hQ hu) h
  | enableStation tag body => exact limits_hostRequest hP (fun _ _ hu => limits_enableStation hP hu) h
  | disableStation tag body => exact limits_hostRequest hP (fun _ _ hu => limits_disableStation hP hu) h
  | clearStationCounts tag body => exact limits_hostRequest hP (fun _ _ hu => steady_sendLink hQ (hQ.frame hu rfl)) h
  | lineStatus tag body => exact limits_hostRequest hP (fun _ _ hu => steady_sendLink hQ hu) h
  | partStatus tag body => exact limits_hostRequest hP (fun _ _ hu => steady_sendLink hQ hu) h
  | takeNotices tag body => exact limits_hostRequest hP (fun _ _ hu => steady_sendLink hQ (hQ.frame hu rfl)) h
  | restart tag body => exact limits_hostRequest hP (fun _ _ hu => hQ.frame hu (limitView_takeRestart ..)) h
  | setTime tag body => exact limits_hostRequest hP (fun _ _ hu => steady_sendLink hQ (hQ.frame hu rfl)) h
  | format tag body => exact limits_hostRequest hP (fun _ _ hu => steady_takeCfg hQ hu) h
  | setProgramme tag body => exact limits_hostItem hP h
  | setTariff tag body => exact limits_hostItem hP h
  | setMerchant tag body => exact limits_hostRequest hP (fun _ _ hu => steady_takeCfg hQ hu) h
  | setStation tag body => exact limits_hostItem hP h
  | setLine tag body => exact limits_hostItem hP h
  | openService tag body => exact limits_hostRequest hP (fun _ _ hu => steady_takeCfg hQ hu) h
  | secondsTick => exact nextKeeps_next (hQ.frame h rfl)
  | holdExpiry epoch serial => exact nextKeeps_next (limits_expireHold hP h)
  | holdEntry lock => exact nextKeeps_next (limits_holdArrives hP h)
  | holdClaim lock => exact nextKeeps_next (limits_claimArrives hP h)
  | cardReadDone => exact limits_execCardReadDone hP h
  | appendIssue => exact nextKeeps_next (hP.due h)
  | appendWriteDone => exact limits_execAppendWriteDone hP h
  | appendWriteFails left => exact limits_execAppendWriteFails hP h
  | cardWriteDone => exact limits_execCardWriteDone hP h
  | cardWriteFails left => exact limits_execCardWriteFails hP h
  | accrualStart => exact limits_execAccrualStart hP h
  | accrualMerchantReadDone => exact limits_execAccrualMerchantReadDone hP h
  | accrualMerchantWriteDone failed => exact limits_execAccrualMerchantWriteDone hP h
  | totalsWriteDone => exact limits_execTotalsWriteDone hP h
  | totalsWriteFails left => exact limits_execTotalsWriteFails hP h
  | commitMarkDone => exact limits_execCommitMarkDone hP h
  | commitMarkFails left => exact limits_execCommitMarkFails hP h
  | closeWalkStart => exact limits_execCloseWalkStart hP h
  | walkMerchantReadDone => exact limits_execWalkMerchantReadDone hP h
  | walkMerchantWriteDone => exact limits_execWalkMerchantWriteDone hP h
  | walkMerchantWriteFails left => exact limits_execWalkMerchantWriteFails hP h
  | adviceReadDone => exact limits_execAdviceReadDone hP h
  | merchantStatusReadDone => exact limits_execMerchantStatusReadDone hP h
  | readTotalsReadDone => exact limits_execReadTotalsReadDone hP h
  | programmeWriteDone => exact limits_execProgrammeWriteDone hP h
  | tariffWriteDone => exact limits_execTariffWriteDone hP h
  | setMerchantReadDone => exact limits_execSetMerchantReadDone hP h
  | setMerchantWriteDone => exact limits_execSetMerchantWriteDone hP h
  | lineConfigWriteDone => exact limits_execLineConfigWriteDone hP h
  | configWriteFails left => exact limits_execConfigWriteFails hP h
  | formatWriteDone => exact limits_execFormatWriteDone hP h
  | formatWriteFails left => exact limits_execFormatWriteFails hP h
  | sweepReadDone => exact limits_execSweepReadDone hP h
  | rebuildReadDone => exact limits_execRebuildReadDone hP h
  | startupTotalsReadDone => exact limits_execStartupTotalsReadDone hP h
  | startupConfigReadDone => exact limits_execStartupConfigReadDone hP h
  | journalScanReadDone => exact limits_execJournalScanReadDone hP hscan h
  | recoveryCardReadDone => exact limits_execRecoveryCardReadDone hP h
  | recoveryCardWriteDone failed => exact limits_execRecoveryCardWriteDone hP h
  | admissionLoadReadDone => exact limits_execAdmissionLoadReadDone hP h
  | offerStart n =>
    refine nextKeeps_next ?_
    split
    · exact hQ.frame h rfl
    · exact h
  | broadcastStart n => exact nextKeeps_next (hQ.frame h rfl)
  | emptyRoundWaitExpiry n => exact nextKeeps_next (hQ.frame h rfl)
  | offerSent n => exact nextKeeps_next (hQ.frame h rfl)
  | broadcastSent n => exact nextKeeps_next (hQ.frame h rfl)
  | goodAnswer n frame => exact nextKeeps_next (limits_goodAnswer hP h)
  | answerWindowExpiry n =>
    refine nextKeeps_next ?_
    split
    · exact limits_closeOffer hP (limits_applyMiss hP) h
    · exact h
  | answerGapExpiry n =>
    refine nextKeeps_next ?_
    split
    · exact limits_closeOffer hP (limits_applyBad hP) h
    · exact h
  | badAnswer n frame => exact nextKeeps_next (limits_badAnswer hP h)
  | noRequestKindFrame kind tag body =>
    simp only [exec, execNoRequestKindFrame]
    split
    · exact nextKeeps_next h
    · exact limits_hostRequest hP (fun _ _ hu => hu) h

/-- One step under a law of the limits. -/
theorem step_keeps_limits {t : State} (hscan : ∀ rest, ScanFree P { s with pending := rest }) (h : P true s)
    (ht : step s = .next t) : P true t := by
  unfold step at ht
  split at ht
  · cases ht; exact h
  · next c rest _ => exact exec_keeps_limits hP (hscan rest) ((hP.steady true).frame h rfl) t ht

end Commands

end Sys2Proof.Machine
end

section
/-! The link, the ring and the journal under the laws of the limits, and the settlement of O8. -/

namespace Sys2Proof.Machine
open Sys2Proof Sys2Proof.Safety

/-! ### The link and the ring (R59, R159, R161) -/

section Link
variable {s t : State}

theorem steady_limitsOk : Steady LimitsOk where
  lower := by
    intro s t h htables _ _
    simp only [limitTables, untaggedCount, Prod.mk.injEq] at htables
    obtain ⟨hflight, huntagged, hring, -, -, -⟩ := htables
    rw [LimitsOk, hflight, huntagged, hring]
    exact h
  access := fun h _ => by simpa [LimitsOk] using h

/-- The port's choice touches the link only through the replies of the records refused (R117). -/
theorem limitsOk_portLoop (fuel : Nat) (h : LimitsOk s) : LimitsOk (portLoop fuel s) := by
  induction fuel generalizing s with
  | zero => exact h
  | succ fuel ih =>
    have hqueued : LimitsOk (queueAppend s) := by simpa [LimitsOk] using h
    simp only [portLoop]
    generalize queueAppend s = u at hqueued
    split
    · exact hqueued
    split
    · split
      · exact ih hqueued
      split
      · exact hqueued
      · exact ih (steady_refuseItem steady_limitsOk hqueued)
    · exact hqueued

theorem limitsOk_issueDue (h : LimitsOk s) : LimitsOk (issueDue s) := by
  unfold issueDue
  split
  · split
    · exact limitsOk_portLoop _ h
    · simpa [LimitsOk] using h
  · exact h

/-- A frame's tag joins the tags in flight (R159). -/
theorem limitsOk_tagTaken {n : Nat} (h : LimitsOk s) (hzero : n ≠ 0) (hfresh : n ∉ s.hlp.inFlight)
    (hroom : s.hlp.inFlight.length < 8) :
    LimitsOk { s with hlp := { s.hlp with inbound := [], inFlight := s.hlp.inFlight ++ [n] } } := by
  obtain ⟨_, hnodup, hnone, hrest⟩ := h
  refine ⟨?_, ?_, ?_, hrest⟩
  · rw [List.length_append]; exact hroom
  · exact List.nodup_append.mpr ⟨hnodup, List.nodup_singleton n, fun a ha b hb heq =>
      hfresh ((heq.trans (List.mem_singleton.mp hb)) ▸ ha)⟩
  · simpa [hnone] using hzero.symm

/-- A ninth reply of a frame that took no tag is discarded (R161). -/
theorem limitsOk_sendUntagged {kind tag : Nat} {r : Reply} (h : LimitsOk s) : LimitsOk (sendUntagged kind tag r s) := by
  obtain ⟨hlength, hnodup, hnone, huntagged, hring⟩ := h
  unfold sendUntagged
  split
  · next hroom =>
    refine ⟨hlength, hnodup, hnone, ?_, hring⟩
    show (List.filter _ (s.hlp.outbound ++ [_])).length ≤ 8
    rw [List.filter_append, List.length_append]
    exact Nat.add_le_add (Nat.le_of_lt_succ hroom) (List.length_filter_le _ [_])
  · exact ⟨hlength, hnodup, hnone, huntagged, hring⟩

/-- The ring drops its oldest entry when it is full (R59). -/
theorem ringAdd_length {e : RingEntry} {ring : List RingEntry} (h : ring.length ≤ 256) : (ringAdd e ring).length ≤ 256 := by
  unfold ringAdd
  rw [List.length_append, List.length_singleton]
  split
  · rw [List.length_drop]; omega
  · next hroom => exact Nat.lt_of_not_le hroom

theorem limitsOk_completeRing {m : Movement} {j p : Nat} (h : LimitsOk s) : LimitsOk (completeRing m j p s) := by
  obtain ⟨hlength, hnodup, hnone, huntagged, hring⟩ := h
  unfold completeRing
  split
  · exact ⟨hlength, hnodup, hnone, huntagged, ringAdd_length hring⟩
  · exact ⟨hlength, hnodup, hnone, huntagged, ringAdd_length hring⟩
  · exact ⟨hlength, hnodup, hnone, huntagged, ringAdd_length hring⟩
  · exact ⟨hlength, hnodup, hnone, huntagged, (List.length_map _).trans_le hring⟩
  · exact ⟨hlength, hnodup, hnone, huntagged, hring⟩

theorem limitsOk_resetWith (cause : ResetCause) (straps : BitVec 2) (mem : List Host.Cell) (pending : List Instr) :
    LimitsOk (resetWith cause straps mem pending) :=
  ⟨Nat.zero_le _, List.nodup_nil, List.not_mem_nil, Nat.zero_le _, Nat.zero_le _⟩

/-- The frame that begins next keeps its tag's mark (R161). -/
theorem beginNext_untagged (n : Notices) (fs : List OutFrame) :
    ((beginNext n fs).filter fun f => !f.tagged).length = (fs.filter fun f => !f.tagged).length := by
  cases fs with
  | nil => rfl
  | cons f fs =>
    cases htag : f.tagged with
    | true => simp [beginNext, beginFrame, htag]
    | false => simp [beginNext, beginFrame, htag]

theorem limitsOk_frameSent {left : Residue} (h : LimitsOk s) : LimitsOk (frameSent left s) := by
  unfold frameSent
  split
  · exact h
  next f rest hout =>
  split
  · exact limitsOk_resetWith ..
  obtain ⟨hlength, hnodup, hnone, huntagged, hring⟩ := h
  have hkept : List.Sublist (if f.tagged then s.hlp.inFlight.filter (fun t => t != f.tag) else s.hlp.inFlight)
      s.hlp.inFlight := by
    split
    · exact List.filter_sublist
    · exact List.Sublist.refl _
  have hfewer : List.Sublist (rest.filter fun f => !f.tagged) (s.hlp.outbound.filter fun f => !f.tagged) := by
    rw [hout]; exact (List.sublist_cons_self f rest).filter _
  refine ⟨hkept.length_le.trans hlength, hnodup.sublist hkept, fun hmem => hnone (hkept.mem hmem), ?_, hring⟩
  show ((beginNext s.hlp.notices rest).filter _).length ≤ 8
  rw [beginNext_untagged]
  exact hfewer.length_le.trans huntagged

/-- The limits of the link and of the ring, whether an access is in service or not. -/
def LinkLaw (_ : Bool) (s : State) : Prop := LimitsOk s

theorem linkLaw_limits : LimitLaw LinkLaw where
  steady := fun _ => steady_limitsOk
  begun := id
  due := limitsOk_issueDue
  port := limitsOk_portLoop _
  tagTaken := limitsOk_tagTaken
  untagged := limitsOk_sendUntagged
  ringed := limitsOk_completeRing
  appendEnds := fun h _ _ _ => h
  sent := limitsOk_frameSent
  reset := limitsOk_resetWith ..

/-- The link and the ring do not look at the journal's counts. -/
theorem linkLaw_scanFree (s : State) : ScanFree LinkLaw s := .inl fun u t h htables => by
  simp only [limitTables, untaggedCount, Prod.mk.injEq] at htables
  obtain ⟨hflight, huntagged, hring, -, -, -⟩ := htables
  rw [LinkLaw, LimitsOk, hflight, huntagged, hring]
  exact h

end Link

/-! ### The journal (R115) -/

section Journal
variable {s : State}

theorem steady_journalKept (b : Bool) : Steady (JournalKept b) where
  lower := by
    intro s t ⟨hpending, huntaken, hcount, hdue, hwrite, hserved⟩ htables hlower hlower'
    simp only [limitTables, Prod.mk.injEq] at htables
    obtain ⟨-, -, -, hissued, hserving, hwaiting⟩ := htables
    rw [JournalKept, hissued, hserving, hwaiting]
    refine ⟨hlower.trans hpending, hlower'.trans huntaken, hcount, fun h => hlower.trans_lt (hdue h), hwrite,
      fun hb op hop => ?_⟩
    obtain ⟨hne, hroom⟩ := hserved hb op hop
    refine ⟨hne, fun body hbody => ?_⟩
    obtain ⟨hi, hn, hp, hu⟩ := hroom body hbody
    exact ⟨hi, hn, hlower.trans_lt hp, hlower'.trans_lt hu⟩
  access := fun h hop => JournalKept.issue h hop

/-- The append write in service leaves room for its record, and no other append access waits (R115, R116). -/
theorem journalKept_appendEnds {body : JBody} {queue : List AppendItem} {pending untaken : Nat} (h : JournalKept true s)
    (hs : s.jc.serving = some (.appendWrite body)) (hpending : pending ≤ s.jc.pendingCount + 1)
    (huntaken : untaken ≤ s.jc.untaken + 1) : JournalKept false { s with jc := { s.jc with
      appendQueue := queue, appendIssued := false, pendingCount := pending, untaken := untaken } } := by
  obtain ⟨_, _, _, _, hwrite, hserved⟩ := h
  obtain ⟨_, hn, hp, hu⟩ := (hserved rfl _ hs).2 body rfl
  exact ⟨hpending.trans hp, huntaken.trans hu, (List.count_eq_zero.mpr hn).le, fun hmem => absurd hmem hn, hwrite, nofun⟩

theorem journalOk_resetWith (cause : ResetCause) (straps : BitVec 2) (mem : List Host.Cell) (pending : List Instr) :
    JournalOk (resetWith cause straps mem pending) := by
  refine ⟨Nat.zero_le _, Nat.zero_le _, Nat.zero_le _, nofun, nofun, ?_⟩
  rintro op ⟨⟩
  exact ⟨nofun, nofun⟩

theorem journalKept_frameSent {left : Residue} (h : JournalKept true s) : JournalKept true (frameSent left s) := by
  unfold frameSent
  split
  · exact h
  split
  · exact (journalKept_iff _).mpr (journalOk_resetWith ..)
  · exact h

theorem journalKept_completeRing {b : Bool} {m : Movement} {j p : Nat} (h : JournalKept b s) :
    JournalKept b (completeRing m j p s) := h.congr (by simp) (by simp) (by simp) (by simp) (by simp)

theorem journalKept_sendUntagged {b : Bool} {kind tag : Nat} {r : Reply} (h : JournalKept b s) :
    JournalKept b (sendUntagged kind tag r s) := h.congr (by simp) (by simp) (by simp) (by simp) (by simp)

theorem journalKept_limits : LimitLaw JournalKept where
  steady := steady_journalKept
  begun := JournalKept.weak
  due := JournalKept.issueDue
  port := JournalKept.portNext
  tagTaken := fun h _ _ _ => h
  untagged := journalKept_sendUntagged
  ringed := journalKept_completeRing
  appendEnds := journalKept_appendEnds
  sent := journalKept_frameSent
  reset := (journalKept_iff _).mpr (journalOk_resetWith ..)

end Journal

/-- Settles O8: the limits of the link and of the ring, and the journal law, are laws of the limits. -/
theorem stepKeepsLimits : Obligations.StepKeepsLimits :=
  ⟨fun s _ h ht => step_keeps_limits linkLaw_limits (fun _ => linkLaw_scanFree _) (show LinkLaw true s from h) ht,
    fun _ t h hscan ht => (journalKept_iff t).mp
      (step_keeps_limits journalKept_limits (fun _ => .inr hscan) ((journalKept_iff _).mpr h) ht)⟩

end Sys2Proof.Machine
end

section
/-! A card read whose tests pass, and the movement that it hands on (O47). -/

namespace Sys2Proof.Machine
open Sys2Proof Sys2Proof.Safety

/-! ### The decisions that move (R49 to R67) -/

section Moves
variable {k : Nat} {s : State} {w : Window} {req : CardReq} {r : CardRec}

theorem decideCard_block (h : req.kind = .block) : decideCard k req r s = carryOut k req r (decideBlock req r) s := by
  simp only [decideCard, h]

theorem decideCard_unblock (h : req.kind = .unblock) : decideCard k req r s = carryOut k req r (decideUnblock req r) s := by
  simp only [decideCard, h]

theorem decideActivate_moves (hb : r.state = .blank) (hm : maskAllows s w req.merchant = true) (ho : req.amount ≤ w.maxBalance) :
    decideActivate s w req r = .move { movementOf req r .activate req.amount .active req.amount
      (bonusGiven w req.amount req.amount 0).1 with clamped := (bonusGiven w req.amount req.amount 0).2 } := by
  rw [decideActivate, if_neg (not_not.mpr hb), if_neg (by simp [hm]), if_neg (Nat.not_lt.mpr ho)]

section Active
variable (ha : r.state = .active) (hm : maskAllows s w req.merchant = true)
include ha hm

theorem decideLoad_moves (hr : w.reloadable = true) (ho : r.paid + r.bonus + req.amount ≤ w.maxBalance) :
    decideLoad s w req r = .move { movementOf req r .load req.amount .active (r.paid + req.amount)
      (r.bonus + (bonusGiven w req.amount (r.paid + req.amount) r.bonus).1)
      with clamped := (bonusGiven w req.amount (r.paid + req.amount) r.bonus).2 } := by
  rw [decideLoad, if_neg (not_not.mpr ha), if_neg (by simp [hr, hm]), if_neg (Nat.not_lt.mpr ho)]

/-- A REDEEM that the card can meet in full (R52). -/
theorem decideRedeem_full (hv : req.amount ≤ (availOf s req r).1 + (availOf s req r).2) :
    decideRedeem s w req r = .move (movementOf req r .redeem req.amount .active
      (r.paid - (splitPurses w.order req.amount (availOf s req r).1 (availOf s req r).2).1)
      (r.bonus - (splitPurses w.order req.amount (availOf s req r).1 (availOf s req r).2).2)) := by
  rw [decideRedeem]
  dsimp only
  rw [if_neg (not_not.mpr ha), if_neg (by simp [hm]), if_pos hv]

/-- A REDEEM that takes all that is available (R53). -/
theorem decideRedeem_part (hv : (availOf s req r).1 + (availOf s req r).2 < req.amount) (hp : req.partialFlag = true)
    (h0 : 0 < (availOf s req r).1 + (availOf s req r).2) :
    decideRedeem s w req r = .move (movementOf req r .redeem ((availOf s req r).1 + (availOf s req r).2) .active
      (r.paid - (availOf s req r).1) (r.bonus - (availOf s req r).2)) := by
  rw [decideRedeem]
  dsimp only
  rw [if_neg (not_not.mpr ha), if_neg (by simp [hm]), if_neg (Nat.not_le.mpr hv), if_pos ⟨hp, h0⟩]

theorem decideRefund_moves (hc : req.merchant = 0 ∨ req.amount ≤ (s.tariff (s.admission req.merchant).cls).cap)
    (ho : r.paid + r.bonus + req.amount ≤ w.maxBalance) :
    decideRefund s w req r = .move (movementOf req r .refund req.amount .active (r.paid + req.amount) r.bonus) := by
  have huncapped : ¬(req.merchant ≠ 0 ∧ (s.tariff (s.admission req.merchant).cls).cap < req.amount) :=
    fun ⟨h0, hlt⟩ => hc.elim h0 (Nat.not_le.mpr hlt)
  rw [decideRefund, if_neg (not_not.mpr ha), if_neg (by simp [hm]), if_neg huncapped, if_neg (Nat.not_lt.mpr ho)]

end Active

theorem decideVoid_moves {e : RingEntry} (hst : r.state = .active ∨ r.state = .blocked) (ht : voidTarget s req = some e)
    (ho : r.paid + r.bonus + (e.paid + e.bonus) ≤ w.maxBalance) :
    decideVoid s w req r = .move { movementOf req r .void (e.paid + e.bonus) r.state (r.paid + e.paid) (r.bonus + e.bonus)
      with capturePeriod := e.period } := by
  rw [decideVoid, if_neg (not_and_or.mpr (hst.imp not_not.mpr not_not.mpr)), ht]
  exact if_neg (Nat.not_lt.mpr ho)

theorem decideCashOut_moves (hst : r.state = .active ∨ r.state = .blocked) (hc : w.cashable = true)
    (hh : s.chain req.card req.slot = []) :
    decideCashOut s w req r = .move (movementOf req r .cashOut r.paid .cashed 0 0) := by
  rw [decideCashOut, if_neg (not_and_or.mpr (hst.imp not_not.mpr not_not.mpr)), if_neg (by simp [hc]),
    if_neg (not_not.mpr hh)]

theorem decideBlock_moves (ha : r.state = .active) :
    decideBlock req r = .move (movementOf req r .cardState 0 .blocked r.paid r.bonus) := if_neg (not_not.mpr ha)

theorem decideUnblock_moves (hb : r.state = .blocked) :
    decideUnblock req r = .move (movementOf req r .cardState 0 .active r.paid r.bonus) := if_neg (not_not.mpr hb)

end Moves

/-! ### The movement under its lock (R24, R44, R116, R126) -/

section HandedOn
variable {k : Nat} {l : LockSlot} {r : CardRec} {m : Movement} {op : PortOp} {s : State}

/-- At a busy port the movement's record is in the append queue before the next access is chosen (R44, R116). -/
theorem portNext_move_normal (hl : s.lock k = some l) (hs : s.jc.serving = some op) (hstore : s.jc.store = .normal) :
    portNext 2 (carryOut k l.owner r (.move m) s) = portNext 2 (
      let u := s.setLock k (some { l with doing := .moving })
      { u with jc := { u.jc with appendQueue := s.jc.appendQueue ++ [.movement k m] } }) := by
  show portNext 2 (joinAppend (.movement k m) (setDoing k .moving s)) = _
  rw [setDoing_locked hl]
  exact portNext_joinAppend (n := 1) (s := s.setLock k (some { l with doing := .moving })) hs hstore

/-- A movement that has claimed no hold is refused at once in store FAULT (R46, R126). -/
theorem carryOut_move_refused (hl : s.lock k = some l) (hm : m.kind ≠ .capture) (hstore : s.jc.store = .fault) :
    carryOut k l.owner r (.move m) s = answerOwner k m.req (plainReply m.req.kind.code .storeFault 0 (fig 4 m.req.card))
      (s.setLock k (some { l with doing := .moving })) := by
  show joinAppend (.movement k m) (setDoing k .moving s) = _
  rw [setDoing_locked hl, joinAppend_fault (s := s.setLock k (some { l with doing := .moving })) _ hstore]
  rw [← refusal_eq_plainReply, refuseItem, returnClaim_other hm]

end HandedOn

/-- Settles O47: each kind's decision by the lemma of its movement, and the movement's way under its lock. -/
theorem cardReadDecidesMovements : Obligations.CardReadDecidesMovements := by
  intro k slot l r s hs h1 h2 hl hr hc req w allowed chain free moves
  have hdec : exec .cardReadDone s = .next (portNext 2 (decideCard k req r s)) :=
    (exec_cardReadDone hs h1 h2).trans (portNext_congr (cardRead_decides hl hr hc))
  have mask : allowed → maskAllows s w req.merchant = true := maskAllows_iff.mpr
  have handsOn {kind : MoveKind} {amount : Nat} {st : CardState} {paid bonus period : Nat} {clamped : Bool}
      (hkind : kind ≠ .capture)
      (hmove : decideCard k req r s = carryOut k req r (.move { movementOf req r kind amount st paid bonus with
        capturePeriod := period, clamped := clamped }) s) : moves kind amount st paid bonus period clamped := by
    refine ⟨fun hstore => ?_, fun hstore => ?_⟩
    · rw [hdec, hmove, portNext_move_normal hl hs hstore]; rfl
    · rw [hdec, hmove, carryOut_move_refused hl hkind hstore]; rfl
  refine ⟨fun hk hb hm ho => handsOn nofun ?_, fun hk ha hr hm ho => handsOn nofun ?_, fun hk ha hm hv => handsOn nofun ?_,
    fun hk ha hm hv hp h0 => handsOn nofun ?_, fun e hk hst hf hcard hmer hv ho => handsOn nofun ?_,
    fun hk ha hm hcap ho => handsOn nofun ?_, fun hk hst hcash hh => handsOn nofun ?_, fun hk ha => handsOn nofun ?_,
    fun hk hb => handsOn nofun ?_⟩
  · rw [decideCard_activate hk, decideActivate_moves hb (mask hm) ho]; rfl
  · rw [decideCard_load hk, decideLoad_moves ha (mask hm) hr ho]; rfl
  · rw [decideCard_redeem hk, decideRedeem_full ha (mask hm) hv]; rfl
  · rw [decideCard_redeem hk, decideRedeem_part ha (mask hm) hv hp h0]; rfl
  · rw [decideCard_void hk, decideVoid_moves hst (voidTarget_eq_some hf hcard hmer hv) ho]; rfl
  · rw [decideCard_refund hk, decideRefund_moves ha (mask hm) hcap ho]; rfl
  · rw [decideCard_cashOut hk, decideCashOut_moves hst hcash hh]; rfl
  · rw [decideCard_block hk, decideBlock_moves ha]; rfl
  · rw [decideCard_unblock hk, decideUnblock_moves hb]; rfl

end Sys2Proof.Machine
end

section
/-! The commission step (O15), the requests of the merchant accounts (O27, O32), and SET-MERCHANT (O42). -/

namespace Sys2Proof.Machine
open Sys2Proof Sys2Proof.Safety

/-! ### The commission step (R85, R87) -/

/-- Settles O15: quotient and remainder by 10,000, and the earlier remainder, which lies below 10,000, leaves the quotient of the
recovered step as it is. -/
theorem commissionStepIsExact : Obligations.CommissionStepIsExact := by
  intro rho amount rate sign hrho _ p
  obtain ⟨x, hx⟩ : ∃ x : Int, x = rho + sign * (amount * rate : Nat) := ⟨_, rfl⟩
  have hp : p = (x / 10000, (x % 10000).toNat) := by rw [hx]; rfl
  have hrem : (p.2 : Int) = x % 10000 := by rw [hp]; exact Int.toNat_of_nonneg (Int.emod_nonneg x (by decide))
  have hsum : p.1 * 10000 + p.2 = x := by rw [hrem, hp]; exact Int.ediv_mul_add_emod x 10000
  have hback : recoveredDelta p.2 sign amount rate = -((p.2 - (x - rho)) / 10000) := by
    rw [hx, add_sub_cancel_left]; rfl
  refine ⟨?_, ?_, ?_⟩
  · rw [hsum, hx, Nat.cast_mul]
  · have := Int.emod_lt_of_pos x (show (0 : Int) < 10000 by decide)
    omega
  · rw [hback]
    omega

/-! ### Requests that name a merchant (R75, R90, R91, R134) -/

section Requests
variable {tag : Byte} {m : Nat} {s : State}

theorem merchantField_byte (h1 : 1 ≤ m) (h2 : m ≤ 240) : merchantField? [byteOf m] = some m := by
  simp [merchantField?, field, leNat, inRange, Config.merchants, byteOf_toNat (show m < 256 by omega), h1, h2]

/-- A merchant state request that is taken joins the append queue (R75, R116). -/
theorem exec_adminCommand (k : AdminKind) (ha : Admits .trade tag s) (h1 : 1 ≤ m) (h2 : m ≤ 240) :
    exec (adminCommand k tag [byteOf m]) s = .next (joinAppend (.admin tag.toNat k m) (taken tag s)) := by
  have hexec : exec (adminCommand k tag [byteOf m]) s = .next (hostAdmin k tag [byteOf m] s) := by cases k <;> rfl
  rw [hexec, hostAdmin, hostRequest_admitted ha (merchantField_byte h1 h2)]

/-- A CUTOFF that is taken joins the append queue (R91, R116). -/
theorem exec_cutoff (ha : Admits .trade tag s) :
    exec (.cutoff tag []) s = .next (joinAppend (.cutoff tag.toNat) (taken tag s)) :=
  congrArg Host.Outcome.next (hostRequest_admitted ha rfl)

end Requests

/-- Settles O27: each request joins the queue in store NORMAL, and is refused as a record of it in FAULT. -/
theorem bookRequestsJoinAppendQueue : Obligations.BookRequestsJoinAppendQueue := by
  rintro k tag body m s ha rfl h1 h2 u
  have hadmin := exec_adminCommand k ha h1 h2
  have hcutoff := exec_cutoff ha
  refine ⟨fun hs => ?_, fun hs => ?_⟩
  · rw [hadmin, hcutoff, joinAppend_normal (s := u) _ hs, joinAppend_normal (s := u) _ hs]
    exact ⟨rfl, rfl⟩
  · rw [hadmin, hcutoff, joinAppend_fault (s := u) _ hs, joinAppend_fault (s := u) _ hs]
    exact ⟨rfl, rfl⟩

/-- Settles O32: both requests are taken and issue their read. -/
theorem bookReadsAreIssued : Obligations.BookReadsAreIssued := by
  intro tag m s ha h1 h2
  exact ⟨congrArg Host.Outcome.next (hostRequest_admitted ha rfl),
    congrArg Host.Outcome.next (hostRequest_admitted ha (merchantField_byte h1 h2))⟩

/-! ### Replies that outlast the port's next access (R161) -/

/-- The port refuses appends, and so only adds to the outbound queue (R117, R161). -/
theorem outbound_portLoop (fuel : Nat) (s : State) : s.hlp.outbound <+: (portLoop fuel s).hlp.outbound := by
  induction fuel generalizing s with
  | zero => exact List.prefix_rfl
  | succ fuel ih =>
    have hport (jc : Jc) : s.hlp.outbound <+: { queueAppend s with jc := jc }.hlp.outbound := by
      rw [queueAppend_hlp]
    simp only [portLoop]
    split
    · exact hport _
    · split
      · split
        · exact (hport _).trans (ih _)
        · split
          · exact hport _
          · exact (hport _).trans ((outbound_refuseItem _ _ _ _ _ { queueAppend s with jc := _ }).trans (ih _))
      · exact hport _

theorem answered_portNext {tag n : Nat} {r : Reply} {s : State} (h : Answered tag r s) : Answered tag r (portNext n s) :=
  h.mono (outbound_portLoop _ s)

/-- What stands after a read whose check fails (R88, R125): the store in FAULT, memory as it was, the notice raised and the
request answered. -/
theorem portNext_faulted {tag j : Nat} {r : Reply} {region : Region} {s t : State}
    (hrecord : faultRecord t = faultRecord (enterFault region j s)) (hanswer : Answered tag r t) :
    (portNext 2 t).jc.store = .fault ∧ (portNext 2 t).mem = s.mem
      ∧ (portNext 2 t).hlp.notices.storeFault = some { region := region, journal := j } ∧ Answered tag r (portNext 2 t) := by
  have h := (faultRecord_portNext 2 t).trans (hrecord.trans (faultRecord_enterFault region j s))
  simp only [faultRecord, Prod.mk.injEq] at h
  obtain ⟨hnotice, hstore, hmem, -, -⟩ := h
  exact ⟨hstore, hmem, hnotice, answered_portNext hanswer⟩

/-! ### SET-MERCHANT (R73, R78) -/

section SetMerchant
variable {tag m cls group : Nat} {q : ConfigReq} {r : MerchantRec} {before : MerchantState} {s : State}

theorem exec_setMerchantReadDone (h : s.jc.serving = some (.setMerchantRead tag m cls group)) :
    exec .setMerchantReadDone s = .next (portNext 2 (setMerchantRead tag m cls group s)) := by
  rw [exec, execSetMerchantReadDone, h]; rfl

theorem exec_setMerchantWriteDone (h : s.jc.serving = some (.setMerchantWrite tag m before r)) :
    exec .setMerchantWriteDone s = .next (portNext 2 (setMerchantWritten tag m before r s)) := by
  rw [exec, execSetMerchantWriteDone, h]; rfl

theorem setMerchantRead_good (hr : readMerchant (Memory.readMany s.mem (12288 + (m - 1) * 256) 256) = some r)
    (hs : s.jc.store = .normal) : setMerchantRead tag m cls group s
      = issue (.setMerchantWrite tag m (s.admission m).state { r with
          cls := cls, group := group, state := if (s.admission m).state = .unconfigured then .active else r.state }) s := by
  rw [← merchantAddress_eq] at hr
  unfold setMerchantRead
  rw [hr, hs]

theorem setMerchantRead_inFault (hr : readMerchant (Memory.readMany s.mem (12288 + (m - 1) * 256) 256) = some r)
    (hs : s.jc.store = .fault) : setMerchantRead tag m cls group s = answerCfg .storeFault [] s := by
  rw [← merchantAddress_eq] at hr
  unfold setMerchantRead
  rw [hr, hs]

theorem setMerchantRead_bad (hr : readMerchant (Memory.readMany s.mem (12288 + (m - 1) * 256) 256) = none) :
    setMerchantRead tag m cls group s = answerCfg .storeFault [] (enterFault .merchants 0 s) := by
  rw [← merchantAddress_eq] at hr
  unfold setMerchantRead
  rw [hr]

/-- The request of a bad record is answered after FAULT, and the next one taken (R88, R170). -/
theorem answerCfg_enterFault {region : Region} {j : Nat} (hq : s.jc.cfg = some q) :
    answerCfg .storeFault [] (enterFault region j s)
      = runCfg s.jc.cfgWaiting (sendLink q.tag (plainReply q.kind .storeFault) (enterFault region j s)) := by
  rw [answerCfg_eq ((enterFault_jc_cfg ..).trans hq), enterFault_jc_cfgWaiting]

/-- The verified write reaches the admission table, and the request is answered OK (R73, R78). -/
theorem setMerchantWritten_eq (hq : s.jc.cfg = some q) : setMerchantWritten tag m before r s
    = runCfg s.jc.cfgWaiting (sendLink q.tag
        (plainReply q.kind .ok 0 (fig 1 m ++ fig 1 before.code ++ fig 1 (setUpState before).code ++ fig 1 r.cls ++ fig 1 r.group))
        (State.setAdmission { s with mem := Memory.writeMany s.mem (12288 + (m - 1) * 256) r.bytes } m
          { state := setUpState before, cls := r.cls, group := r.group })) := by
  rw [setMerchantWritten, storeOp_eq (show PortOp.write? (.setMerchantWrite tag m before r) = some (_, _, _) from rfl),
    merchantAddress_eq, answerCfg_eq (by exact hq)]
  rfl

end SetMerchant

/-- Settles O42: the read by the record and the store, the write by the admission entry. -/
theorem setMerchantCompletes : Obligations.SetMerchantCompletes := by
  intro tag m cls group s read ends
  refine ⟨fun hserving => ⟨fun r hr hs => ?_, fun q hq => ⟨fun r hr hs => ?_, fun hr => ?_, fun hr hw => ?_⟩⟩,
    ?_, fun a h1 h2 => ⟨setAdmission_admission_same h1 h2, fun k hk => ?_⟩⟩
  · rw [exec_setMerchantReadDone hserving, setMerchantRead_good hr hs]
  · rw [exec_setMerchantReadDone hserving, setMerchantRead_inFault hr hs, answerCfg_eq hq]
  · rw [exec_setMerchantReadDone hserving, setMerchantRead_bad hr, answerCfg_enterFault hq]
  · have hexec := exec_setMerchantReadDone hserving
    rw [setMerchantRead_bad hr] at hexec
    have halone : answerCfg .storeFault [] (enterFault .merchants 0 s)
        = runCfg [] (sendLink q.tag (plainReply q.kind .storeFault) (enterFault .merchants 0 s)) := by
      rw [answerCfg_enterFault hq, hw]
    obtain ⟨hstore, hmem, hnotice, hanswer⟩ := portNext_faulted (tag := q.tag) (r := plainReply q.kind .storeFault)
      (faultRecord_answerCfg .storeFault [] (enterFault .merchants 0 s)) (halone ▸ answered_sendLink _ _ _)
    refine ⟨_, hexec, hstore, hmem, hnotice, ?_, hanswer⟩
    rw [portNext_jc_cfg, halone, runCfg_nil]
  · intro before r q hserving hq after u
    rw [exec_setMerchantWriteDone hserving, setMerchantWritten_eq hq]
    rfl
  · exact setAdmission_admission_ne h1 hk

end Sys2Proof.Machine
end

section
/-! The course of an accrual (O51): the effect of a record, the stages, and their ends. -/

namespace Sys2Proof.Machine
open Sys2Proof Sys2Proof.Safety

/-! ### The effect of a record (R84 to R86, R132) -/

section Effect
variable {b : JBody} {t : Tariff} {r : MerchantRec}

/-- The effect on the totals record: the kinds that change more than the outstanding figures, field by field (R132). -/
theorem applyTotals_eq (b : JBody) (t : Totals) : applyTotals b t = { t with
    outPaid := t.outPaid + b.paidDelta, outBonus := t.outBonus + b.bonusDelta, lastApplied := b.number
    bonusIssued := if b.kind = .activate ∨ b.kind = .load then t.bonusIssued + b.bonusDelta else t.bonusIssued
    paidOut := if b.kind = .cashOut then t.paidOut - b.paidDelta else t.paidOut
    bonusForfeited := if b.kind = .cashOut then t.bonusForfeited - b.bonusDelta else t.bonusForfeited } := by
  unfold applyTotals
  cases b.kind <;> rfl

theorem namesMerchant_iff : namesMerchant b = true
    ↔ 1 ≤ b.merchant ∧ b.merchant ≤ 240 ∧ b.kind ≠ .cashOut ∧ b.kind ≠ .cardState ∧ b.kind ≠ .periodEnd := by
  have hrange : inRange 1 Config.merchants b.merchant = true ↔ 1 ≤ b.merchant ∧ b.merchant ≤ 240 := decide_eq_true_iff
  simp only [namesMerchant, Bool.and_eq_true, hrange, bne_iff_ne, and_assoc]

/-- A record's effect on its merchant, from the bank and the state that its kind leaves (R84). -/
theorem applyMerchant_eq {k : Bank} {st : MerchantState} {delta : Int} (hbank : stepBank b t (sumBank b t r.bank) = (k, delta))
    (hstate : (if b.kind = .merchantState then merchantStateOf b.newState else r.state) = st) :
    applyMerchant b t r = ({ r with bank := k, lastApplied := b.number, state := st }, delta) := by
  rw [applyMerchant, hbank, hstate]

/-- A capture adds its amount and its fee, and makes a commission step upward (R84 to R86). -/
theorem applyMerchant_capture (hk : b.kind = .capture ∨ b.kind = .redeem ∨ b.kind = .lateCapture) : applyMerchant b t r
    = ({ r with
          bank := { r.bank with
            g := r.bank.g + b.amount, captures := countUp r.bank.captures, bf := r.bank.bf - b.bonusDelta, x := r.bank.x + t.fee
            c := r.bank.c + (commissionStep r.bank.rho 1 b.amount t.rate).1
            rho := (commissionStep r.bank.rho 1 b.amount t.rate).2 }
          lastApplied := b.number },
        (commissionStep r.bank.rho 1 b.amount t.rate).1) := by
  rcases hk with hk | hk | hk <;> exact applyMerchant_eq (by simp only [stepBank, sumBank, stepSign, hk]) (by rw [hk]; rfl)

/-- A void returns amount, fee and commission (R84 to R86). -/
theorem applyMerchant_void (hk : b.kind = .void) : applyMerchant b t r
    = ({ r with
          bank := { r.bank with
            v := r.bank.v + b.amount, voids := countUp r.bank.voids, bf := r.bank.bf - b.bonusDelta, x := r.bank.x - t.fee
            c := r.bank.c + (commissionStep r.bank.rho (-1) b.amount t.rate).1
            rho := (commissionStep r.bank.rho (-1) b.amount t.rate).2 }
          lastApplied := b.number },
        (commissionStep r.bank.rho (-1) b.amount t.rate).1) :=
  applyMerchant_eq (by simp only [stepBank, sumBank, stepSign, hk]) (by rw [hk]; rfl)

/-- A refund returns commission, and no fee (R84 to R86). -/
theorem applyMerchant_refund (hk : b.kind = .refund) : applyMerchant b t r
    = ({ r with
          bank := { r.bank with
            f := r.bank.f + b.amount, refunds := countUp r.bank.refunds
            c := r.bank.c + (commissionStep r.bank.rho (-1) b.amount t.rate).1
            rho := (commissionStep r.bank.rho (-1) b.amount t.rate).2 }
          lastApplied := b.number },
        (commissionStep r.bank.rho (-1) b.amount t.rate).1) :=
  applyMerchant_eq (by simp only [stepBank, sumBank, stepSign, hk]) (by rw [hk]; rfl)

/-- A sale of value adds to the sales, and makes no commission step (R84, R86). -/
theorem applyMerchant_sale (hk : b.kind = .activate ∨ b.kind = .load) : applyMerchant b t r
    = ({ r with
          bank := { r.bank with s := r.bank.s + b.paidDelta, sales := countUp r.bank.sales }
          lastApplied := b.number }, 0) := by
  rcases hk with hk | hk <;> exact applyMerchant_eq (by simp only [stepBank, sumBank, stepSign, hk]) (by rw [hk]; rfl)

/-- A merchant state record changes the state alone (R84). -/
theorem applyMerchant_state (hk : b.kind = .merchantState) : applyMerchant b t r
    = ({ r with lastApplied := b.number, state := merchantStateOf b.newState }, 0) :=
  applyMerchant_eq (by simp only [stepBank, sumBank, stepSign, hk]) (by rw [hk]; rfl)

end Effect

/-! ### The totals writes of the books (R131) -/

section Totals
variable {s : State}

theorem requestTotals_free {job : TotalsJob} (h : s.mau.totalsBusy = none) : requestTotals job s = issueTotals job s := by
  rw [requestTotals, h]

theorem requestTotals_busy {job other : TotalsJob} (h : s.mau.totalsBusy = some other) :
    requestTotals job s = { s with mau := { s.mau with totalsDue := s.mau.totalsDue ++ [job] } } := by rw [requestTotals, h]

end Totals

/-! ### The stages (R82, R83, R87 to R89) -/

section Stages
variable {a : Accrual} {b : JBody} {m : Nat} {r : MerchantRec} {s : State}

/-- The totals record carries the number already (R83). -/
theorem accrualTotals_passes (h : a.body.number ≤ s.mau.copy.lastApplied) : accrualTotals a s
    = issue (.commitMark a.body.number a.delta a.rem) { s with mau := { s.mau with accrual := some a } } := if_pos h

/-- The effect goes into the working copy, and its write becomes due (R83, R131, R132). -/
theorem accrualTotals_writes (h : ¬a.body.number ≤ s.mau.copy.lastApplied)
    (hfit : totalsFit (applyTotals a.body s.mau.copy) = true) :
    accrualTotals a s = requestTotals .accrual
      { s with mau := { s.mau with copy := applyTotals a.body s.mau.copy, accrual := some { a with stage2 := true } } } :=
  (if_neg h).trans (if_pos hfit)

/-- A sum of the totals record leaves its range (R88). -/
theorem accrualTotals_fails (h : ¬a.body.number ≤ s.mau.copy.lastApplied)
    (hfit : ¬totalsFit (applyTotals a.body s.mau.copy) = true) :
    accrualTotals a s = stopAccrual (enterFault .totals a.body.number s) :=
  (if_neg h).trans (if_neg hfit)

theorem beginAccrual_names (h : namesMerchant b = true) : beginAccrual b s = issue (.accrualRead b.merchant)
    { s with mau := { s.mau with accrual := some { body := b, stage2 := false, delta := 0, rem := 0 } } } := if_pos h

theorem beginAccrual_other (h : ¬namesMerchant b = true) :
    beginAccrual b s = accrualTotals { body := b, stage2 := false, delta := 0, rem := 0 } s := if_neg h

theorem endStage1_normal (h : s.jc.store = .normal) : endStage1 a s = accrualTotals a s := by rw [endStage1, h]

theorem endStage1_fault (h : s.jc.store = .fault) : endStage1 a s = stopAccrual s := by rw [endStage1, h]

/-- The check of the merchant record fails (R88). -/
theorem accrualRead_bad (hr : readMerchant (Memory.readMany s.mem (12288 + (m - 1) * 256) 256) = none) :
    accrualRead a m s = stopAccrual (enterFault .merchants a.body.number s) := by
  rw [← merchantAddress_eq] at hr
  unfold accrualRead
  rw [hr]
  rfl

/-- The delta of a record whose merchant carries it already: found again for the kinds that make a commission step (R87). -/
def deltaAgain (b : JBody) (rho rate : Nat) : Int := (stepSign b.kind).elim 0 fun sign => recoveredDelta rho sign b.amount rate

/-- The merchant record carries the number already: stage 1 is passed over (R83, R87). -/
theorem accrualRead_applied (hr : readMerchant (Memory.readMany s.mem (12288 + (m - 1) * 256) 256) = some r)
    (hn : a.body.number ≤ r.lastApplied) : accrualRead a m s
      = endStage1 { a with delta := deltaAgain a.body r.bank.rho (s.tariff r.cls).rate, rem := r.bank.rho } s := by
  rw [← merchantAddress_eq] at hr
  unfold accrualRead
  rw [hr]
  refine (if_pos hn).trans ?_
  rw [deltaAgain]
  cases stepSign a.body.kind <;> rfl

section Applied
variable (hr : readMerchant (Memory.readMany s.mem (12288 + (m - 1) * 256) 256) = some r) (hn : r.lastApplied < a.body.number)
include hr hn

/-- The record's effect is written into its merchant's record (R83, R84). -/
theorem accrualRead_writes (hfit : bankFits (applyMerchant a.body (s.tariff r.cls) r).1.bank = true) : accrualRead a m s
    = issue (.accrualWrite m (applyMerchant a.body (s.tariff r.cls) r).1)
        { s with mau := { s.mau with accrual := some { a with
          delta := (applyMerchant a.body (s.tariff r.cls) r).2
          rem := (applyMerchant a.body (s.tariff r.cls) r).1.bank.rho } } } := by
  rw [← merchantAddress_eq] at hr
  unfold accrualRead
  rw [hr]
  exact (if_neg (Nat.not_le.mpr hn)).trans (if_pos hfit)

/-- A sum of the bank leaves its range (R88). -/
theorem accrualRead_overflows (hfit : bankFits (applyMerchant a.body (s.tariff r.cls) r).1.bank = false) :
    accrualRead a m s = stopAccrual (enterFault .merchants a.body.number s) := by
  rw [← merchantAddress_eq] at hr
  unfold accrualRead
  rw [hr]
  exact (if_neg (Nat.not_le.mpr hn)).trans (if_neg (by rw [hfit]; decide))

end Applied

/-! ### The events of an accrual (R82, R83) -/

/-- The record that may be accrued is recovery's first with its card step done, or else the queue's next one (R82, R129). -/
theorem accrualDue_eq (hs : s.jc.store = .normal) (ha : s.mau.accrual = none) (hw : s.mau.walk = none)
    (h : (s.jc.phase ≠ .startup ∧ (∀ x rest, s.jc.stage ≠ .recover (x :: rest) true) ∧ b.kind ≠ .periodEnd
        ∧ s.mau.queue.find? (fun x => x.number == s.mau.copy.lastApplied + 1) = some b)
      ∨ (∃ rest, s.jc.stage = .recover (b :: rest) true ∧ (b.kind = .periodEnd → b.number ≤ s.mau.copy.lastApplied))) :
    accrualDue s = some b := by
  have hfree : mauFree s = true := by simp [mauFree, hs, ha, hw]
  rw [accrualDue, hfree]
  rcases h with ⟨hphase, hstage, hkind, hnext⟩ | ⟨rest, hstage, hmarker⟩
  · have hrec : recovering s = none := by
      unfold recovering
      split
      · next b rest h => exact absurd h (hstage b rest)
      · rfl
    have hqueue : nextQueued s = some b := hnext
    simp only [hrec, hqueue, if_neg hphase, if_pos hkind, Bool.true_eq_false, if_false]
  · have hrec : recovering s = some b := by rw [recovering, hstage]
    have hdue : b.kind ≠ .periodEnd ∨ b.number ≤ s.mau.copy.lastApplied := not_or_of_imp hmarker
    simp only [hrec, if_pos hdue, Bool.true_eq_false, if_false]

theorem exec_accrualStart (h : accrualDue s = some b) : exec .accrualStart s = .next (beginAccrual b (dequeue b s)) := by
  rw [exec, execAccrualStart, h]

theorem exec_accrualReadDone (hs : s.jc.serving = some (.accrualRead m)) (ha : s.mau.accrual = some a) :
    exec .accrualMerchantReadDone s = .next (portNext 2 (accrualRead a m s)) := by
  rw [exec, execAccrualMerchantReadDone, hs]
  simp only [complete, accrualReadArrives, ha]

theorem exec_accrualWriteDone (hs : s.jc.serving = some (.accrualWrite m r)) (ha : s.mau.accrual = some a) :
    exec (.accrualMerchantWriteDone none) s
      = .next (portNext 2 (endStage1 a { s with mem := Memory.writeMany s.mem (12288 + (m - 1) * 256) r.bytes })) := by
  rw [exec, execAccrualMerchantWriteDone, hs, ← merchantAddress_eq]
  simp only [complete, accrualWritten, storeOp_mau, ha]
  rfl

end Stages

/-- Settles O51: the start by what is due, the read by the record and its number, each kind by its effect, and the end of stage 1
by the store. -/
theorem accrualStages : Obligations.AccrualStages := by
  unfold Obligations.AccrualStages
  intro effect stops stage2
  have hstops : ∀ s, stops s = stopAccrual s := fun s => rfl
  have hstage2 (a : Accrual) (s : State) : stage2 a s = accrualTotals a s := by
    have heffect : effect a.body s.mau.copy = applyTotals a.body s.mau.copy := (applyTotals_eq ..).symm
    show (if _ then _ else if totalsFit (effect a.body s.mau.copy) = true then _ else _) = _
    rw [heffect]
    by_cases hn : a.body.number ≤ s.mau.copy.lastApplied
    · rw [if_pos hn, accrualTotals_passes hn]
    by_cases hfit : totalsFit (applyTotals a.body s.mau.copy) = true
    · rw [if_neg hn, if_pos hfit, accrualTotals_writes hn hfit]
      split
      · next hb => rw [requestTotals_free (by exact hb)]; rfl
      · next other hb => rw [requestTotals_busy (by exact hb)]
    · rw [if_neg hn, if_neg hfit, accrualTotals_fails hn hfit, hstops]
  refine ⟨?_, ?_, ?_, ?_, ?_⟩
  · intro b s hs ha hw hdue a u names
    have hexec := exec_accrualStart (accrualDue_eq hs ha hw hdue)
    refine ⟨fun hn => ?_, fun hn => ?_⟩
    · rw [hexec, beginAccrual_names (namesMerchant_iff.mpr hn)]; rfl
    · rw [hexec, beginAccrual_other (mt namesMerchant_iff.mp hn), hstage2]; rfl
  · intro a m s hs ha hr
    rw [exec_accrualReadDone hs ha, accrualRead_bad hr, hstops]
  · intro a m r s hs ha hr hn b rate delta
    have hexec := exec_accrualReadDone hs ha
    have hdelta : delta = deltaAgain a.body r.bank.rho (s.tariff r.cls).rate := by
      unfold deltaAgain
      show (match b.kind with | .capture | .redeem | .lateCapture => _ | .void | .refund => _ | _ => _) = _
      cases b.kind <;> rfl
    rw [accrualRead_applied hr hn, ← hdelta] at hexec
    refine ⟨fun hs => ?_, fun hs => ?_⟩
    · rw [hexec, endStage1_normal hs, hstage2]
    · rw [hexec, endStage1_fault hs, hstops]
  · intro a m r s hs ha hr hn b f k up add sub writes
    have hexec := exec_accrualReadDone hs ha
    have hwrites {k' : Bank} {st : MerchantState} {delta : Int}
        (happly : applyMerchant b f r = ({ r with bank := k', lastApplied := b.number, state := st }, delta)) :
        writes k' st delta := by
      refine ⟨fun hfit => ?_, fun hfit => ?_⟩
      · rw [hexec, accrualRead_writes hr hn (by rw [happly]; exact hfit), happly]
      · rw [hexec, accrualRead_overflows hr hn (by rw [happly]; exact hfit), hstops]
    cases hk : b.kind with
    | capture => exact hwrites (applyMerchant_capture (.inl hk))
    | redeem => exact hwrites (applyMerchant_capture (.inr (.inl hk)))
    | lateCapture => exact hwrites (applyMerchant_capture (.inr (.inr hk)))
    | void => exact hwrites (applyMerchant_void hk)
    | refund => exact hwrites (applyMerchant_refund hk)
    | activate => exact hwrites (applyMerchant_sale (.inl hk))
    | load => exact hwrites (applyMerchant_sale (.inr hk))
    | merchantState => exact hwrites (applyMerchant_state hk)
    | cashOut | cardState | periodEnd => trivial
  · intro a m r s hs ha u
    have hexec := exec_accrualWriteDone hs ha
    refine ⟨fun hs => ?_, fun hs => ?_⟩
    · rw [hexec, endStage1_normal (by exact hs), hstage2]
    · rw [hexec, endStage1_fault (by exact hs), hstops]

end Sys2Proof.Machine
end

section
/-! What a verified totals write finishes (O52), and what a verified commit mark ends (O53). -/

namespace Sys2Proof.Machine
open Sys2Proof Sys2Proof.Safety

/-! ### Totals writes (R131) -/

section Totals
variable {s : State} {copy : Totals}

theorem nextTotals_none (h : s.mau.totalsDue = []) : nextTotals s = { s with mau := { s.mau with totalsBusy := none } } := by
  rw [nextTotals, h]

theorem nextTotals_due {job : TotalsJob} {rest : List TotalsJob} (h : s.mau.totalsDue = job :: rest) :
    nextTotals s = issueTotals job { s with mau := { s.mau with totalsBusy := none, totalsDue := rest } } := by
  rw [nextTotals, h]

theorem exec_totalsWriteDone {job : TotalsJob} {earlier : Nat} (h : s.jc.serving = some (.totalsWrite job copy earlier)) :
    exec .totalsWriteDone s = .next (portNext 2 (nextTotals
      (totalsWritten job copy { s with mem := Memory.writeMany s.mem 8192 copy.bytes }))) := by
  rw [exec, execTotalsWriteDone, h]
  rfl

/-- An accrual's totals record stands: its commit mark is issued (R83). -/
theorem totalsWritten_accrual {a : Accrual} (ha : s.mau.accrual = some a) (hs : s.jc.store = .normal) :
    totalsWritten .accrual copy s = issue (.commitMark a.body.number a.delta a.rem) s := by
  rw [totalsWritten, ha, hs]
  rfl

theorem totalsWritten_accrual_fault (hs : s.jc.store = .fault) : totalsWritten .accrual copy s = stopAccrual s := by
  rw [totalsWritten, hs]
  cases s.mau.accrual <;> rfl

/-- A walk's totals record stands: its marker's commit mark is issued (R100). -/
theorem totalsWritten_walkEnd {w : Walk} (hw : s.mau.walk = some w) (hs : s.jc.store = .normal) :
    totalsWritten .walkEnd copy s = issue (.commitMark w.j 0 0) s := by
  rw [totalsWritten, hw, hs]

theorem totalsWritten_walkEnd_fault (hs : s.jc.store = .fault) : totalsWritten .walkEnd copy s = stopWalk s := by
  rw [totalsWritten, hs]
  cases s.mau.walk <;> rfl

/-- The records are delivered, and the next TAKE-ADVICE is taken (R123). -/
theorem totalsWritten_advice (tag n : Nat) (recs : List (List Byte)) : totalsWritten (.advice tag n recs) copy s
    = runAdvice s.jc.adviceWaiting (sendLink tag
        (plainReply 0x18 .ok 0 (fig 1 recs.length ++ fig 6 (n + recs.length) ++ fig 2 (s.jc.untaken - recs.length) ++ recs.flatten))
        { s with jc := { s.jc with oldest := n + recs.length, untaken := s.jc.untaken - recs.length } }) := rfl

theorem endRecoveryIfStarting_mau (s : State) : (endRecoveryIfStarting s).mau = s.mau := by
  unfold endRecoveryIfStarting
  split
  · unfold finishRecovery
    split
    · exact issue_mau _ _
    · exact issue_mau _ _
  · rfl

end Totals

/-- Settles O52: each job by what it finishes, and then the next write due. -/
theorem totalsWritesComplete : Obligations.TotalsWritesComplete := by
  intro job copy earlier s hserving u wait stops ends
  have hexec := exec_totalsWriteDone hserving
  have hends {t : State} (hmau : t.mau.totalsDue = s.mau.totalsDue) (hw : totalsWritten job copy u = t) : ends t := by
    subst hw
    refine ⟨fun hd => ?_, fun due rest hd => ?_⟩
    · rw [hexec, nextTotals_none (hmau.trans hd)]
    · rw [hexec, nextTotals_due (hmau.trans hd)]
  have hwait (op : PortOp) {t : State} (ht : t.jc.serving = s.jc.serving) (hw : t.jc.waiting = s.jc.waiting) :
      issue op t = wait op t := (issue_busy (ht.trans hserving)).trans (by rw [hw])
  have hstops (t : State) (ht : t.jc.stage = s.jc.stage) : endRecoveryIfStarting t = stops t :=
    congrArg (fun stage => match stage with | .recover _ _ => finishRecovery t | _ => t) ht
  have hstopped {t : State} (hstage : t.jc.stage = s.jc.stage) (hmau : t.mau.totalsDue = s.mau.totalsDue)
      (hw : totalsWritten job copy u = endRecoveryIfStarting t) : ends (stops t) :=
    hends (by rw [← hstops t hstage, endRecoveryIfStarting_mau, hmau]) (hw.trans (hstops t hstage))
  cases job with
  | epoch => exact hends rfl (hwait _ rfl rfl)
  | accrual =>
    exact ⟨fun a hs ha => hends rfl ((totalsWritten_accrual (s := u) ha hs).trans (hwait _ rfl rfl)),
      fun hs => hstopped rfl rfl (totalsWritten_accrual_fault (s := u) hs)⟩
  | walkEnd =>
    exact ⟨fun w hs hw => hends rfl ((totalsWritten_walkEnd (s := u) hw hs).trans (hwait _ rfl rfl)),
      fun hs => hstopped rfl rfl (totalsWritten_walkEnd_fault (s := u) hs)⟩
  | release tag p => exact hends rfl rfl
  | advice tag n recs =>
    have hmau : (totalsWritten (.advice tag n recs) copy u).mau = s.mau := by rw [totalsWritten_advice, runAdvice_mau, sendLink_mau]
    show ends (totalsWritten (.advice tag n recs) copy u)
    exact hends (congrArg Mau.totalsDue hmau) rfl

/-! ### Commit marks (R122) -/

section Commit
variable {j : Nat} {d : Int} {rem : Nat} {w : Walk} {s : State}

theorem exec_commitMarkDone (h : s.jc.serving = some (.commitMark j d rem)) : exec .commitMarkDone s
    = .next (portNext 2 (committed j { s with
      mem := Memory.writeMany s.mem (73728 + (j - 1) % 4096 * 64 + 54) (commitBytes d rem) })) := by
  rw [exec, execCommitMarkDone, h]
  rfl

/-- A record's accrual is over, and recovery goes on (R83, R122, R129). -/
theorem committed_accrual (hw : s.mau.walk = none) : committed j s = recoverOn { s with
    jc := { s.jc with pendingCount := s.jc.pendingCount - 1 }, mau := { s.mau with accrual := none } } := by
  simp only [committed, hw]

/-- A marker's walk is over, and recovery goes on (R100, R122, R129). -/
theorem committed_walk (hw : s.mau.walk = some w) (hj : w.j = j) : committed j s
    = recoverOn (finishWalk w { s with jc := { s.jc with pendingCount := s.jc.pendingCount - 1 } }) := by
  simp only [committed, hw, if_pos hj]

/-- Only a record of recovery with its card step done leads on to the next one (R129). -/
theorem recoverOn_other (h : ∀ x rest, s.jc.stage ≠ .recover (x :: rest) true) : recoverOn s = s := by
  unfold recoverOn
  split
  · next x rest hs => exact absurd hs (h x rest)
  · rfl

theorem recoverOn_next {x : JBody} {rest : List JBody} (h : s.jc.stage = .recover (x :: rest) true) :
    recoverOn s = recoverNext rest { s with jc := { s.jc with recovered := s.jc.recovered + 1 } } := by
  rw [recoverOn, h]

theorem hasCard_iff (k : MoveKind) : k.hasCard = true ↔ k ≠ .merchantState ∧ k ≠ .periodEnd := by
  cases k <;> decide

theorem recoverNext_card {b : JBody} {bs : List JBody} (h : b.kind.hasCard = true) : recoverNext (b :: bs) s
    = issue (.recoveryCardRead b) { s with jc := { s.jc with stage := .recover (b :: bs) false } } := if_pos h

theorem recoverNext_plain {b : JBody} {bs : List JBody} (h : ¬b.kind.hasCard = true) : recoverNext (b :: bs) s
    = { s with jc := { s.jc with stage := .recover (b :: bs) true } } := if_neg h

end Commit

/-- Settles O53: the accrual's end and the walk's, each followed by recovery's next record. -/
theorem commitMarkCompletes : Obligations.CommitMarkCompletes := by
  intro j d rem s hserving u ends
  have hexec : exec .commitMarkDone s = .next (portNext 2 (committed j { s with mem := u.mem })) := exec_commitMarkDone hserving
  have hends {t : State} (hstage : t.jc.stage = s.jc.stage) (hrecovered : t.jc.recovered = s.jc.recovered)
      (ht : committed j { s with mem := u.mem } = recoverOn t) : ends t := by
    rw [ht] at hexec
    refine ⟨fun hno => ?_, fun x rest hrec => ?_⟩
    · rw [hexec, recoverOn_other (by rwa [hstage])]
    · rw [recoverOn_next (hstage.trans hrec), hrecovered] at hexec
      intro t' next
      refine ⟨?_, ?_⟩
      · rintro rfl
        rw [hexec]
        rfl
      · rintro y ys rfl
        refine ⟨fun h1 h2 => ?_, fun h => ?_⟩
        · rw [hexec, recoverNext_card ((hasCard_iff _).mpr ⟨h1, h2⟩)]
        · rw [hexec, recoverNext_plain fun hc => h.elim ((hasCard_iff _).mp hc).1 ((hasCard_iff _).mp hc).2]
  refine ⟨fun hw => hends rfl rfl (committed_accrual hw), fun w hw hj => ?_⟩
  intro rs
  exact hends rfl rfl (committed_walk hw hj)

end Sys2Proof.Machine
end

section
/-! READ-TOTALS, MERCHANT-STATUS and TAKE-ADVICE with their record read (O55). -/

namespace Sys2Proof.Machine
open Sys2Proof Sys2Proof.Safety

/-! ### READ-TOTALS and MERCHANT-STATUS (R90, R134) -/

section Reads
variable {tag m : Nat} {r : MerchantRec} {s : State}

theorem exec_totalsReadDone (h : s.jc.serving = some (.totalsRead tag)) :
    exec .readTotalsReadDone s = .next (portNext 2 (totalsRead tag s)) := by rw [exec, execReadTotalsReadDone, h]; rfl

theorem totalsRead_good (h : recordOk (Memory.readMany s.mem 8192 64) = true) : totalsRead tag s
    = sendLink tag (plainReply 0x1C .ok 0 (totalsFigures (totalsFields (Memory.readMany s.mem 8192 64)))) s := by
  rw [totalsRead, show Config.totalsBase = 8192 from rfl, if_pos h]
  rfl

theorem totalsRead_bad (h : recordOk (Memory.readMany s.mem 8192 64) = false) :
    totalsRead tag s = sendLink tag (plainReply 0x1C .storeFault) (enterFault .totals 0 s) := by
  rw [totalsRead, show Config.totalsBase = 8192 from rfl, if_neg (by rw [h]; decide)]
  rfl

theorem exec_statusReadDone (h : s.jc.serving = some (.statusRead tag m)) :
    exec .merchantStatusReadDone s = .next (portNext 2 (statusRead tag m s)) := by
  rw [exec, execMerchantStatusReadDone, h]; rfl

theorem statusRead_good (hr : readMerchant (Memory.readMany s.mem (12288 + (m - 1) * 256) 256) = some r) : statusRead tag m s
    = sendLink tag (plainReply 0x1D .ok 0 (merchantFigures r (s.admission m).state)) s := by
  rw [← merchantAddress_eq] at hr
  unfold statusRead
  rw [hr]
  rfl

theorem statusRead_bad (hr : readMerchant (Memory.readMany s.mem (12288 + (m - 1) * 256) 256) = none) :
    statusRead tag m s = sendLink tag (plainReply 0x1D .storeFault) (enterFault .merchants 0 s) := by
  rw [← merchantAddress_eq] at hr
  unfold statusRead
  rw [hr]
  rfl

/-- A read whose check fails, answered after FAULT (R88, R125). -/
theorem sendLink_faulted (region : Region) (j tag : Nat) (r : Reply) (s : State) :
    let t := portNext 2 (sendLink tag r (enterFault region j s))
    t.jc.store = .fault ∧ t.mem = s.mem ∧ t.hlp.notices.storeFault = some { region := region, journal := j }
      ∧ Answered tag r t :=
  portNext_faulted (faultRecord_of_notices (.of_hlp rfl rfl) rfl rfl rfl rfl) (answered_sendLink _ _ _)

end Reads

/-! ### TAKE-ADVICE (R123) -/

section Advice
variable {job : AdviceJob} {j : Nat} {bs : List Byte} {s : State}

theorem exec_adviceReadDone (h : s.jc.serving = some (.adviceRead j)) (hjob : s.jc.advice = some job) :
    exec .adviceReadDone s = .next (portNext 2 (adviceRead job j s)) := by
  rw [exec, execAdviceReadDone, h]
  simp only [complete, adviceArrives, hjob]

/-- Nothing has been read: the reply carries no record (R123). -/
theorem endAdviceReads_none (h : job.records = []) : endAdviceReads job s = runAdvice s.jc.adviceWaiting
    (sendLink job.tag (plainReply 0x18 .ok 0 (fig 1 0 ++ fig 6 s.jc.oldest ++ fig 2 s.jc.untaken)) s) := by
  rw [endAdviceReads, if_pos h, adviceFigures, List.flatten_nil, List.append_nil]
  rfl

/-- The totals write that moves the oldest untaken number is due (R123, R131). -/
theorem endAdviceReads_some (h : job.records ≠ []) : endAdviceReads job s
    = requestTotals (.advice job.tag job.u job.records) { s with jc := { s.jc with advice := some job } } := if_neg h

/-- A PENDING record ends the reading (R123). -/
theorem adviceSlot_pending (h : isCommitted bs = false) : adviceSlot job bs s = endAdviceReads job s := by
  rw [adviceSlot, h]; rfl

/-- The job with a COMMITTED record read (R123). -/
def AdviceJob.read (job : AdviceJob) (bs : List Byte) : AdviceJob := { job with records := job.records ++ [bs] }

/-- The next number is read until the count is reached (R123). -/
theorem adviceSlot_next (h : isCommitted bs = true) (hcount : (job.read bs).records.length < job.count)
    (hnext : job.u + (job.read bs).records.length < s.jc.next) : adviceSlot job bs s
      = issue (.adviceRead (job.u + (job.read bs).records.length)) { s with jc := { s.jc with advice := some (job.read bs) } } := by
  rw [adviceSlot, h]
  exact if_pos (And.intro hcount hnext)

theorem adviceSlot_last (h : isCommitted bs = true)
    (hend : job.count ≤ (job.read bs).records.length ∨ s.jc.next ≤ job.u + (job.read bs).records.length) :
    adviceSlot job bs s = endAdviceReads (job.read bs) s := by
  rw [adviceSlot, h]
  exact if_neg fun (⟨hcount, hnext⟩ : _ ∧ _) => hend.elim (Nat.not_le.mpr hcount) (Nat.not_le.mpr hnext)

theorem journalAddress_eq (j : Nat) : journalAddress j = 73728 + (j - 1) % 4096 * 64 := rfl

/-- A check of the slot fails: FAULT, or FAULT again (R123, R125). -/
theorem adviceRead_bad (hbs : Memory.readMany s.mem (73728 + (j - 1) % 4096 * 64) 64 = bs)
    (h : readBody bs = none ∨ commitOk bs = false) : adviceRead job j s
      = answerAdvice job.tag (plainReply 0x18 .storeFault) (enterFault .journal j s) := by
  have htest : ((readBody bs).isNone || !commitOk bs) = true := by
    rwa [Bool.or_eq_true, Option.isNone_iff_eq_none, Bool.not_eq_true']
  rw [← journalAddress_eq] at hbs
  rw [adviceRead, hbs, if_pos htest]
  rfl

section Good
variable {b : JBody} (hbs : Memory.readMany s.mem (73728 + (j - 1) % 4096 * 64) 64 = bs) (hbody : readBody bs = some b)
  (hcommit : commitOk bs = true)

include hbody hcommit in
theorem slot_checks_pass : ¬((readBody bs).isNone || !commitOk bs) = true := by
  rw [hbody, hcommit]
  exact Bool.false_ne_true

include hbs hbody hcommit

/-- A good slot is read no further in store FAULT (R126). -/
theorem adviceRead_inFault (hs : s.jc.store = .fault) : adviceRead job j s
    = runAdvice s.jc.adviceWaiting (sendLink job.tag (plainReply 0x18 .storeFault) s) := by
  rw [← journalAddress_eq] at hbs
  rw [adviceRead, hbs, if_neg (slot_checks_pass hbody hcommit), hs]
  rfl

theorem adviceRead_slot (hs : s.jc.store = .normal) : adviceRead job j s = adviceSlot job bs s := by
  rw [← journalAddress_eq] at hbs
  rw [adviceRead, hbs, if_neg (slot_checks_pass hbody hcommit), hs]

end Good

theorem commitOk_of_committed (h : isCommitted bs = true) : commitOk bs = true := by
  obtain ⟨_, hok⟩ := (Bool.and_eq_true _ _).mp h
  exact hok

end Advice

/-- Settles O55: each read by its check, and the advice's slot by the store, the commit mark and the count. -/
theorem bookReadsAreAnswered : Obligations.BookReadsAreAnswered := by
  unfold Obligations.BookReadsAreAnswered
  intro faults
  refine ⟨?_, ?_, ?_⟩
  · intro tag s hserving bs t
    have hexec := exec_totalsReadDone hserving
    refine ⟨fun h => ?_, fun h => ?_⟩
    · rw [hexec, totalsRead_good h]; rfl
    · exact ⟨_, hexec, totalsRead_bad h ▸ sendLink_faulted .totals 0 tag (plainReply 0x1C .storeFault) s⟩
  · intro tag m s hserving read
    have hexec := exec_statusReadDone hserving
    refine ⟨fun r hr => ?_, fun hr => ?_⟩
    · rw [hexec, statusRead_good hr, merchantFigures]
      cases r.lastResult with
      | none => rfl
      | some p => rfl
    · exact ⟨_, hexec, statusRead_bad hr ▸ sendLink_faulted .merchants 0 tag (plainReply 0x1D .storeFault) s⟩
  · intro job j s hserving hjob bs recs job' u ends answers
    have hexec := exec_adviceReadDone hserving hjob
    have hends {recs : List (List Byte)} {t : State} (hmau : t.mau = s.mau)
        (h : adviceRead job j s = requestTotals (.advice job.tag job.u recs) t) : ends recs t := by
      refine ⟨fun hb => ?_, fun other hb => ?_⟩
      · rw [hexec, h, requestTotals_free (by rw [hmau, hb]), issueTotals, hmau]; rfl
      · rw [hexec, h, requestTotals_busy (by rw [hmau, hb]), hmau]
    have hsame : { s with jc := { s.jc with advice := some job } } = s := by rw [← hjob]
    refine ⟨fun b hs hb hc => ⟨fun hlt hnext => ?_, fun hend => ?_⟩, fun b hs hb hok hc => ⟨fun hne => ?_, fun hnil => ?_⟩,
      fun b hs hb hok => ?_, fun hbad => ?_⟩
    · rw [hexec, adviceRead_slot rfl hb (commitOk_of_committed hc) hs, adviceSlot_next hc hlt hnext]; rfl
    · refine hends rfl ?_
      rw [adviceRead_slot rfl hb (commitOk_of_committed hc) hs, adviceSlot_last hc hend,
        endAdviceReads_some (List.append_ne_nil_of_right_ne_nil _ (List.cons_ne_nil _ _))]
      rfl
    · refine hends rfl ?_
      rw [adviceRead_slot rfl hb hok hs, adviceSlot_pending hc, endAdviceReads_some hne, hsame]
    · show exec _ s = _
      rw [hexec, adviceRead_slot rfl hb hok hs, adviceSlot_pending hc, endAdviceReads_none hnil]
    · show exec _ s = _
      rw [hexec, adviceRead_inFault rfl hb hok hs]
    · rw [adviceRead_bad rfl hbad] at hexec
      exact ⟨_, hexec, portNext_faulted (faultRecord_answerAdvice _ _ _)
        ((answered_sendLink _ _ _).mono (outbound_runAdvice _ _))⟩

end Sys2Proof.Machine
end

section
/-! The payout record (O16), and the payout list with its three requests (O29 to O31). -/

namespace Sys2Proof.Machine
open Sys2Proof Sys2Proof.Safety

/-! ### The payout record (R97) -/

section Payout
variable {n : Int}

theorem settleActive_pos (h : 0 < n) : settleActive n = (n, 0, .paid) := if_pos h

theorem settleActive_neg (h : n < 0) : settleActive n = (0, n, .debt) := (if_neg h.not_gt).trans (if_neg h.ne)

theorem settleClosing_nonneg (h : 0 ≤ n) : settleClosing n = (n, 0, .final) := if_pos h

theorem settleClosing_neg (h : n < 0) : settleClosing n = (0, n, .finalDebt) := if_neg h.not_ge

/-- A row of R97's table pays out nothing and carries the net, or pays out a net of 0 or above and carries nothing. -/
def SplitsNet (n : Int) (row : Int × Int × PayStatus) : Prop := ∃ st, row = (0, n, st) ∨ 0 ≤ n ∧ row = (n, 0, st)

theorem settleActive_splits (n : Int) : SplitsNet n (settleActive n) := by
  rcases lt_trichotomy n 0 with h | rfl | h
  · exact ⟨_, .inl (settleActive_neg h)⟩
  · exact ⟨_, .inl rfl⟩
  · exact ⟨_, .inr ⟨h.le, settleActive_pos h⟩⟩

theorem settleClosing_splits (n : Int) : SplitsNet n (settleClosing n) := by
  rcases lt_or_ge n 0 with h | h
  · exact ⟨_, .inl (settleClosing_neg h)⟩
  · exact ⟨_, .inr ⟨h, settleClosing_nonneg h⟩⟩

/-- So do the rows of every state that the table lists. -/
theorem settle_splits {st : MerchantState} (h : st = .active ∨ st = .suspended ∨ st = .closing) :
    SplitsNet n (settle st n) := by
  rcases h with rfl | rfl | rfl
  · exact settleActive_splits n
  · exact ⟨_, .inl rfl⟩
  · exact settleClosing_splits n

theorem SplitsNet.sums {row : Int × Int × PayStatus} (h : SplitsNet n row) :
    0 ≤ row.1 ∧ row.1 + row.2.1 = n ∧ (row.1 = 0 ∨ row.2.1 = 0) := by
  obtain ⟨st, rfl | ⟨hn, rfl⟩⟩ := h
  · exact ⟨le_rfl, zero_add n, .inl rfl⟩
  · exact ⟨hn, add_zero n, .inr rfl⟩

end Payout

/-- Settles O16: the record follows its row of the table, and each row splits the net. -/
theorem payoutSplitsTheNet : Obligations.PayoutSplitsTheNet := by
  intro m p r k n pay row
  have hrow {payout after : Int} {st : PayStatus} (h : settle r.state n = (payout, after, st)) : row payout after st := by
    refine ⟨?_, h⟩
    show payoutOf m p r = _
    rw [payoutOf, show settle r.state (netOf r.bank r.carry) = (payout, after, st) from h]
    rfl
  refine ⟨fun hst hn => hrow ?_, fun hst hn => hrow ?_, fun hst hn => hrow ?_, fun hst => hrow ?_, fun hst hn => hrow ?_,
    fun hst hn => hrow ?_, fun hst => (settle_splits hst).sums, rfl⟩
  · rw [hst]; exact settleActive_pos hn
  · rw [hst, hn]; rfl
  · rw [hst]; exact settleActive_neg hn
  · rw [hst]; rfl
  · rw [hst]; exact settleClosing_nonneg hn
  · rw [hst]; exact settleClosing_neg hn

/-! ### The requests of the payout list (R104 to R106) -/

section Requests
variable {tag : Nat} {e : PayEntry} {s : State}

/-- An entry at the cursor is answered, and the cursor moves on (R104). -/
theorem readPayoutEntry_entry (hs : s.pcu.state ≠ .empty) (he : s.pcu.entries[s.pcu.cursor]? = some e) : readPayoutEntry tag s
    = sendLink tag (plainReply 0x19 .ok 0 (fig 1 s.pcu.cursor ++ fig 1 e.kindCode ++ e.bytes))
        { s with pcu := { s.pcu with cursor := s.pcu.cursor + 1 } } := by
  simp only [readPayoutEntry, he]
  cases hst : s.pcu.state with
  | empty => exact absurd hst hs
  | building => rfl
  | complete => rfl

theorem readPayoutEntry_notYet (hs : s.pcu.state = .building) (hc : s.pcu.cursor = s.pcu.entries.length) : readPayoutEntry tag s
    = sendLink tag (plainReply 0x19 .notYet 0 (fig 1 s.pcu.entries.length)) s := by
  simp only [readPayoutEntry, hs, List.getElem?_eq_none hc.ge]
  rfl

theorem readPayoutEntry_listEnd (hs : s.pcu.state = .complete) (hc : s.pcu.cursor = s.pcu.entries.length) : readPayoutEntry tag s
    = sendLink tag (plainReply 0x19 .listEnd 0 (fig 1 s.pcu.entries.length ++ fig 4 s.pcu.period)) s := by
  simp only [readPayoutEntry, hs, List.getElem?_eq_none hc.ge]
  rfl

theorem readPayoutEntry_empty (hs : s.pcu.state = .empty) : readPayoutEntry tag s
    = sendLink tag (plainReply 0x19 .listEnd 0 (fig 1 0 ++ fig 4 s.mau.copy.released)) s := by
  simp only [readPayoutEntry, hs]
  rfl

/-- The list state is tested before the store (R106, log 33). -/
theorem releaseList_listState (h : s.pcu.state ≠ .complete ∨ s.pcu.releasing = true) : releaseList tag s
    = sendLink tag (plainReply 0x1B .closeRefused 35 (fig 1 s.pcu.state.code)) s := if_pos h

section Complete
variable (hs : s.pcu.state = .complete) (hr : s.pcu.releasing = false)
include hs hr

theorem not_refused_listState : ¬(s.pcu.state ≠ .complete ∨ s.pcu.releasing = true) := by
  rw [hs, hr]
  decide

theorem releaseList_fault (h : s.jc.store = .fault) : releaseList tag s = sendLink tag (plainReply 0x1B .storeFault) s :=
  (if_neg (not_refused_listState hs hr)).trans (if_pos h)

/-- The released period is written in its turn (R106, R131). -/
theorem releaseList_writes (h : s.jc.store = .normal) : releaseList tag s
    = requestTotals (.release tag s.pcu.period) { s with pcu := { s.pcu with releasing := true } } :=
  (if_neg (not_refused_listState hs hr)).trans (if_neg (by rw [h]; decide))

end Complete

end Requests

/-- Settles O29: the entry at the cursor, or the reply of the list state. -/
theorem readPayoutFollowsTheCursor : Obligations.ReadPayoutFollowsTheCursor := by
  intro tag s ha u c answer
  have hexec : exec c s = .next (readPayoutEntry tag.toNat u) := congrArg Host.Outcome.next (hostRequest_admitted ha rfl)
  refine ⟨fun e hs he => ?_, fun hs hc => ?_, fun hs hc => ?_, fun hs => ?_⟩
  · rw [hexec, readPayoutEntry_entry (s := u) hs he]; rfl
  · rw [hexec, readPayoutEntry_notYet (s := u) hs hc]; rfl
  · rw [hexec, readPayoutEntry_listEnd (s := u) hs hc]; rfl
  · rw [hexec, readPayoutEntry_empty (s := u) hs]; rfl

/-- Settles O30: the request is taken in every list state, and rewinds the list. -/
theorem rewindPayoutSetsCursor : Obligations.RewindPayoutSetsCursor := by
  intro tag s ha u
  exact congrArg Host.Outcome.next (hostRequest_admitted ha rfl)

/-- Settles O31: the list state, then the store, then the totals write in progress. -/
theorem releasePayoutWritesTotals : Obligations.ReleasePayoutWritesTotals := by
  intro tag s ha u c job
  have hexec : exec c s = .next (releaseList tag.toNat u) := congrArg Host.Outcome.next (hostRequest_admitted ha rfl)
  refine ⟨fun hs hr hn hb => ?_, fun other hs hr hn hb => ?_, fun hs hr hf => ?_, fun h => ?_⟩
  · rw [hexec, releaseList_writes (s := u) hs hr hn, requestTotals_free (by exact hb)]; rfl
  · rw [hexec, releaseList_writes (s := u) hs hr hn, requestTotals_busy (by exact hb)]; rfl
  · rw [hexec, releaseList_fault (s := u) hs hr hf]
  · rw [hexec, releaseList_listState (s := u) h]; rfl

end Sys2Proof.Machine
end

section
/-! The payout list's passes and its end (R99), and the course of the close walk (O54). -/

namespace Sys2Proof.Machine
open Sys2Proof Sys2Proof.Safety

/-! ### The list at the end of a pass and of its last (R99) -/

section List
variable {g p : Nat} {es : List PayEntry}

/-- The payout records of a group in a list. -/
def groupPayouts (g : Nat) (es : List PayEntry) : List Payout := (payoutsIn es).filter fun r => r.group == g

/-- The list with its group's records closed by their group-end, if there are any. -/
def passClosed (g : Nat) (es : List PayEntry) : List PayEntry :=
  if groupPayouts g es = [] then es else es ++ [.groupEnd g (groupPayouts g es).length (sumsOf (groupPayouts g es))]

/-- The list closed by its list-end. -/
def listClosed (p : Nat) (all : List Payout) (es : List PayEntry) : List PayEntry :=
  es ++ [.listEnd p all.length (groupEndsIn es) (sumsOf all)]

theorem endPass_fits (h : groupPayouts g es = [] ∨ sumsFit (sumsOf (groupPayouts g es)) = true) :
    endPass g es = some (passClosed g es) := by
  by_cases hnil : groupPayouts g es = []
  · rw [passClosed, if_pos hnil]
    exact if_pos hnil
  · rw [passClosed, if_neg hnil]
    exact (if_neg hnil).trans (if_pos (h.resolve_left hnil))

theorem endPass_overflows (hne : groupPayouts g es ≠ []) (h : sumsFit (sumsOf (groupPayouts g es)) = false) :
    endPass g es = none := (if_neg hne).trans (if_neg (by exact Bool.eq_false_iff.mp h))

/-- A group-end is no payout record. -/
theorem payoutsIn_passClosed (g : Nat) (es : List PayEntry) : payoutsIn (passClosed g es) = payoutsIn es := by
  unfold passClosed
  split
  · rfl
  · exact (List.filterMap_append ..).trans (List.append_nil _)

theorem endList_fits (h : sumsFit (sumsOf (payoutsIn es)) = true) :
    endList p (passClosed g es) = some (listClosed p (payoutsIn es) (passClosed g es)) := by
  rw [← payoutsIn_passClosed g] at h
  rw [← payoutsIn_passClosed g es]
  exact if_pos h

theorem endList_overflows (h : sumsFit (sumsOf (payoutsIn es)) = false) : endList p (passClosed g es) = none := by
  rw [← payoutsIn_passClosed g] at h
  exact if_neg (Bool.eq_false_iff.mp h)

end List

/-! ### The course of a pass (R95, R96, R99, R100, R102) -/

section Course
variable {w : Walk} {es : List PayEntry} {s : State}

theorem walkOn_nextMerchant (h : w.merchant < 240) : walkOn w s = walkTo w w.group (w.merchant + 1) s := if_pos h

theorem walkOn_nextPass (h : w.merchant = 240) (hes : endPass w.group s.pcu.entries = some es) (hg : w.group < 7) :
    walkOn w s = walkTo w (w.group + 1) 1 (setEntries es s) := by
  simp only [walkOn, Config.merchants, h, lt_irrefl, if_false, hes, if_pos hg]

theorem walkOn_lastPass (h : w.merchant = 240) (hes : endPass w.group s.pcu.entries = some es) (hg : w.group = 7) :
    walkOn w s = endWalk w (setEntries es s) := by
  simp only [walkOn, Config.merchants, h, lt_irrefl, if_false, hes, if_neg hg.not_lt]

theorem walkOn_overflows (h : w.merchant = 240) (hes : endPass w.group s.pcu.entries = none) :
    walkOn w s = failWalk .merchants w.j s := by
  simp only [walkOn, Config.merchants, h, lt_irrefl, if_false, hes]

/-- The working copy at the walk's end (R100). -/
def accruedCopy (w : Walk) (t : Totals) : Totals := { t with accrued := w.period + 1, lastApplied := w.j }

/-- The totals write of the new accrued period is issued where none is in progress (R100, R131). -/
theorem endWalk_writes (hes : endList w.period s.pcu.entries = some es) (hb : s.mau.totalsBusy = none) : endWalk w s
    = issue (.totalsWrite .walkEnd (accruedCopy w s.mau.copy) 0) { setEntries es s with
      mau := { s.mau with copy := accruedCopy w s.mau.copy, totalsBusy := some .walkEnd } } := by
  rw [endWalk, hes]
  exact requestTotals_free hb

theorem endWalk_waits {job : TotalsJob} (hes : endList w.period s.pcu.entries = some es) (hb : s.mau.totalsBusy = some job) :
    endWalk w s = { setEntries es s with
      mau := { s.mau with copy := accruedCopy w s.mau.copy, totalsDue := s.mau.totalsDue ++ [.walkEnd] } } := by
  rw [endWalk, hes]
  exact requestTotals_busy hb

theorem endWalk_overflows (hes : endList w.period s.pcu.entries = none) : endWalk w s = failWalk .merchants w.j s := by
  rw [endWalk, hes]

end Course

/-! ### A merchant of the walk (R96 to R98, R102) -/

section Merchant
variable {w : Walk} {m : Nat} {r : MerchantRec} {pay : Payout} {s : State}

theorem closedIn_same {p : Nat} (h : r.lastClosed = p) : closedIn p r = r.lastResult := if_pos h

theorem closedIn_other {p : Nat} (h : r.lastClosed ≠ p) : closedIn p r = none := if_neg h

theorem skipped_iff : skipped r = true ↔ r.state = .closed ∨ (r.bank = bankReset ∧ r.carry = 0 ∧ r.state ≠ .closing) := by
  simp only [skipped, Bool.or_eq_true, Bool.and_eq_true, decide_eq_true_iff, and_assoc]

/-- The stored result of a merchant closed before joins the pass of its group (R96). -/
theorem walkMerchant_stored (h : closedIn w.period r = some pay) (hg : pay.group = w.group) :
    walkMerchant w m r s = walkOn w (addEntry (.merchant pay) s) := by
  simp only [walkMerchant, h, if_pos hg]

theorem walkMerchant_storedElsewhere (h : closedIn w.period r = some pay) (hg : pay.group ≠ w.group) :
    walkMerchant w m r s = walkOn w s := by
  simp only [walkMerchant, h, if_neg hg]

theorem walkMerchant_passedOver (h : closedIn w.period r = none) (hr : r.group ≠ w.group ∨ skipped r = true) :
    walkMerchant w m r s = walkOn w s := by
  simp only [walkMerchant, h]
  by_cases hg : r.group = w.group
  · exact (if_neg (not_not.mpr hg)).trans (if_pos (hr.resolve_left (not_not.mpr hg)))
  · exact if_pos hg

section Settled
variable (h : closedIn w.period r = none) (hg : r.group = w.group) (hr : ¬skipped r = true)
include h hg hr

/-- The merchant's record is written with its result (R97, R98). -/
theorem walkMerchant_writes (hfit : fitsSigned 6 (payoutOf m w.period r).n = true) : walkMerchant w m r s
    = issue (.walkWrite m (closedRecord w.period r (payoutOf m w.period r))) s := by
  simp only [walkMerchant, h]
  exact (if_neg (not_not.mpr hg)).trans ((if_neg hr).trans (if_pos hfit))

theorem walkMerchant_overflows (hfit : fitsSigned 6 (payoutOf m w.period r).n = false) :
    walkMerchant w m r s = failWalk .merchants w.j s := by
  simp only [walkMerchant, h]
  exact (if_neg (not_not.mpr hg)).trans ((if_neg hr).trans (if_neg (Bool.eq_false_iff.mp hfit)))

end Settled

theorem walkRead_bad (hr : readMerchant (Memory.readMany s.mem (12288 + (m - 1) * 256) 256) = none) :
    walkRead w m s = failWalk .merchants w.j s := by
  rw [← merchantAddress_eq] at hr
  unfold walkRead
  rw [hr]

section Good
variable (hr : readMerchant (Memory.readMany s.mem (12288 + (m - 1) * 256) 256) = some r)
include hr

theorem walkRead_inFault (hs : s.jc.store = .fault) : walkRead w m s = stopWalk s := by
  rw [← merchantAddress_eq] at hr
  unfold walkRead
  rw [hr, hs]

theorem walkRead_good (hs : s.jc.store = .normal) : walkRead w m s = walkMerchant w m r s := by
  rw [← merchantAddress_eq] at hr
  unfold walkRead
  rw [hr, hs]

end Good

/-- The admission table follows a merchant that the walk has closed for good (R98). -/
def admitClosed (m : Nat) (r : MerchantRec) (s : State) : State :=
  if r.state = .closed then s.setAdmission m { s.admission m with state := .closed } else s

/-- The record stored is no part of the admission entry. -/
theorem admitClosed_stored (m : Nat) (r : MerchantRec) (mem : List Host.Cell) : admitClosed m r { s with mem := mem }
    = if r.state = .closed then State.setAdmission { s with mem := mem } m { s.admission m with state := .closed }
      else { s with mem := mem } := rfl

/-- No more than the admission table changes. -/
theorem admitClosed_kept (m : Nat) (r : MerchantRec) (s : State) : (admitClosed m r s).jc.store = s.jc.store
    ∧ (admitClosed m r s).mau = s.mau ∧ (admitClosed m r s).pcu = s.pcu := by
  unfold admitClosed
  split
  · exact ⟨rfl, rfl, rfl⟩
  · exact ⟨rfl, rfl, rfl⟩

/-- The payout record of a verified write joins the list, and the walk goes on or stops by the store (R98, R102). -/
theorem walkWritten_eq (h : r.lastResult = some pay) : walkWritten w m r s
    = match s.jc.store with
      | .normal => walkOn w (setEntries (s.pcu.entries ++ [.merchant pay]) (admitClosed m r s))
      | .fault => stopWalk (setEntries (s.pcu.entries ++ [.merchant pay]) (admitClosed m r s)) := by
  obtain ⟨hstore, -, hpcu⟩ := admitClosed_kept m r s
  have hlisted : (addEntry (.merchant pay) (admitClosed m r s)).jc.store = s.jc.store := hstore
  rw [← hlisted, ← hpcu, walkWritten, h]
  rfl

theorem walkWritten_normal (h : r.lastResult = some pay) (hs : s.jc.store = .normal) : walkWritten w m r s
    = walkOn w (setEntries (s.pcu.entries ++ [.merchant pay]) (admitClosed m r s)) := by rw [walkWritten_eq h, hs]

theorem walkWritten_fault (h : r.lastResult = some pay) (hs : s.jc.store = .fault) : walkWritten w m r s
    = stopWalk (setEntries (s.pcu.entries ++ [.merchant pay]) (admitClosed m r s)) := by rw [walkWritten_eq h, hs]

end Merchant

/-! ### The events of the walk (R95 to R98) -/

section Events
variable {b : JBody} {w : Walk} {m : Nat} {r : MerchantRec} {s : State}

theorem recovering_none (h : ∀ x rest, s.jc.stage ≠ .recover (x :: rest) true) : recovering s = none := by
  unfold recovering
  split
  · next x rest hs => exact absurd hs (h x rest)
  · rfl

/-- The marker whose walk may begin is recovery's first with its card step done, or else the queue's next record (R95, R108). -/
theorem walkDue_eq (hs : s.jc.store = .normal) (ha : s.mau.accrual = none) (hw : s.mau.walk = none) (hk : b.kind = .periodEnd)
    (h : (s.jc.phase ≠ .startup ∧ (∀ x rest, s.jc.stage ≠ .recover (x :: rest) true)
        ∧ s.mau.queue.find? (fun x => x.number == s.mau.copy.lastApplied + 1) = some b)
      ∨ (∃ rest, s.jc.stage = .recover (b :: rest) true ∧ s.mau.copy.lastApplied < b.number)) :
    walkDue s = some b := by
  have hfree : mauFree s = true := by simp [mauFree, hs, ha, hw]
  rw [walkDue, hfree]
  rcases h with ⟨hphase, hstage, hnext⟩ | ⟨rest, hstage, hnumber⟩
  · have hqueue : nextQueued s = some b := hnext
    simp only [recovering_none hstage, hqueue, if_neg hphase, if_pos hk, Bool.true_eq_false, if_false]
  · have hrec : recovering s = some b := by rw [recovering, hstage]
    simp only [hrec, if_pos (And.intro hk hnumber), Bool.true_eq_false, if_false]

theorem exec_closeWalkStart (h : walkDue s = some b) : exec .closeWalkStart s = .next (beginWalk b (dequeue b s)) := by
  rw [exec, execCloseWalkStart, h]

theorem exec_walkReadDone (hs : s.jc.serving = some (.walkRead m)) (hw : s.mau.walk = some w) :
    exec .walkMerchantReadDone s = .next (portNext 2 (walkRead w m s)) := by
  rw [exec, execWalkMerchantReadDone, hs]
  simp only [complete, walkReadArrives, hw]

theorem exec_walkWriteDone (hs : s.jc.serving = some (.walkWrite m r)) (hw : s.mau.walk = some w) :
    exec .walkMerchantWriteDone s
      = .next (portNext 2 (walkWritten w m r { s with mem := Memory.writeMany s.mem (12288 + (m - 1) * 256) r.bytes })) := by
  rw [exec, execWalkMerchantWriteDone, hs, ← merchantAddress_eq]
  simp only [complete, walkWriteArrives, storeOp_mau, hw]
  rfl

end Events

/-- Settles O54: the start by what is due, a merchant by its record, and the course of the pass by its last merchant and sums. -/
theorem closeWalkCourse : Obligations.CloseWalkCourse := by
  unfold Obligations.CloseWalkCourse
  intro sums stops fails goesOn
  have hstops (s : State) : stops s = stopWalk s := rfl
  have hgoes {c : Instr} {w : Walk} {s u : State} (es : List PayEntry) (hpcu : u.pcu = s.pcu) (hmau : u.mau = s.mau)
      (hexec : exec c s = .next (portNext 2 (walkOn w (setEntries es u)))) : goesOn c w es s u := by
    have hlast (h : w.merchant = 240) (hfit : groupPayouts w.group es = [] ∨ sumsFit (sumsOf (groupPayouts w.group es)) = true)
        (hg : w.group = 7) : walkOn w (setEntries es u) = endWalk w (setEntries (passClosed w.group es) u) :=
      walkOn_lastPass h (endPass_fits hfit) hg
    have hpass (h : w.merchant = 240) (hfit : groupPayouts w.group es = [] ∨ sumsFit (sumsOf (groupPayouts w.group es)) = true)
        (hg : w.group < 7) :
        walkOn w (setEntries es u) = walkTo w (w.group + 1) 1 (setEntries (passClosed w.group es) u) :=
      walkOn_nextPass h (endPass_fits hfit) hg
    have hfails (h : w.merchant = 240) (hne : groupPayouts w.group es ≠ [])
        (hfit : sumsFit (sumsOf (groupPayouts w.group es)) = false) :
        walkOn w (setEntries es u) = failWalk .merchants w.j (setEntries es u) :=
      walkOn_overflows h (endPass_overflows hne hfit)
    have hend (hall : sumsFit (sumsOf (payoutsIn es)) = true) :
        endList w.period (setEntries (passClosed w.group es) u).pcu.entries
          = some (listClosed w.period (payoutsIn es) (passClosed w.group es)) := endList_fits hall
    have hover (hall : sumsFit (sumsOf (payoutsIn es)) = false) :
        endList w.period (setEntries (passClosed w.group es) u).pcu.entries = none := endList_overflows hall
    obtain ⟨pending, mem, hlp, lines, windows, ce, ht, jc, mau, pcu, asu⟩ := u
    obtain rfl : pcu = s.pcu := hpcu
    obtain rfl : mau = s.mau := hmau
    refine ⟨fun h => ?_, fun h hfit => ⟨fun hg => ?_, fun hg hall => ⟨fun hb => ?_, fun job hb => ?_⟩, fun hg hall => ?_⟩,
      fun h hne hfit => ?_⟩
    · rw [hexec, walkOn_nextMerchant h]; rfl
    · rw [hexec, hpass h hfit hg]; rfl
    · rw [hexec, hlast h hfit hg, endWalk_writes (hend hall) hb]; rfl
    · rw [hexec, hlast h hfit hg, endWalk_waits (hend hall) hb]; rfl
    · show exec c s = _
      rw [hexec, hlast h hfit hg, endWalk_overflows (hover hall)]; rfl
    · show exec c s = _
      rw [hexec, hfails h hne hfit]; rfl
  refine ⟨fun b s hs ha hw hk hdue => ?_, fun w m s hserving hw => ?_, fun w m r s hserving hw hs hr => ?_,
    fun w m r pay s hserving hw hpay => ?_⟩
  · rw [exec_closeWalkStart (walkDue_eq hs ha hw hk hdue)]; rfl
  · have hexec := exec_walkReadDone hserving hw
    refine ⟨fun hr => ?_, fun hr hs => ?_⟩
    · show exec _ s = _
      rw [hexec, walkRead_bad hr]; rfl
    · obtain ⟨r, hr⟩ := Option.ne_none_iff_exists'.mp hr
      rw [hexec, walkRead_inFault hr hs, hstops]
  · have hexec := exec_walkReadDone hserving hw
    rw [walkRead_good hr hs] at hexec
    intro k n idle
    refine ⟨fun pay hp hres hg => hgoes _ rfl rfl ?_, fun pay hp hres hg => hgoes _ rfl rfl ?_,
      fun hp hskip => hgoes _ rfl rfl ?_, fun hp hg hnot hfit => ?_, fun hp hg hnot hfit => ?_⟩
    · rw [hexec, walkMerchant_stored ((closedIn_same hp).trans hres) hg]; rfl
    · rw [hexec, walkMerchant_storedElsewhere ((closedIn_same hp).trans hres) hg]; rfl
    · rw [hexec, walkMerchant_passedOver (closedIn_other hp) (hskip.imp_right skipped_iff.mpr)]; rfl
    · show exec _ s = _
      rw [hexec, walkMerchant_overflows (closedIn_other hp) hg (mt skipped_iff.mp hnot) hfit]; rfl
    · intro q pay
      rw [hexec, walkMerchant_writes (closedIn_other hp) hg (mt skipped_iff.mp hnot) hfit]; rfl
  · intro es u v
    have hexec : exec .walkMerchantWriteDone s = .next (portNext 2 (walkWritten w m r u)) := exec_walkWriteDone hserving hw
    have hv : v = admitClosed m r u := (admitClosed_stored m r _).symm
    obtain ⟨-, hmau, hpcu⟩ := admitClosed_kept m r u
    rw [hv]
    refine ⟨fun hs => hgoes es hpcu hmau ?_, fun hs => ?_⟩
    · rw [hexec, walkWritten_normal (s := u) hpay hs]
    · rw [hexec, walkWritten_fault (s := u) hpay hs, setEntries, hpcu]; rfl

end Sys2Proof.Machine
end

section
/-! Start-up from the journal scan to the rebuild of the payout list (O58). -/

namespace Sys2Proof.Machine
open Sys2Proof Sys2Proof.Safety

/-! ### The journal scan (R128) -/

section Scan
variable {n : Nat} {found : List JBody} {bs : List Byte} {b : JBody} {s : State}

theorem heldAs_eq (hb : readBody bs = some b) (hn : b.number = n) : heldAs n bs = some b := by
  rw [heldAs, hb]
  exact if_pos hn

theorem heldAs_none (h : ∀ b, readBody bs = some b → b.number ≠ n) : heldAs n bs = none := by
  unfold heldAs
  split
  · next b hb => exact if_neg (h b hb)
  · rfl

theorem exec_journalScan {n' : Nat} (hs : s.jc.serving = some (.scanRead n)) (hstage : s.jc.stage = .scan n' found) :
    exec .journalScanReadDone s = .next (portNext 2 (scanSlot n found s)) := by
  rw [exec, execJournalScanReadDone, hs]
  simp only [complete, scanArrives, hstage]

/-- A record above the last applied number, or without its commit mark, is PENDING (R128). -/
theorem scanSlot_held (hbs : Memory.readMany s.mem (73728 + (n - 1) % 4096 * 64) 64 = bs) (h : heldAs n bs = some b) :
    scanSlot n found s = issue (.scanRead (n + 1)) { s with jc := { s.jc with
      stage := .scan (n + 1) (if s.mau.copy.lastApplied < n ∨ isCommitted bs = false then found ++ [b] else found) } } := by
  rw [← journalAddress_eq] at hbs
  rw [scanSlot, hbs, h]

theorem scanSlot_ends (hbs : Memory.readMany s.mem (73728 + (n - 1) % 4096 * 64) 64 = bs) (h : heldAs n bs = none) :
    scanSlot n found s = endScan n found s := by
  rw [← journalAddress_eq] at hbs
  rw [scanSlot, hbs, h]

/-- The slot of the last applied number fails (R128). -/
theorem endScan_lastApplied (h : n = s.mau.copy.lastApplied) :
    endScan n found s = finishRecovery (setScanFigures (n + 1) 0 (enterFault .journal n s)) := if_pos h

theorem endScan_fault (h : n ≠ s.mau.copy.lastApplied) (hs : s.jc.store = .fault) :
    endScan n found s = finishRecovery (setScanFigures n found.length s) := by
  rw [endScan, if_neg h]
  simp only [setScanFigures, hs]

theorem endScan_recovers (h : n ≠ s.mau.copy.lastApplied) (hs : s.jc.store = .normal) :
    endScan n found s = recoverNext found (setScanFigures n found.length s) := by
  rw [endScan, if_neg h]
  simp only [setScanFigures, hs]

end Scan

/-! ### The end of recovery, and its card step (R109, R129, R130) -/

section Recovery
variable {b : JBody} {todo : List JBody} {done : Bool} {s : State}

theorem finishRecovery_rebuilds (he : s.pcu.state = .empty) (h : s.mau.copy.released + 1 < s.mau.copy.accrued) :
    finishRecovery s = startRebuild s := if_pos ⟨he, h⟩

theorem finishRecovery_loads (h : s.pcu.state ≠ .empty ∨ s.mau.copy.accrued ≤ s.mau.copy.released + 1) :
    finishRecovery s = startAdmission s :=
  if_neg fun ⟨he, hlt⟩ => h.elim (absurd he) (Nat.not_le.mpr hlt)

theorem cardAddress_eq (slot : Nat) : cardAddress slot = 335872 + (slot - 1) * 32 := rfl

theorem exec_recoveryCardReadDone (hs : s.jc.serving = some (.recoveryCardRead b)) (h1 : 1 ≤ b.slot) (h2 : b.slot ≤ 1048576) :
    exec .recoveryCardReadDone s = .next (portNext 2 (recoverCard b s)) := by
  rw [exec, execRecoveryCardReadDone, hs]
  exact if_pos (slotExists_of_bounds h1 h2)

theorem cardStepDone_eq (h : s.jc.stage = .recover todo done) :
    cardStepDone s = { s with jc := { s.jc with stage := .recover todo true } } := by rw [cardStepDone, h]

/-- The code of a record's new card state names one of the four states (R10). -/
theorem recoveryCardRec_state_code (h : b.newState ≤ 3) : (recoveryCardRec b).state.code = b.newState := by
  have hcode : namedCode 6 4 b.newState = b.newState := namedCode_of_lt (Nat.lt_succ_of_le h)
  have hread : ∀ c ≤ 3, ((cardStateOf? c).getD .blank).code = c := by decide
  rw [recoveryCardRec, hcode]
  exact hread _ h

theorem exec_recoveryCardWriteDone (hs : s.jc.serving = some (.recoveryCardWrite b)) (hstage : s.jc.stage = .recover todo done) :
    exec (.recoveryCardWriteDone none) s = .next (portNext 2 { s with
      mem := Memory.writeMany s.mem (335872 + (b.slot - 1) * 32) (recoveryCardRec b).bytes
      jc := { s.jc with stage := .recover todo true } }) := by
  rw [exec, execRecoveryCardWriteDone, hs]
  simp only [complete, storeOp_eq (show PortOp.write? (.recoveryCardWrite b) = some (_, _, _) from rfl), cardAddress_eq]
  rw [cardStepDone_eq (by exact hstage)]

section Card
variable {bs : List Byte} (hbs : Memory.readMany s.mem (335872 + (b.slot - 1) * 32) 32 = bs)
include hbs

/-- The card carries the record's number or a later one (R129). -/
theorem recoverCard_done (hstage : s.jc.stage = .recover todo done) (hok : recordOk bs = true) (hn : b.number ≤ field bs 11 6) :
    recoverCard b s = { s with jc := { s.jc with stage := .recover todo true } } := by
  rw [← cardAddress_eq] at hbs
  rw [recoverCard, hbs, ← cardStepDone_eq hstage]
  exact if_pos ⟨hok, hn⟩

theorem recoverCard_writes (h : recordOk bs = false ∨ field bs 11 6 < b.number) :
    recoverCard b s = issue (.recoveryCardWrite b) s := by
  rw [← cardAddress_eq] at hbs
  rw [recoverCard, hbs]
  exact if_neg fun ⟨hok, hn⟩ => h.elim (fun hbad => Bool.false_ne_true (hbad.symm.trans hok)) (Nat.not_lt.mpr hn)

end Card

end Recovery

/-! ### The rebuild of the list (R109) -/

section Rebuild
variable {g m : Nat} {es : List PayEntry} {r : MerchantRec} {pay : Payout} {s : State}

/-- The rebuild reads a merchant in a pass. -/
def rebuildTo (g m : Nat) (s : State) : State :=
  issue (.rebuildRead m) { s with pcu := { s.pcu with rebuild := some (g, m) } }

theorem rebuildOn_nextMerchant (h : m < 240) : rebuildOn g m s = rebuildTo g (m + 1) s := if_pos h

theorem rebuildOn_nextPass (h : m = 240) (hes : endPass g s.pcu.entries = some es) (hg : g < 7) :
    rebuildOn g m s = rebuildTo (g + 1) 1 (setEntries es s) := by
  simp only [rebuildOn, Config.merchants, h, lt_irrefl, if_false, hes, if_pos hg]
  rfl

theorem rebuildOn_passOverflows (h : m = 240) (hes : endPass g s.pcu.entries = none) : rebuildOn g m s = failRebuild s := by
  simp only [rebuildOn, Config.merchants, h, lt_irrefl, if_false, hes]

theorem rebuildOn_completes {all : List PayEntry} (h : m = 240) (hes : endPass g s.pcu.entries = some es) (hg : g = 7)
    (hall : endList s.pcu.period es = some all) : rebuildOn g m s = endRebuild .complete (setEntries all s) := by
  simp only [rebuildOn, Config.merchants, h, lt_irrefl, if_false, hes, if_neg hg.not_lt, hall]

theorem rebuildOn_listOverflows (h : m = 240) (hes : endPass g s.pcu.entries = some es) (hg : g = 7)
    (hall : endList s.pcu.period es = none) : rebuildOn g m s = failRebuild (setEntries es s) := by
  simp only [rebuildOn, Config.merchants, h, lt_irrefl, if_false, hes, if_neg hg.not_lt, hall]

theorem rebuildRead_bad (hr : readMerchant (Memory.readMany s.mem (12288 + (m - 1) * 256) 256) = none) :
    rebuildRead g m s = failRebuild s := by
  rw [← merchantAddress_eq] at hr
  unfold rebuildRead
  rw [hr]

section Good
variable (hr : readMerchant (Memory.readMany s.mem (12288 + (m - 1) * 256) 256) = some r)
include hr

/-- The stored result of a merchant of the pass joins the list (R109). -/
theorem rebuildRead_stored (h : closedIn s.pcu.period r = some pay) (hg : pay.group = g) :
    rebuildRead g m s = rebuildOn g m (addEntry (.merchant pay) s) := by
  rw [← merchantAddress_eq] at hr
  unfold rebuildRead
  rw [hr]
  simp only [h, if_pos hg]

theorem rebuildRead_passesOver (h : ∀ pay, closedIn s.pcu.period r = some pay → pay.group ≠ g) :
    rebuildRead g m s = rebuildOn g m s := by
  rw [← merchantAddress_eq] at hr
  unfold rebuildRead
  rw [hr]
  cases hc : closedIn s.pcu.period r with
  | none => simp only [hc]
  | some pay => simp only [hc, if_neg (h pay hc)]

end Good

theorem exec_rebuildReadDone {m' : Nat} (hs : s.jc.serving = some (.rebuildRead m)) (hre : s.pcu.rebuild = some (g, m')) :
    exec .rebuildReadDone s = .next (portNext 2 (rebuildRead g m s)) := by
  rw [exec, execRebuildReadDone, hs]
  simp only [complete, rebuildArrives, hre]

end Rebuild

/-- Settles O58: the scan by the slot and the store, the card step by the card's number, and the rebuild by the record read, the
last merchant and the sums. -/
theorem recoverySteps : Obligations.RecoverySteps := by
  unfold Obligations.RecoverySteps
  intro stage figures
  refine ⟨fun n n' found s hserving hstage => ?_, fun s => ⟨fun he h => ?_, fun h => ?_⟩,
    fun b todo done s hstage h1 h2 => ?_, fun m g m' s hserving hrebuild => ?_⟩
  · intro bs
    have hexec := exec_journalScan hserving hstage
    have hend (h : ∀ b, readBody bs = some b → b.number ≠ n) :
        exec .journalScanReadDone s = .next (portNext 2 (endScan n found s)) :=
      hexec.trans (by rw [scanSlot_ends rfl (heldAs_none h)])
    refine ⟨fun b hb hn => ?_, fun h hn => ?_, fun h hn hs => ?_, fun h hn hs => ⟨fun b rest hf h1 h2 => ?_,
      fun b rest hf hk => ?_, fun hf => ?_⟩⟩
    · rw [hexec, scanSlot_held rfl (heldAs_eq hb hn)]
    · rw [hend h, endScan_lastApplied hn]; rfl
    · rw [hend h, endScan_fault hn hs]; rfl
    · rw [hend h, endScan_recovers hn hs, hf, recoverNext_card ((hasCard_iff _).mpr ⟨h1, h2⟩)]; rfl
    · rw [hend h, endScan_recovers hn hs, hf,
        recoverNext_plain fun hc => hk.elim ((hasCard_iff _).mp hc).1 ((hasCard_iff _).mp hc).2]; rfl
    · rw [hend h, endScan_recovers hn hs, hf]; rfl
  · rw [finishRecovery_rebuilds he h]; rfl
  · rw [finishRecovery_loads h]; rfl
  · intro bs
    refine ⟨fun hs => ⟨fun hok hn => ?_, fun h => ?_⟩, fun left hs => exec_recoveryCardWriteFails hs, fun hs hnew => ?_⟩
    · rw [exec_recoveryCardReadDone hs h1 h2, recoverCard_done rfl hstage hok hn]
    · rw [exec_recoveryCardReadDone hs h1 h2, recoverCard_writes rfl h]
    · refine ⟨(recoveryCardRec b).state, recoveryCardRec_state_code hnew, ?_⟩
      intro r
      have hr : recoveryCardRec b = r := rfl
      rw [exec_recoveryCardWriteDone hs hstage, hr]
  · intro read sums fails goes
    have hexec := exec_rebuildReadDone hserving hrebuild
    have hgoes (es : List PayEntry) (hread : rebuildRead g m s = rebuildOn g m (setEntries es s)) : goes es := by
      rw [hread] at hexec
      have hpass (hfit : groupPayouts g es = [] ∨ sumsFit (sumsOf (groupPayouts g es)) = true) :
          endPass g (setEntries es s).pcu.entries = some (passClosed g es) := endPass_fits hfit
      have hover (hne : groupPayouts g es ≠ []) (hfit : sumsFit (sumsOf (groupPayouts g es)) = false) :
          endPass g (setEntries es s).pcu.entries = none := endPass_overflows hne hfit
      have hlist (hall : sumsFit (sumsOf (payoutsIn es)) = true) : endList (setEntries es s).pcu.period (passClosed g es)
          = some (listClosed s.pcu.period (payoutsIn es) (passClosed g es)) := endList_fits hall
      have hlong (hall : sumsFit (sumsOf (payoutsIn es)) = false) :
          endList (setEntries es s).pcu.period (passClosed g es) = none := endList_overflows hall
      refine ⟨fun h => ?_, fun h hfit => ⟨fun hg => ?_, fun hg hall => ?_, fun hg hall => ?_⟩, fun h hne hfit => ?_⟩
      · rw [hexec, rebuildOn_nextMerchant h]; rfl
      · rw [hexec, rebuildOn_nextPass h (hpass hfit) hg]; rfl
      · rw [hexec, rebuildOn_completes h (hpass hfit) hg (hlist hall)]; rfl
      · show exec _ s = _
        rw [hexec, rebuildOn_listOverflows h (hpass hfit) hg (hlong hall)]; rfl
      · show exec _ s = _
        rw [hexec, rebuildOn_passOverflows h (hover hne hfit)]; rfl
    refine ⟨fun r pay hr hp hres hg => hgoes _ ?_, fun r hr h => hgoes _ ?_, fun hr => ?_⟩
    · exact rebuildRead_stored hr ((closedIn_same hp).trans hres) hg
    · refine rebuildRead_passesOver hr fun pay hc => ?_
      by_cases hp : r.lastClosed = s.pcu.period
      · rw [closedIn_same hp] at hc
        rcases h with h | h | ⟨pay', h, hg⟩
        · exact absurd hp h
        · exact absurd (h.symm.trans hc) nofun
        · rwa [← Option.some.inj (h.symm.trans hc)]
      · exact absurd ((closedIn_other hp).symm.trans hc) nofun
    · show exec _ s = _
      rw [hexec, rebuildRead_bad hr]; rfl

end Sys2Proof.Machine
end

section
/-! Settlement memory and the store state (O4, O9): what each operation of the part does to them. The memory is written by the
completion of a write access alone, and no operation takes the store out of FAULT. -/

namespace Sys2Proof.Machine
open Sys2Proof Sys2Proof.Safety

/-! ### The relation and the shared operations -/

/-- From `r` to `s` settlement memory has kept its canonical form, and a store in FAULT has stayed there (R110, R125). -/
def KeepsStore (r s : State) : Prop := (MemOk r → MemOk s) ∧ (r.jc.store = .fault → s.jc.store = .fault)

section Store
variable {r s t : State}

theorem KeepsStore.refl (s : State) : KeepsStore s s := ⟨id, id⟩

/-- Nothing but the memory and the store state counts. -/
theorem KeepsStore.frame (h : KeepsStore r s) (hmem : t.mem = s.mem) (hstore : t.jc.store = s.jc.store) : KeepsStore r t := by
  obtain ⟨hcanonical, hfault⟩ := h
  exact ⟨fun hr => by rw [MemOk, hmem]; exact hcanonical hr, fun hr => hstore.trans (hfault hr)⟩

theorem KeepsStore.record (h : KeepsStore r s) (ht : faultRecord t = faultRecord s) : KeepsStore r t := by
  simp only [faultRecord, Prod.mk.injEq] at ht
  obtain ⟨-, hstore, hmem, -, -⟩ := ht
  exact h.frame hmem hstore

/-- A write access stores its record in the canonical form (R110). -/
theorem keepsStore_storeOp (op : PortOp) (h : KeepsStore r s) : KeepsStore r (storeOp op s) := by
  obtain ⟨hmem, hstore⟩ := h
  refine ⟨fun hr => ?_, fun hr => by rw [storeOp_jc, hstore hr]⟩
  unfold storeOp
  split
  · exact memory_writeMany_wf _ _ (hmem hr)
  · exact hmem hr

/-- A write that failed or was cut off leaves a canonical memory too (R113). -/
theorem keepsStore_leaveOp (op : PortOp) (left : Residue) (h : KeepsStore r s) : KeepsStore r (leaveOp op left s) := by
  obtain ⟨hmem, hstore⟩ := h
  refine ⟨fun hr => ?_, fun hr => by rw [leaveOp_jc, hstore hr]⟩
  unfold leaveOp
  split
  · exact memory_leave_wf _ _ _ _ (hmem hr)
  · exact hmem hr

theorem keepsStore_enterFault {region : Region} {j : Nat} (h : KeepsStore r s) : KeepsStore r (enterFault region j s) := by
  obtain ⟨hmem, -⟩ := h
  exact ⟨fun hr => by rw [MemOk, enterFault_mem]; exact hmem hr, fun _ => enterFault_store region j s⟩

theorem keepsStore_issue {op : PortOp} (h : KeepsStore r s) : KeepsStore r (issue op s) := h.frame (by simp) (by simp)

theorem keepsStore_sendLink {tag : Nat} {reply : Reply} (h : KeepsStore r s) : KeepsStore r (sendLink tag reply s) :=
  h.frame rfl rfl

theorem keepsStore_answerOwner {k : Nat} {req : CardReq} {reply : Reply} (h : KeepsStore r s) :
    KeepsStore r (answerOwner k req reply s) := h.frame (by simp) (by simp)

theorem keepsStore_takeCardRequest {req : CardReq} (h : KeepsStore r s) : KeepsStore r (takeCardRequest req s) :=
  h.frame (by simp) (by simp)

theorem keepsStore_portNext {n : Nat} (h : KeepsStore r s) : KeepsStore r (portNext n s) := h.frame (by simp) (by simp)

theorem keepsStore_joinAppend {item : AppendItem} (h : KeepsStore r s) : KeepsStore r (joinAppend item s) :=
  h.frame (by simp) (by simp)

theorem keepsStore_requestTotals {job : TotalsJob} (h : KeepsStore r s) : KeepsStore r (requestTotals job s) :=
  h.frame (by simp) (by simp)

theorem keepsStore_answerAdvice {tag : Nat} {reply : Reply} (h : KeepsStore r s) : KeepsStore r (answerAdvice tag reply s) :=
  h.frame (by simp) (by simp)

theorem keepsStore_answerCfg {st : Status} {figures : List Byte} (h : KeepsStore r s) : KeepsStore r (answerCfg st figures s) :=
  h.record (faultRecord_answerCfg st figures s)

/-! ### The ends of an accrual, a walk and a recovery (R88, R102, R129) -/

theorem keepsStore_finishRecovery (h : KeepsStore r s) : KeepsStore r (finishRecovery s) :=
  h.record (faultRecord_finishRecovery s)

theorem keepsStore_recoverNext {todo : List JBody} (h : KeepsStore r s) : KeepsStore r (recoverNext todo s) := by
  unfold recoverNext
  split
  · exact keepsStore_finishRecovery h
  split
  · exact keepsStore_issue (h.frame rfl rfl)
  · exact h.frame rfl rfl

theorem keepsStore_stopAccrual (h : KeepsStore r s) : KeepsStore r (stopAccrual s) :=
  h.record (faultRecord_endRecoveryIfStarting _)

theorem keepsStore_stopWalk (h : KeepsStore r s) : KeepsStore r (stopWalk s) := h.record (faultRecord_endRecoveryIfStarting _)

theorem keepsStore_failAccrual {region : Region} {j : Nat} (h : KeepsStore r s) : KeepsStore r (failAccrual region j s) :=
  keepsStore_stopAccrual (keepsStore_enterFault h)

theorem keepsStore_failWalk {region : Region} {j : Nat} (h : KeepsStore r s) : KeepsStore r (failWalk region j s) :=
  keepsStore_stopWalk (keepsStore_enterFault h)

/-! ### Accruals (R82 to R89) -/

theorem keepsStore_accrualTotals {a : Accrual} (h : KeepsStore r s) : KeepsStore r (accrualTotals a s) := by
  unfold accrualTotals
  dsimp only
  split
  · exact keepsStore_issue (h.frame rfl rfl)
  split
  · exact keepsStore_requestTotals (h.frame rfl rfl)
  · exact keepsStore_failAccrual h

theorem keepsStore_endStage1 {a : Accrual} (h : KeepsStore r s) : KeepsStore r (endStage1 a s) := by
  unfold endStage1
  split
  · exact keepsStore_accrualTotals h
  · exact keepsStore_stopAccrual h

theorem keepsStore_beginAccrual {b : JBody} (h : KeepsStore r s) : KeepsStore r (beginAccrual b s) := by
  unfold beginAccrual
  dsimp only
  split
  · exact keepsStore_issue (h.frame rfl rfl)
  · exact keepsStore_accrualTotals h

theorem keepsStore_accrualRead {a : Accrual} {m : Nat} (h : KeepsStore r s) : KeepsStore r (accrualRead a m s) := by
  unfold accrualRead
  dsimp only
  split
  · exact keepsStore_failAccrual h
  split
  · exact keepsStore_endStage1 h
  split
  · exact keepsStore_issue (h.frame rfl rfl)
  · exact keepsStore_failAccrual h

/-! ### The close walk and the rebuild of a list (R95 to R102, R109) -/

theorem keepsStore_walkTo {w : Walk} {g m : Nat} (h : KeepsStore r s) : KeepsStore r (walkTo w g m s) :=
  keepsStore_issue (h.frame rfl rfl)

theorem keepsStore_endWalk {w : Walk} (h : KeepsStore r s) : KeepsStore r (endWalk w s) := by
  unfold endWalk
  split
  · exact keepsStore_failWalk h
  · exact keepsStore_requestTotals (h.frame rfl rfl)

theorem keepsStore_walkOn {w : Walk} (h : KeepsStore r s) : KeepsStore r (walkOn w s) := by
  unfold walkOn
  split
  · exact keepsStore_walkTo h
  split
  · exact keepsStore_failWalk h
  split
  · exact keepsStore_walkTo (h.frame rfl rfl)
  · exact keepsStore_endWalk (h.frame rfl rfl)

theorem keepsStore_walkMerchant {w : Walk} {m : Nat} {record : MerchantRec} (h : KeepsStore r s) :
    KeepsStore r (walkMerchant w m record s) := by
  unfold walkMerchant
  dsimp only
  split
  · split
    · exact keepsStore_walkOn (h.frame rfl rfl)
    · exact keepsStore_walkOn h
  split
  · exact keepsStore_walkOn h
  split
  · exact keepsStore_walkOn h
  split
  · exact keepsStore_issue h
  · exact keepsStore_failWalk h

theorem keepsStore_walkRead {w : Walk} {m : Nat} (h : KeepsStore r s) : KeepsStore r (walkRead w m s) := by
  unfold walkRead
  split
  · exact keepsStore_failWalk h
  split
  · exact keepsStore_stopWalk h
  · exact keepsStore_walkMerchant h

/-- After its write the walk goes on or stops, with CLOSED in the admission table and the result in the list (R98, R102). -/
theorem keepsStore_walkWritten {w : Walk} {m : Nat} {record : MerchantRec} (h : KeepsStore r s) :
    KeepsStore r (walkWritten w m record s) := by
  have hgoes {u : State} (hu : KeepsStore r u) :
      KeepsStore r (match u.jc.store with | .normal => walkOn w u | .fault => stopWalk u) := by
    split
    · exact keepsStore_walkOn hu
    · exact keepsStore_stopWalk hu
  refine hgoes ?_
  split
  all_goals
    split
    · exact h.frame rfl rfl
    · exact h.frame rfl rfl

theorem keepsStore_endRebuild {st : ListState} (h : KeepsStore r s) : KeepsStore r (endRebuild st s) :=
  keepsStore_issue (h.frame rfl rfl)

theorem keepsStore_failRebuild (h : KeepsStore r s) : KeepsStore r (failRebuild s) :=
  keepsStore_endRebuild (keepsStore_enterFault h)

theorem keepsStore_rebuildOn {g m : Nat} (h : KeepsStore r s) : KeepsStore r (rebuildOn g m s) := by
  unfold rebuildOn
  dsimp only
  split
  · exact keepsStore_issue (h.frame rfl rfl)
  split
  · exact keepsStore_failRebuild h
  split
  · exact keepsStore_issue (h.frame rfl rfl)
  split
  · exact keepsStore_failRebuild (h.frame rfl rfl)
  · exact keepsStore_endRebuild (h.frame rfl rfl)

theorem keepsStore_rebuildRead {g m : Nat} (h : KeepsStore r s) : KeepsStore r (rebuildRead g m s) := by
  unfold rebuildRead
  split
  · exact keepsStore_failRebuild h
  split
  · split
    · exact keepsStore_rebuildOn (h.frame rfl rfl)
    · exact keepsStore_rebuildOn h
  · exact keepsStore_rebuildOn h

/-! ### Totals writes, reads of the books, advice and commit marks (R90, R122, R123, R131, R134) -/

theorem keepsStore_loadEpoch {epoch : Nat} (h : KeepsStore r s) : KeepsStore r (loadEpoch epoch s) :=
  keepsStore_issue (h.frame rfl rfl)

theorem keepsStore_nextTotals (h : KeepsStore r s) : KeepsStore r (nextTotals s) := h.frame (by simp) (by simp)

theorem keepsStore_totalsWritten {job : TotalsJob} {copy : Totals} (h : KeepsStore r s) :
    KeepsStore r (totalsWritten job copy s) := by
  unfold totalsWritten
  split
  · exact keepsStore_loadEpoch h
  · split
    · exact keepsStore_issue h
    · exact keepsStore_stopAccrual h
  · split
    · exact keepsStore_issue h
    · exact keepsStore_stopWalk h
  · exact keepsStore_sendLink (h.frame rfl rfl)
  · exact keepsStore_answerAdvice (h.frame rfl rfl)

theorem keepsStore_totalsFailed {job : TotalsJob} {copy : Totals} {earlier : Nat} (h : KeepsStore r s) :
    KeepsStore r (totalsFailed job copy earlier s) := by
  unfold totalsFailed
  split
  · exact keepsStore_loadEpoch (keepsStore_enterFault h)
  · exact keepsStore_failAccrual h
  · exact keepsStore_failWalk h
  · exact keepsStore_sendLink ((keepsStore_enterFault h).frame rfl rfl)
  · exact keepsStore_answerAdvice ((keepsStore_enterFault h).frame rfl rfl)

theorem keepsStore_totalsRead {tag : Nat} (h : KeepsStore r s) : KeepsStore r (totalsRead tag s) := by
  unfold totalsRead
  dsimp only
  split
  · exact keepsStore_sendLink h
  · exact keepsStore_sendLink (keepsStore_enterFault h)

theorem keepsStore_statusRead {tag m : Nat} (h : KeepsStore r s) : KeepsStore r (statusRead tag m s) := by
  unfold statusRead
  split
  · exact keepsStore_sendLink h
  · exact keepsStore_sendLink (keepsStore_enterFault h)

theorem keepsStore_takeAdvice {tag count : Nat} (h : KeepsStore r s) : KeepsStore r (takeAdvice tag count s) := by
  unfold takeAdvice
  split
  · exact h.frame (by simp) (by simp)
  · exact h.frame rfl rfl

theorem keepsStore_endAdviceReads {job : AdviceJob} (h : KeepsStore r s) : KeepsStore r (endAdviceReads job s) := by
  unfold endAdviceReads
  split
  · exact keepsStore_answerAdvice h
  · exact keepsStore_requestTotals (h.frame rfl rfl)

theorem keepsStore_adviceSlot {job : AdviceJob} {bs : List Byte} (h : KeepsStore r s) : KeepsStore r (adviceSlot job bs s) := by
  unfold adviceSlot
  dsimp only
  split
  · exact keepsStore_endAdviceReads h
  split
  · exact keepsStore_issue (h.frame rfl rfl)
  · exact keepsStore_endAdviceReads h

theorem keepsStore_adviceRead {job : AdviceJob} {j : Nat} (h : KeepsStore r s) : KeepsStore r (adviceRead job j s) := by
  unfold adviceRead
  dsimp only
  split
  · exact keepsStore_answerAdvice (keepsStore_enterFault h)
  split
  · exact keepsStore_answerAdvice h
  · exact keepsStore_adviceSlot h

theorem keepsStore_recoverOn (h : KeepsStore r s) : KeepsStore r (recoverOn s) := by
  unfold recoverOn
  split
  · exact keepsStore_recoverNext (h.frame rfl rfl)
  · exact h

theorem keepsStore_committed {j : Nat} (h : KeepsStore r s) : KeepsStore r (committed j s) := by
  unfold committed
  refine keepsStore_recoverOn ?_
  split
  · split
    · exact h.frame rfl rfl
    · exact h.frame rfl rfl
  · exact h.frame rfl rfl

theorem keepsStore_commitFailed {j : Nat} (h : KeepsStore r s) : KeepsStore r (commitFailed j s) :=
  (keepsStore_enterFault h).record commitFailed_record

/-! ### The payout list and the audit sweep (R104 to R106, R135 to R141) -/

theorem keepsStore_readPayoutEntry {tag : Nat} (h : KeepsStore r s) : KeepsStore r (readPayoutEntry tag s) := by
  unfold readPayoutEntry
  dsimp only
  split
  · exact keepsStore_sendLink h
  all_goals
    split
    · exact keepsStore_sendLink (h.frame rfl rfl)
    · exact keepsStore_sendLink h

theorem keepsStore_releaseList {tag : Nat} (h : KeepsStore r s) : KeepsStore r (releaseList tag s) := by
  unfold releaseList
  split
  · exact keepsStore_sendLink h
  split
  · exact keepsStore_sendLink h
  · exact keepsStore_requestTotals (h.frame rfl rfl)

theorem keepsStore_issueSweepRead (h : KeepsStore r s) : KeepsStore r (issueSweepRead s) := keepsStore_issue (h.frame rfl rfl)

theorem keepsStore_startSweep {tag : Nat} (h : KeepsStore r s) : KeepsStore r (startSweep tag s) := by
  unfold startSweep
  dsimp only
  split
  · exact keepsStore_sendLink h
  split
  · exact keepsStore_sendLink h
  refine keepsStore_sendLink ?_
  split
  · exact h.frame rfl rfl
  · exact keepsStore_issueSweepRead (h.frame rfl rfl)

theorem keepsStore_stopSweep {tag : Nat} (h : KeepsStore r s) : KeepsStore r (stopSweep tag s) := by
  unfold stopSweep
  split
  · exact keepsStore_sendLink (h.frame (by simp) (by simp))
  · exact keepsStore_sendLink h

theorem keepsStore_sweepAdd {slot : Nat} (h : KeepsStore r s) : KeepsStore r (sweepAdd slot s) := by
  unfold sweepAdd
  split
  · exact h.frame rfl rfl
  · exact h.frame rfl rfl

theorem keepsStore_endSweep (h : KeepsStore r s) : KeepsStore r (endSweep s) := h.frame rfl rfl

theorem keepsStore_sweepOn {slot : Nat} (h : KeepsStore r s) : KeepsStore r (sweepOn slot s) := by
  have hcursor : KeepsStore r { s with asu := { s.asu with outstanding := false, cursor := s.asu.cursor + 1 } } :=
    h.frame rfl rfl
  have hadd := keepsStore_sweepAdd (slot := slot) hcursor
  unfold sweepOn
  dsimp only
  split
  · exact keepsStore_endSweep hadd
  · exact keepsStore_issueSweepRead hadd

theorem keepsStore_sweepRead {slot : Nat} (h : KeepsStore r s) : KeepsStore r (sweepRead slot s) := by
  unfold sweepRead
  split
  · unfold dropStale
    dsimp only
    split
    · exact keepsStore_issueSweepRead (h.frame rfl rfl)
    · exact h.frame rfl rfl
  split
  · exact keepsStore_sweepOn h
  · exact h.frame rfl rfl

/-! ### Start-up (R127 to R130) -/

theorem keepsStore_startupTotals (h : KeepsStore r s) : KeepsStore r (startupTotals s) := by
  unfold startupTotals
  dsimp only
  split
  · exact h.frame rfl rfl
  split
  · exact (keepsStore_enterFault h).frame rfl rfl
  · exact keepsStore_requestTotals (h.frame rfl rfl)

theorem keepsStore_loadItem (i : ConfigItem) (h : KeepsStore r s) : KeepsStore r (loadItem i s) := by
  cases i <;> exact h.frame rfl rfl

theorem keepsStore_loadConfig {k : Nat} (h : KeepsStore r s) : KeepsStore r (loadConfig k s) := by
  unfold loadConfig
  split
  · exact keepsStore_loadItem _ h
  · exact h.frame rfl rfl

theorem keepsStore_startupConfig {k : Nat} (h : KeepsStore r s) : KeepsStore r (startupConfig k s) := by
  have hload := keepsStore_loadConfig (k := k) h
  unfold startupConfig
  dsimp only
  split
  · exact keepsStore_issue (hload.frame rfl rfl)
  · exact keepsStore_issue (hload.frame rfl rfl)

theorem keepsStore_endScan {n : Nat} {found : List JBody} (h : KeepsStore r s) : KeepsStore r (endScan n found s) := by
  unfold endScan
  split
  · exact keepsStore_finishRecovery ((keepsStore_enterFault h).frame rfl rfl)
  dsimp only
  split
  · exact keepsStore_recoverNext (h.frame rfl rfl)
  · exact keepsStore_finishRecovery (h.frame rfl rfl)

theorem keepsStore_scanSlot {n : Nat} {found : List JBody} (h : KeepsStore r s) : KeepsStore r (scanSlot n found s) := by
  unfold scanSlot
  dsimp only
  split
  · exact keepsStore_issue (h.frame rfl rfl)
  · exact keepsStore_endScan h

theorem keepsStore_cardStepDone (h : KeepsStore r s) : KeepsStore r (cardStepDone s) := by
  unfold cardStepDone
  split
  · exact h.frame rfl rfl
  · exact h

theorem keepsStore_recoverCard {b : JBody} (h : KeepsStore r s) : KeepsStore r (recoverCard b s) := by
  unfold recoverCard
  dsimp only
  split
  · exact keepsStore_cardStepDone h
  · exact keepsStore_issue h

theorem keepsStore_loadAdmission {m : Nat} (h : KeepsStore r s) : KeepsStore r (loadAdmission m s) := by
  unfold loadAdmission
  split
  · exact h.frame rfl rfl
  · exact (keepsStore_enterFault h).frame rfl rfl

theorem keepsStore_admissionOn {m : Nat} (h : KeepsStore r s) : KeepsStore r (admissionOn m s) := by
  have hload := keepsStore_loadAdmission (m := m) h
  unfold admissionOn
  generalize loadAdmission m s = u at hload
  dsimp only
  split
  · exact keepsStore_issue (hload.frame rfl rfl)
  · exact hload.frame rfl rfl

/-! ### The requests of R170 -/

theorem keepsStore_takeCfg {kind tag : Nat} {what : ConfigWhat} (h : KeepsStore r s) : KeepsStore r (takeCfg kind tag what s) := by
  unfold takeCfg
  dsimp only
  split
  · exact h.record (faultRecord_runCfg _ s)
  · exact h.frame rfl rfl

theorem keepsStore_itemWritten (i : ConfigItem) (h : KeepsStore r s) : KeepsStore r (itemWritten i s) :=
  keepsStore_answerCfg (keepsStore_loadItem i (keepsStore_storeOp _ h))

theorem keepsStore_setMerchantRead {tag m cls group : Nat} (h : KeepsStore r s) :
    KeepsStore r (setMerchantRead tag m cls group s) := by
  unfold setMerchantRead
  split
  · exact keepsStore_answerCfg (keepsStore_enterFault h)
  · exact keepsStore_answerCfg h
  · exact keepsStore_issue h

theorem keepsStore_setMerchantWritten {tag m : Nat} {before : MerchantState} {record : MerchantRec} (h : KeepsStore r s) :
    KeepsStore r (setMerchantWritten tag m before record s) :=
  keepsStore_answerCfg ((keepsStore_storeOp (.setMerchantWrite tag m before record) h).frame (by simp) (by simp))

theorem keepsStore_formatWritten {job : FormatJob} (h : KeepsStore r s) : KeepsStore r (formatWritten job s) := by
  unfold formatWritten
  dsimp only
  split
  · exact keepsStore_issue (h.frame rfl rfl)
  split
  · exact keepsStore_issue (h.frame rfl rfl)
  split
  · exact keepsStore_answerCfg (h.frame rfl rfl)
  · exact h.frame rfl rfl

theorem keepsStore_formatFailed {job : FormatJob} (h : KeepsStore r s) : KeepsStore r (formatFailed job s) :=
  keepsStore_answerCfg ((keepsStore_enterFault h).frame rfl rfl)

/-! ### Decisions, holds, and the completions of appends and card writes (R11, R31, R37, R47, R48, R117, R118) -/

theorem keepsStore_carryOut {k : Nat} {req : CardReq} {card : CardRec} {v : Verdict} (h : KeepsStore r s) :
    KeepsStore r (carryOut k req card v s) := by
  cases v with
  | answer reply => exact keepsStore_answerOwner h
  | enter p => exact h.frame (setDoing_mem ..) (by rw [carryOut, setDoing_jc])
  | claim => exact h.frame (setDoing_mem ..) (by rw [carryOut, setDoing_jc])
  | move m => exact keepsStore_joinAppend (h.frame (setDoing_mem ..) (by rw [setDoing_jc]))

theorem keepsStore_releaseHold {k : Nat} {req : CardReq} {card : CardRec} (h : KeepsStore r s) :
    KeepsStore r (releaseHold k req card s) := by
  unfold releaseHold
  split
  · split
    · exact keepsStore_answerOwner (h.frame rfl rfl)
    · exact keepsStore_answerOwner h
  · exact keepsStore_answerOwner h

theorem keepsStore_decideCard {k : Nat} {req : CardReq} {card : CardRec} (h : KeepsStore r s) :
    KeepsStore r (decideCard k req card s) := by
  cases hk : req.kind with
  | release => rw [decideCard_release hk]; exact keepsStore_releaseHold h
  | balance => rw [decideCard_balance hk]; exact keepsStore_answerOwner h
  | activate | load | hold | capture | redeem | void | refund | cashOut | block | unblock =>
    simp only [decideCard, hk]; exact keepsStore_carryOut h

/-- A card that reads badly raises STORE-FAULT and leaves the store state (R11). -/
theorem keepsStore_cardRead {k slot : Nat} (h : KeepsStore r s) : KeepsStore r (cardRead k slot s) := by
  unfold cardRead
  split
  · exact h
  split
  · exact keepsStore_answerOwner (h.frame rfl rfl)
  split
  · exact keepsStore_answerOwner h
  · exact keepsStore_decideCard h

theorem keepsStore_expireHold {epoch serial : Nat} (h : KeepsStore r s) : KeepsStore r (expireHold epoch serial s) := by
  unfold expireHold
  split
  · split
    · exact h.frame rfl rfl
    · exact h
  · exact h

theorem keepsStore_holdArrives {k : Nat} (h : KeepsStore r s) : KeepsStore r (holdArrives k s) := by
  unfold holdArrives
  split
  · split
    · unfold enterHold
      split
      · exact keepsStore_answerOwner h
      · exact keepsStore_answerOwner (h.frame rfl rfl)
    · exact h
  · exact h

theorem keepsStore_claimHold {k : Nat} {req : CardReq} {card : CardRec} (h : KeepsStore r s) :
    KeepsStore r (claimHold k req card s) := by
  unfold claimHold
  dsimp only
  split
  · split
    · exact keepsStore_carryOut h
    split
    · exact keepsStore_answerOwner h
    split
    · exact keepsStore_answerOwner h
    · exact keepsStore_carryOut (h.frame rfl rfl)
  · exact keepsStore_carryOut h

theorem keepsStore_claimArrives {k : Nat} (h : KeepsStore r s) : KeepsStore r (claimArrives k s) := by
  unfold claimArrives
  split
  · split
    · exact keepsStore_claimHold h
    · exact h
  · exact h

theorem keepsStore_cardWritten {k j p : Nat} {m : Movement} (h : KeepsStore r s) : KeepsStore r (cardWritten k m j p s) := by
  have hdone (u : State) (hu : KeepsStore r u) : KeepsStore r (finishMovement k m j p u) :=
    hu.frame (by simp [finishMovement]) (by simp [finishMovement])
  exact hdone _ (keepsStore_storeOp _ h)

theorem keepsStore_cardWriteFailed {k j p : Nat} {m : Movement} {left : Residue} (h : KeepsStore r s) :
    KeepsStore r (cardWriteFailed k m j p left s) :=
  (keepsStore_enterFault (keepsStore_leaveOp _ left h)).record (cardWriteFailed_record k m j p)

theorem keepsStore_countAppend {rest : List AppendItem} (h : KeepsStore r s) : KeepsStore r (countAppend rest s) := by
  unfold countAppend noteUntaken
  split
  · exact h.frame rfl rfl
  split
  · exact h.frame rfl rfl
  · exact h.frame rfl rfl

theorem keepsStore_afterAppend {item : AppendItem} {b : JBody} (h : KeepsStore r s) : KeepsStore r (afterAppend item b s) := by
  cases item with
  | movement k m => exact keepsStore_issue h
  | admin tag k m => exact h.frame rfl rfl
  | cutoff tag => exact h.frame rfl rfl

theorem keepsStore_appendWritten {b : JBody} (h : KeepsStore r s) : KeepsStore r (appendWritten b s) := by
  have hstored := keepsStore_storeOp (.appendWrite b) h
  unfold appendWritten
  generalize storeOp (.appendWrite b) s = u at hstored
  dsimp only
  split
  · exact hstored
  split
  · exact keepsStore_afterAppend (keepsStore_countAppend hstored)
  · exact hstored.frame (by simp [refuseAppended]) (by simp [refuseAppended])

theorem keepsStore_appendFailed {b : JBody} {left : Residue} (h : KeepsStore r s) : KeepsStore r (appendFailed b left s) :=
  (keepsStore_enterFault (keepsStore_leaveOp _ left h)).record (appendFailed_record b)

/-! ### The till lines (R146 to R154) -/

theorem keepsStore_closeOffer {n e : Nat} {outcome : State → State}
    (houtcome : ∀ {u}, KeepsStore r u → KeepsStore r (outcome u)) (h : KeepsStore r s) :
    KeepsStore r (closeOffer n e outcome s) := by
  unfold closeOffer
  dsimp only
  split
  · exact h.frame rfl rfl
  · exact (houtcome h).frame rfl rfl

theorem keepsStore_applyGood {n e : Nat} (h : KeepsStore r s) : KeepsStore r (applyGood n e s) := by
  unfold applyGood
  dsimp only
  split
  · exact h.frame rfl rfl
  · exact h.frame rfl rfl

theorem keepsStore_stationAsks {n e : Nat} {kind : Byte} {body : List Byte} (h : KeepsStore r s) :
    KeepsStore r (stationAsks n e kind body s) := by
  unfold stationAsks
  dsimp only
  split
  · exact h.frame rfl rfl
  split
  · exact keepsStore_takeCardRequest (h.frame rfl rfl)
  · exact h.frame (by simp) (by simp)

theorem keepsStore_applyAnswer {n e : Nat} {a : Answer} (h : KeepsStore r s) : KeepsStore r (applyAnswer n e a s) := by
  cases a with
  | pass => exact keepsStore_applyGood h
  | request kind body => exact keepsStore_stationAsks (keepsStore_applyGood h)

theorem keepsStore_goodAnswer {n : Nat} {frame : List Byte} (h : KeepsStore r s) : KeepsStore r (goodAnswer n frame s) := by
  unfold goodAnswer
  split
  · split
    · exact keepsStore_closeOffer keepsStore_applyAnswer h
    · exact h
  · exact h

theorem keepsStore_applyMiss {n e : Nat} (h : KeepsStore r s) : KeepsStore r (applyMiss n e s) := by
  unfold applyMiss
  dsimp only
  split
  · exact h.frame rfl rfl
  · exact h.frame rfl rfl

theorem keepsStore_dropHeld {n e : Nat} (h : KeepsStore r s) : KeepsStore r (dropHeld n e s) := by
  unfold dropHeld
  split
  · exact h.frame rfl rfl
  · exact h

theorem keepsStore_applyBad {n e : Nat} (h : KeepsStore r s) : KeepsStore r (applyBad n e s) := by
  unfold applyBad
  dsimp only
  split
  · exact keepsStore_dropHeld (h.frame rfl rfl)
  · exact h.frame rfl rfl

theorem keepsStore_badAnswer {n : Nat} {frame : List Byte} (h : KeepsStore r s) : KeepsStore r (badAnswer n frame s) := by
  unfold badAnswer
  split
  · split
    · exact keepsStore_closeOffer keepsStore_applyBad h
    · exact h
  · exact h

theorem keepsStore_enableStation {tag : Nat} {p : Nat × Nat} (h : KeepsStore r s) : KeepsStore r (enableStation tag p s) := by
  unfold enableStation
  dsimp only
  split
  · split
    · exact keepsStore_sendLink h
    split
    · exact keepsStore_sendLink h
    · exact keepsStore_sendLink (h.frame rfl rfl)
  · exact keepsStore_sendLink h

theorem keepsStore_disableStation {tag : Nat} {p : Nat × Nat} (h : KeepsStore r s) : KeepsStore r (disableStation tag p s) := by
  have hdrop {u : State} (hu : KeepsStore r u) : KeepsStore r (dropOffer p.1 p.2 u) := by
    unfold dropOffer
    split
    · exact hu.frame rfl rfl
    · exact hu
  exact keepsStore_sendLink (hdrop (keepsStore_dropHeld (h.frame rfl rfl)))

end Store

end Sys2Proof.Machine
end

section
/-! Settlement memory and the store state over every command (O4, O9): each keeps both, or resets the part. -/

namespace Sys2Proof.Machine
open Sys2Proof Sys2Proof.Safety

/-- What a command does to settlement memory and the store: it keeps both, or it resets the part (R110, R125, R168). -/
def StoreOutcome (s : State) (_ : Bool) (t : State) : Prop :=
  KeepsStore s t ∨ ∃ cause straps left, t = resetPart cause straps left s

section Commands
variable {r s t : State}

theorem storeOutcome_next (h : KeepsStore s t) : NextKeeps (StoreOutcome s) (.next t) := nextKeeps_next (.inl h)

theorem storeOutcome_idle (s : State) : NextKeeps (StoreOutcome s) (.next s) := storeOutcome_next (.refl s)

theorem storeOutcome_complete {work : State → State} (h : KeepsStore s (work s)) :
    NextKeeps (StoreOutcome s) (.next (complete work s)) := storeOutcome_next (keepsStore_portNext h)

theorem storeOutcome_reset (cause : ResetCause) (straps : BitVec 2) (left : Residue) (s : State) :
    StoreOutcome s true (resetPart cause straps left s) := .inr ⟨cause, straps, left, rfl⟩

/-! ### The frames of the link (R157 to R161) -/

theorem keepsStore_sendUntagged {kind tag : Nat} {reply : Reply} (h : KeepsStore r s) :
    KeepsStore r (sendUntagged kind tag reply s) := h.frame (by simp) (by simp)

/-- A request frame keeps the store when its block does (R157 to R160). -/
theorem storeOutcome_hostRequest {α : Type} {kind : Nat} {c : ReqClass} {tag : Byte} {body : List Byte}
    {fields : List Byte → Option α} {act : Nat → α → State → State} (s : State)
    (hact : ∀ f u, KeepsStore s u → KeepsStore s (act tag.toNat f u)) :
    NextKeeps (StoreOutcome s) (.next (hostRequest kind c tag body fields act s)) := by
  have hunt : KeepsStore s { s with hlp := { s.hlp with inbound := [] } } := (KeepsStore.refl s).frame rfl rfl
  have htaken (tags : List Nat) : KeepsStore s { s with hlp := { s.hlp with inbound := [], inFlight := tags } } :=
    (KeepsStore.refl s).frame rfl rfl
  refine storeOutcome_next ?_
  unfold hostRequest
  dsimp only
  split
  · exact .refl s
  split
  · exact keepsStore_sendUntagged hunt
  split
  · exact keepsStore_sendUntagged hunt
  split
  · exact keepsStore_sendUntagged hunt
  split
  · exact keepsStore_sendLink (htaken _)
  split
  · exact keepsStore_sendLink (htaken _)
  · exact hact _ _ (htaken _)

theorem storeOutcome_hostCard (k : CardKind) (tag : Byte) (body : List Byte) (s : State) :
    NextKeeps (StoreOutcome s) (.next (hostCard k tag body s)) :=
  storeOutcome_hostRequest s fun _ _ => keepsStore_takeCardRequest

theorem storeOutcome_hostAdmin (k : AdminKind) (tag : Byte) (body : List Byte) (s : State) :
    NextKeeps (StoreOutcome s) (.next (hostAdmin k tag body s)) :=
  storeOutcome_hostRequest s fun _ _ => keepsStore_joinAppend

theorem storeOutcome_hostItem (kind : Nat) (fields : List Byte → Option ConfigItem) (tag : Byte) (body : List Byte) (s : State) :
    NextKeeps (StoreOutcome s) (.next (hostItem kind fields tag body s)) :=
  storeOutcome_hostRequest s fun _ _ => keepsStore_takeCfg

theorem keepsStore_rejectFrame (reason : Nat) (s : State) : KeepsStore s (rejectFrame reason s) :=
  keepsStore_sendUntagged ((KeepsStore.refl s).frame rfl rfl)

theorem keepsStore_takeRejected (bytes : List Byte) (s : State) : KeepsStore s (takeRejected bytes s) := by
  unfold takeRejected
  split
  · exact .refl s
  split
  · exact keepsStore_rejectFrame _ s
  · exact .refl s

theorem keepsStore_takeGap (bytes : List Byte) (s : State) : KeepsStore s (takeGap bytes s) := by
  unfold takeGap
  split
  · exact .refl s
  split
  · exact keepsStore_rejectFrame _ s
  · exact .refl s

/-- A sent reply frame moves the link's tables on, or resets the part (R161, R167, R172). -/
theorem storeOutcome_frameSent (left : Residue) (s : State) : NextKeeps (StoreOutcome s) (.next (frameSent left s)) := by
  unfold frameSent
  split
  · exact storeOutcome_idle s
  split
  · exact nextKeeps_next (storeOutcome_reset ..)
  · exact storeOutcome_next ((KeepsStore.refl s).frame rfl rfl)

/-! ### The accesses of cards and of the journal -/

theorem storeOutcome_execCardReadDone (s : State) : NextKeeps (StoreOutcome s) (execCardReadDone s) := by
  unfold execCardReadDone
  split
  · split
    · exact storeOutcome_complete (keepsStore_cardRead (.refl s))
    · exact nextKeeps_fault _
  · exact storeOutcome_idle s

theorem storeOutcome_execCardWriteDone (s : State) : NextKeeps (StoreOutcome s) (execCardWriteDone s) := by
  unfold execCardWriteDone
  split
  · exact storeOutcome_complete (keepsStore_cardWritten (.refl s))
  · exact storeOutcome_idle s

theorem storeOutcome_execCardWriteFails (left : Residue) (s : State) : NextKeeps (StoreOutcome s) (execCardWriteFails left s) := by
  unfold execCardWriteFails
  split
  · exact storeOutcome_complete (keepsStore_cardWriteFailed (.refl s))
  · exact storeOutcome_idle s

theorem storeOutcome_execAppendWriteDone (s : State) : NextKeeps (StoreOutcome s) (execAppendWriteDone s) := by
  unfold execAppendWriteDone
  split
  · exact storeOutcome_complete (keepsStore_appendWritten (.refl s))
  · exact storeOutcome_idle s

theorem storeOutcome_execAppendWriteFails (left : Residue) (s : State) :
    NextKeeps (StoreOutcome s) (execAppendWriteFails left s) := by
  unfold execAppendWriteFails
  split
  · exact storeOutcome_complete (keepsStore_appendFailed (.refl s))
  · exact storeOutcome_idle s

theorem storeOutcome_execAdviceReadDone (s : State) : NextKeeps (StoreOutcome s) (execAdviceReadDone s) := by
  unfold execAdviceReadDone
  split
  · refine storeOutcome_complete ?_
    unfold adviceArrives
    split
    · exact keepsStore_adviceRead (.refl s)
    · exact .refl s
  · exact storeOutcome_idle s

theorem storeOutcome_execCommitMarkDone (s : State) : NextKeeps (StoreOutcome s) (execCommitMarkDone s) := by
  unfold execCommitMarkDone
  split
  · exact storeOutcome_complete (keepsStore_committed (keepsStore_storeOp _ (.refl s)))
  · exact storeOutcome_idle s

theorem storeOutcome_execCommitMarkFails (left : Residue) (s : State) :
    NextKeeps (StoreOutcome s) (execCommitMarkFails left s) := by
  unfold execCommitMarkFails
  split
  · exact storeOutcome_complete (keepsStore_commitFailed (keepsStore_leaveOp _ left (.refl s)))
  · exact storeOutcome_idle s

/-! ### The accesses of accruals, the walk, the rebuild and the totals -/

theorem storeOutcome_execAccrualStart (s : State) : NextKeeps (StoreOutcome s) (execAccrualStart s) := by
  unfold execAccrualStart
  split
  · exact storeOutcome_next (keepsStore_beginAccrual ((KeepsStore.refl s).frame rfl rfl))
  · exact storeOutcome_idle s

theorem storeOutcome_execAccrualMerchantReadDone (s : State) : NextKeeps (StoreOutcome s) (execAccrualMerchantReadDone s) := by
  unfold execAccrualMerchantReadDone
  split
  · refine storeOutcome_complete ?_
    unfold accrualReadArrives
    split
    · exact keepsStore_accrualRead (.refl s)
    · exact .refl s
  · exact storeOutcome_idle s

theorem storeOutcome_execAccrualMerchantWriteDone (failed : Option Residue) (s : State) :
    NextKeeps (StoreOutcome s) (execAccrualMerchantWriteDone failed s) := by
  unfold execAccrualMerchantWriteDone
  split
  · next m record _ =>
    split
    · refine storeOutcome_complete ?_
      have hstored := keepsStore_storeOp (.accrualWrite m record) (.refl s)
      unfold accrualWritten
      split
      · exact keepsStore_endStage1 hstored
      · exact hstored
    · next left =>
      refine storeOutcome_complete ?_
      have hleft := keepsStore_leaveOp (.accrualWrite m record) left (.refl s)
      unfold accrualWriteFailed
      split
      · exact keepsStore_failAccrual hleft
      · exact hleft
  · exact storeOutcome_idle s

theorem storeOutcome_execCloseWalkStart (s : State) : NextKeeps (StoreOutcome s) (execCloseWalkStart s) := by
  unfold execCloseWalkStart
  split
  · exact storeOutcome_next (keepsStore_walkTo ((KeepsStore.refl s).frame rfl rfl))
  · exact storeOutcome_idle s

theorem storeOutcome_execWalkMerchantReadDone (s : State) : NextKeeps (StoreOutcome s) (execWalkMerchantReadDone s) := by
  unfold execWalkMerchantReadDone
  split
  · refine storeOutcome_complete ?_
    unfold walkReadArrives
    split
    · exact keepsStore_walkRead (.refl s)
    · exact .refl s
  · exact storeOutcome_idle s

theorem storeOutcome_execWalkMerchantWriteDone (s : State) : NextKeeps (StoreOutcome s) (execWalkMerchantWriteDone s) := by
  unfold execWalkMerchantWriteDone
  split
  · next m record _ =>
    refine storeOutcome_complete ?_
    have hstored := keepsStore_storeOp (.walkWrite m record) (.refl s)
    unfold walkWriteArrives
    split
    · exact keepsStore_walkWritten hstored
    · exact hstored
  · exact storeOutcome_idle s

theorem storeOutcome_execWalkMerchantWriteFails (left : Residue) (s : State) :
    NextKeeps (StoreOutcome s) (execWalkMerchantWriteFails left s) := by
  unfold execWalkMerchantWriteFails
  split
  · next m record _ =>
    refine storeOutcome_complete ?_
    have hleft := keepsStore_leaveOp (.walkWrite m record) left (.refl s)
    unfold walkWriteFailed
    split
    · exact keepsStore_failWalk hleft
    · exact hleft
  · exact storeOutcome_idle s

theorem storeOutcome_execRebuildReadDone (s : State) : NextKeeps (StoreOutcome s) (execRebuildReadDone s) := by
  unfold execRebuildReadDone
  split
  · refine storeOutcome_complete ?_
    unfold rebuildArrives
    split
    · exact keepsStore_rebuildRead (.refl s)
    · exact .refl s
  · exact storeOutcome_idle s

theorem storeOutcome_execTotalsWriteDone (s : State) : NextKeeps (StoreOutcome s) (execTotalsWriteDone s) := by
  unfold execTotalsWriteDone
  split
  · exact storeOutcome_complete (keepsStore_nextTotals (keepsStore_totalsWritten (keepsStore_storeOp _ (.refl s))))
  · exact storeOutcome_idle s

theorem storeOutcome_execTotalsWriteFails (left : Residue) (s : State) :
    NextKeeps (StoreOutcome s) (execTotalsWriteFails left s) := by
  unfold execTotalsWriteFails
  split
  · exact storeOutcome_complete (keepsStore_nextTotals (keepsStore_totalsFailed (keepsStore_leaveOp _ left (.refl s))))
  · exact storeOutcome_idle s

theorem storeOutcome_execReadTotalsReadDone (s : State) : NextKeeps (StoreOutcome s) (execReadTotalsReadDone s) := by
  unfold execReadTotalsReadDone
  split
  · exact storeOutcome_complete (keepsStore_totalsRead (.refl s))
  · exact storeOutcome_idle s

theorem storeOutcome_execMerchantStatusReadDone (s : State) : NextKeeps (StoreOutcome s) (execMerchantStatusReadDone s) := by
  unfold execMerchantStatusReadDone
  split
  · exact storeOutcome_complete (keepsStore_statusRead (.refl s))
  · exact storeOutcome_idle s

theorem storeOutcome_execSweepReadDone (s : State) : NextKeeps (StoreOutcome s) (execSweepReadDone s) := by
  unfold execSweepReadDone
  split
  · split
    · exact storeOutcome_complete (keepsStore_sweepRead (.refl s))
    · exact nextKeeps_fault _
  · exact storeOutcome_idle s

/-! ### The accesses of setup -/

theorem storeOutcome_execProgrammeWriteDone (s : State) : NextKeeps (StoreOutcome s) (execProgrammeWriteDone s) := by
  unfold execProgrammeWriteDone
  split
  · exact storeOutcome_complete (keepsStore_itemWritten _ (.refl s))
  · exact storeOutcome_idle s

theorem storeOutcome_execTariffWriteDone (s : State) : NextKeeps (StoreOutcome s) (execTariffWriteDone s) := by
  unfold execTariffWriteDone
  split
  · exact storeOutcome_complete (keepsStore_itemWritten _ (.refl s))
  · exact storeOutcome_idle s

theorem storeOutcome_execLineConfigWriteDone (s : State) : NextKeeps (StoreOutcome s) (execLineConfigWriteDone s) := by
  unfold execLineConfigWriteDone
  split
  · exact storeOutcome_complete (keepsStore_itemWritten _ (.refl s))
  · exact storeOutcome_complete (keepsStore_itemWritten _ (.refl s))
  · exact storeOutcome_idle s

theorem storeOutcome_execSetMerchantReadDone (s : State) : NextKeeps (StoreOutcome s) (execSetMerchantReadDone s) := by
  unfold execSetMerchantReadDone
  split
  · exact storeOutcome_complete (keepsStore_setMerchantRead (.refl s))
  · exact storeOutcome_idle s

theorem storeOutcome_execSetMerchantWriteDone (s : State) : NextKeeps (StoreOutcome s) (execSetMerchantWriteDone s) := by
  unfold execSetMerchantWriteDone
  split
  · exact storeOutcome_complete (keepsStore_setMerchantWritten (.refl s))
  · exact storeOutcome_idle s

theorem storeOutcome_execConfigWriteFails (left : Residue) (s : State) :
    NextKeeps (StoreOutcome s) (execConfigWriteFails left s) := by
  unfold execConfigWriteFails
  split
  · exact storeOutcome_complete (keepsStore_answerCfg (keepsStore_enterFault (keepsStore_leaveOp _ left (.refl s))))
  · exact storeOutcome_complete (keepsStore_answerCfg (keepsStore_enterFault (keepsStore_leaveOp _ left (.refl s))))
  · exact storeOutcome_idle s

theorem storeOutcome_execFormatWriteDone (s : State) : NextKeeps (StoreOutcome s) (execFormatWriteDone s) := by
  unfold execFormatWriteDone
  split
  · next stage i a bs _ =>
    refine storeOutcome_complete ?_
    have hstored := keepsStore_storeOp (.formatWrite stage i a bs) (.refl s)
    unfold formatArrives
    split
    · exact keepsStore_formatWritten hstored
    · exact hstored
  · exact storeOutcome_idle s

theorem storeOutcome_execFormatWriteFails (left : Residue) (s : State) :
    NextKeeps (StoreOutcome s) (execFormatWriteFails left s) := by
  unfold execFormatWriteFails
  split
  · next stage i a bs _ =>
    refine storeOutcome_complete ?_
    have hleft := keepsStore_leaveOp (.formatWrite stage i a bs) left (.refl s)
    unfold formatStops
    split
    · exact keepsStore_formatFailed hleft
    · exact hleft
  · exact storeOutcome_idle s

/-! ### The accesses of start-up (R127 to R130) -/

theorem storeOutcome_execStartupTotalsReadDone (s : State) : NextKeeps (StoreOutcome s) (execStartupTotalsReadDone s) := by
  unfold execStartupTotalsReadDone
  split
  · exact storeOutcome_complete (keepsStore_startupTotals (.refl s))
  · exact storeOutcome_idle s

theorem storeOutcome_execStartupConfigReadDone (s : State) : NextKeeps (StoreOutcome s) (execStartupConfigReadDone s) := by
  unfold execStartupConfigReadDone
  split
  · exact storeOutcome_complete (keepsStore_startupConfig (.refl s))
  · exact storeOutcome_idle s

theorem storeOutcome_execJournalScanReadDone (s : State) : NextKeeps (StoreOutcome s) (execJournalScanReadDone s) := by
  unfold execJournalScanReadDone
  split
  · refine storeOutcome_complete ?_
    unfold scanArrives
    split
    · exact keepsStore_scanSlot (.refl s)
    · exact .refl s
  · exact storeOutcome_idle s

theorem storeOutcome_execRecoveryCardReadDone (s : State) : NextKeeps (StoreOutcome s) (execRecoveryCardReadDone s) := by
  unfold execRecoveryCardReadDone
  split
  · split
    · exact storeOutcome_complete (keepsStore_recoverCard (.refl s))
    · exact nextKeeps_fault _
  · exact storeOutcome_idle s

theorem storeOutcome_execRecoveryCardWriteDone (failed : Option Residue) (s : State) :
    NextKeeps (StoreOutcome s) (execRecoveryCardWriteDone failed s) := by
  unfold execRecoveryCardWriteDone
  split
  · split
    · exact storeOutcome_complete (keepsStore_cardStepDone (keepsStore_storeOp _ (.refl s)))
    · exact storeOutcome_complete (keepsStore_finishRecovery (keepsStore_enterFault (keepsStore_leaveOp _ _ (.refl s))))
  · exact storeOutcome_idle s

theorem storeOutcome_execAdmissionLoadReadDone (s : State) : NextKeeps (StoreOutcome s) (execAdmissionLoadReadDone s) := by
  unfold execAdmissionLoadReadDone
  split
  · exact storeOutcome_complete (keepsStore_admissionOn (.refl s))
  · exact storeOutcome_idle s

/-! ### The lines' own events -/

theorem storeOutcome_execOfferStart (n : Fin 4) (s : State) : NextKeeps (StoreOutcome s) (execOfferStart n s) := by
  refine storeOutcome_next ?_
  split
  · exact (KeepsStore.refl s).frame rfl rfl
  · exact .refl s

theorem storeOutcome_execAnswerWindowExpiry (n : Fin 4) (s : State) :
    NextKeeps (StoreOutcome s) (execAnswerWindowExpiry n s) := by
  refine storeOutcome_next ?_
  split
  · exact keepsStore_closeOffer keepsStore_applyMiss (.refl s)
  · exact .refl s

theorem storeOutcome_execAnswerGapExpiry (n : Fin 4) (s : State) : NextKeeps (StoreOutcome s) (execAnswerGapExpiry n s) := by
  refine storeOutcome_next ?_
  split
  · exact keepsStore_closeOffer keepsStore_applyBad (.refl s)
  · exact .refl s

theorem storeOutcome_execNoRequestKindFrame (kind tag : Byte) (body : List Byte) (s : State) :
    NextKeeps (StoreOutcome s) (execNoRequestKindFrame kind tag body s) := by
  unfold execNoRequestKindFrame
  split
  · exact storeOutcome_idle s
  · exact storeOutcome_hostRequest s fun _ _ hu => hu

/-! ### Every command -/

/-- Every command keeps settlement memory canonical and leaves FAULT in force, or resets the part. -/
theorem exec_storeOutcome (c : Instr) (s : State) : NextKeeps (StoreOutcome s) (exec c s) := by
  have same {t : State} (hmem : t.mem = s.mem) (hstore : t.jc.store = s.jc.store) : NextKeeps (StoreOutcome s) (.next t) :=
    storeOutcome_next ((KeepsStore.refl s).frame hmem hstore)
  cases c with
  | reset cause straps left => exact nextKeeps_next (storeOutcome_reset ..)
  | frameRejected bytes => exact storeOutcome_next (keepsStore_takeRejected bytes s)
  | receiveGapExpiry bytes => exact storeOutcome_next (keepsStore_takeGap bytes s)
  | replyFrameSent left => exact storeOutcome_frameSent left s
  | activate tag body => exact storeOutcome_hostCard .activate tag body s
  | load tag body => exact storeOutcome_hostCard .load tag body s
  | hold tag body => exact storeOutcome_hostCard .hold tag body s
  | release tag body => exact storeOutcome_hostCard .release tag body s
  | balance tag body => exact storeOutcome_hostCard .balance tag body s
  | capture tag body => exact storeOutcome_hostCard .capture tag body s
  | redeem tag body => exact storeOutcome_hostCard .redeem tag body s
  | void tag body => exact storeOutcome_hostCard .void tag body s
  | refund tag body => exact storeOutcome_hostCard .refund tag body s
  | cashOut tag body => exact storeOutcome_hostCard .cashOut tag body s
  | block tag body => exact storeOutcome_hostCard .block tag body s
  | unblock tag body => exact storeOutcome_hostCard .unblock tag body s
  | suspendMerchant tag body => exact storeOutcome_hostAdmin .suspend tag body s
  | resumeMerchant tag body => exact storeOutcome_hostAdmin .resume tag body s
  | closeMerchant tag body => exact storeOutcome_hostAdmin .close tag body s
  | cutoff tag body => exact storeOutcome_hostRequest s fun _ _ => keepsStore_joinAppend
  | takeAdvice tag body => exact storeOutcome_hostRequest s fun _ _ => keepsStore_takeAdvice
  | readPayout tag body => exact storeOutcome_hostRequest s fun _ _ => keepsStore_readPayoutEntry
  | rewindPayout tag body => exact storeOutcome_hostRequest s fun _ _ hu => hu.frame rfl rfl
  | releasePayout tag body => exact storeOutcome_hostRequest s fun _ _ => keepsStore_releaseList
  | readTotals tag body => exact storeOutcome_hostRequest s fun _ _ => keepsStore_issue
  | merchantStatus tag body => exact storeOutcome_hostRequest s fun _ _ => keepsStore_issue
  | startSweep tag body => exact storeOutcome_hostRequest s fun _ _ => keepsStore_startSweep
  | stopSweep tag body => exact storeOutcome_hostRequest s fun _ _ => keepsStore_stopSweep
  | enableStation tag body => exact storeOutcome_hostRequest s fun _ _ => keepsStore_enableStation
  | disableStation tag body => exact storeOutcome_hostRequest s fun _ _ => keepsStore_disableStation
  | clearStationCounts tag body => exact storeOutcome_hostRequest s fun _ _ hu => hu.frame rfl rfl
  | lineStatus tag body => exact storeOutcome_hostRequest s fun _ _ => keepsStore_sendLink
  | partStatus tag body => exact storeOutcome_hostRequest s fun _ _ => keepsStore_sendLink
  | takeNotices tag body => exact storeOutcome_hostRequest s fun _ _ hu => hu.frame rfl rfl
  | restart tag body => exact storeOutcome_hostRequest s fun _ _ hu => hu.frame rfl rfl
  | setTime tag body => exact storeOutcome_hostRequest s fun _ _ hu => hu.frame rfl rfl
  | format tag body => exact storeOutcome_hostRequest s fun _ _ => keepsStore_takeCfg
  | setProgramme tag body => exact storeOutcome_hostItem _ _ tag body s
  | setTariff tag body => exact storeOutcome_hostItem _ _ tag body s
  | setMerchant tag body => exact storeOutcome_hostRequest s fun _ _ => keepsStore_takeCfg
  | setStation tag body => exact storeOutcome_hostItem _ _ tag body s
  | setLine tag body => exact storeOutcome_hostItem _ _ tag body s
  | openService tag body => exact storeOutcome_hostRequest s fun _ _ => keepsStore_takeCfg
  | secondsTick => exact same rfl rfl
  | holdExpiry epoch serial => exact storeOutcome_next (keepsStore_expireHold (.refl s))
  | holdEntry lock => exact storeOutcome_next (keepsStore_holdArrives (.refl s))
  | holdClaim lock => exact storeOutcome_next (keepsStore_claimArrives (.refl s))
  | cardReadDone => exact storeOutcome_execCardReadDone s
  | appendIssue => exact same (by simp) (by simp)
  | appendWriteDone => exact storeOutcome_execAppendWriteDone s
  | appendWriteFails left => exact storeOutcome_execAppendWriteFails left s
  | cardWriteDone => exact storeOutcome_execCardWriteDone s
  | cardWriteFails left => exact storeOutcome_execCardWriteFails left s
  | accrualStart => exact storeOutcome_execAccrualStart s
  | accrualMerchantReadDone => exact storeOutcome_execAccrualMerchantReadDone s
  | accrualMerchantWriteDone failed => exact storeOutcome_execAccrualMerchantWriteDone failed s
  | totalsWriteDone => exact storeOutcome_execTotalsWriteDone s
  | totalsWriteFails left => exact storeOutcome_execTotalsWriteFails left s
  | commitMarkDone => exact storeOutcome_execCommitMarkDone s
  | commitMarkFails left => exact storeOutcome_execCommitMarkFails left s
  | closeWalkStart => exact storeOutcome_execCloseWalkStart s
  | walkMerchantReadDone => exact storeOutcome_execWalkMerchantReadDone s
  | walkMerchantWriteDone => exact storeOutcome_execWalkMerchantWriteDone s
  | walkMerchantWriteFails left => exact storeOutcome_execWalkMerchantWriteFails left s
  | adviceReadDone => exact storeOutcome_execAdviceReadDone s
  | merchantStatusReadDone => exact storeOutcome_execMerchantStatusReadDone s
  | readTotalsReadDone => exact storeOutcome_execReadTotalsReadDone s
  | programmeWriteDone => exact storeOutcome_execProgrammeWriteDone s
  | tariffWriteDone => exact storeOutcome_execTariffWriteDone s
  | setMerchantReadDone => exact storeOutcome_execSetMerchantReadDone s
  | setMerchantWriteDone => exact storeOutcome_execSetMerchantWriteDone s
  | lineConfigWriteDone => exact storeOutcome_execLineConfigWriteDone s
  | configWriteFails left => exact storeOutcome_execConfigWriteFails left s
  | formatWriteDone => exact storeOutcome_execFormatWriteDone s
  | formatWriteFails left => exact storeOutcome_execFormatWriteFails left s
  | sweepReadDone => exact storeOutcome_execSweepReadDone s
  | rebuildReadDone => exact storeOutcome_execRebuildReadDone s
  | startupTotalsReadDone => exact storeOutcome_execStartupTotalsReadDone s
  | startupConfigReadDone => exact storeOutcome_execStartupConfigReadDone s
  | journalScanReadDone => exact storeOutcome_execJournalScanReadDone s
  | recoveryCardReadDone => exact storeOutcome_execRecoveryCardReadDone s
  | recoveryCardWriteDone failed => exact storeOutcome_execRecoveryCardWriteDone failed s
  | admissionLoadReadDone => exact storeOutcome_execAdmissionLoadReadDone s
  | offerStart n => exact storeOutcome_execOfferStart n s
  | broadcastStart n => exact same rfl rfl
  | emptyRoundWaitExpiry n => exact same rfl rfl
  | offerSent n => exact same rfl rfl
  | broadcastSent n => exact same rfl rfl
  | goodAnswer n frame => exact storeOutcome_next (keepsStore_goodAnswer (.refl s))
  | answerWindowExpiry n => exact storeOutcome_execAnswerWindowExpiry n s
  | answerGapExpiry n => exact storeOutcome_execAnswerGapExpiry n s
  | badAnswer n frame => exact storeOutcome_next (keepsStore_badAnswer (.refl s))
  | noRequestKindFrame kind tag body => exact storeOutcome_execNoRequestKindFrame kind tag body s

end Commands

/-! ### The settlement of O4 and O9 -/

/-- The memory after a reset is the one before it, or as the access that was cut off left its record (R113). -/
theorem memOk_resetPart {s : State} (cause : ResetCause) (straps : BitVec 2) (left : Residue) (h : MemOk s) :
    MemOk (resetPart cause straps left s) := by
  unfold resetPart
  dsimp only
  split
  · next op _ =>
    obtain ⟨hkept, -⟩ := keepsStore_leaveOp op left (.refl s)
    exact hkept h
  · exact h

theorem exec_memOk {c : Instr} {s t : State} (h : MemOk s) (ht : exec c s = .next t) : MemOk t := by
  rcases exec_storeOutcome c s t ht with ⟨hkept, -⟩ | ⟨cause, straps, left, rfl⟩
  · exact hkept h
  · exact memOk_resetPart cause straps left h

/-- Settles O4: a step idles, or carries out a command, which keeps the memory or resets the part. -/
theorem stepKeepsMemoryForm : Obligations.StepKeepsMemoryForm := by
  intro s t h ht
  unfold step at ht
  split at ht
  · cases ht; exact h
  · next c rest _ => exact exec_memOk (s := { s with pending := rest }) h ht

/-- Settles O9: a command that leaves FAULT is a reset. -/
theorem faultLastsUntilReset : Obligations.FaultLastsUntilReset := by
  intro c s t hfault ht
  rcases exec_storeOutcome c s t ht with ⟨-, hkept⟩ | ⟨cause, straps, left, rfl⟩
  · exact .inl (hkept hfault)
  · exact .inr ⟨cause, straps, _, rfl⟩

end Sys2Proof.Machine
end

section
/-! Reset (O19), and the last byte of a reply frame (O21). -/

namespace Sys2Proof.Machine
open Sys2Proof Sys2Proof.Safety

/-! ### The access that a reset cuts off (R112, R113, R168) -/

section Reset
variable {cause : ResetCause} {straps : BitVec 2} {left : Residue} {op : PortOp} {a : Nat} {bs : List Byte}
  {ok : List Byte → Bool} {s : State}

theorem resetPart_idle (hs : s.jc.serving = none) : resetPart cause straps left s = resetWith cause straps s.mem s.pending := by
  simp only [resetPart, hs]

theorem resetPart_read (hs : s.jc.serving = some op) (hop : op.write? = none) :
    resetPart cause straps left s = resetWith cause straps s.mem s.pending := by
  simp only [resetPart, hs, leaveOp, hop]

theorem resetPart_write (hs : s.jc.serving = some op) (hop : op.write? = some (a, bs, ok)) :
    resetPart cause straps left s = resetWith cause straps (Memory.leave s.mem a bs ok left) s.pending := by
  simp only [resetPart, hs, leaveOp, hop]

/-- Torn bytes are taken where they have the record's length and fail its check (R113, log 8). -/
theorem leave_torn {mem : List Host.Cell} {bad : List Byte} (hlen : bad.length = bs.length) (hbad : ok bad = false) :
    Memory.leave mem a bs ok (.torn bad) = Memory.writeMany mem a bad := if_pos ⟨hlen, hbad⟩

theorem leave_notTorn {mem : List Host.Cell} {bad : List Byte} (h : bad.length ≠ bs.length ∨ ok bad = true) :
    Memory.leave mem a bs ok (.torn bad) = mem := by
  refine if_neg fun ⟨hlen, hbad⟩ => ?_
  rcases h with h | h
  · exact h hlen
  · exact Bool.false_ne_true (hbad.symm.trans h)

/-- A cut-off record is the old one, the new one, or a torn one (R113). -/
theorem leave_cases (mem : List Host.Cell) (a : Nat) (bs : List Byte) (ok : List Byte → Bool) (left : Residue) :
    Memory.leave mem a bs ok left = mem ∨ Memory.leave mem a bs ok left = Memory.writeMany mem a bs
      ∨ ∃ bad, bad.length = bs.length ∧ ok bad = false ∧ Memory.leave mem a bs ok left = Memory.writeMany mem a bad := by
  cases left with
  | written => exact .inr (.inl rfl)
  | unwritten => exact .inl rfl
  | torn bad =>
    by_cases h : bad.length = bs.length ∧ ok bad = false
    · obtain ⟨hlen, hbad⟩ := h
      exact .inr (.inr ⟨bad, hlen, hbad, leave_torn hlen hbad⟩)
    · exact .inl (if_neg h)

end Reset

/-- Settles O19: the blocks are those of `resetWith`, and the memory is by the access in service. -/
theorem resetCommand : Obligations.ResetCommand := by
  intro cause straps left s
  refine ⟨resetPart (causeOf cause) straps left s, rfl, ?_, fun hs => ?_, fun op hs hop => ?_, fun op a bs ok hs hop => ?_⟩
  · cases cause <;> rfl
  · rw [resetPart_idle hs]; rfl
  · rw [resetPart_read hs hop]; rfl
  · rw [resetPart_write hs hop]
    exact leave_cases s.mem a bs ok left

/-! ### The last byte of a reply frame (R161, R167, R172) -/

section Sent
variable {left : Residue} {f : OutFrame} {rest : List OutFrame} {s : State}

theorem frameSent_idle (h : s.hlp.outbound = []) : frameSent left s = s := by simp only [frameSent, h]

/-- A frame begins with NOTICES-PENDING as the notice set stands (R161). -/
theorem beginFrame_eq (n : Notices) (g : OutFrame) :
    beginFrame n g = { g with begun := true, noticesPending := decide (n ≠ {}) } := by
  rw [beginFrame, notices_none?_eq]

theorem frameSent_next (h : s.hlp.outbound = f :: rest) (hf : f.resets = false) : frameSent left s
    = { s with hlp := { s.hlp with
        outbound := beginNext s.hlp.notices rest
        inFlight := if f.tagged then s.hlp.inFlight.filter (fun t => t != f.tag) else s.hlp.inFlight } } := by
  simp only [frameSent, h, hf, Bool.false_eq_true, if_false]

theorem frameSent_resets (h : s.hlp.outbound = f :: rest) (hf : f.resets = true) :
    frameSent left s = resetPart .restart s.hlp.straps left s := by
  simp only [frameSent, h, hf, if_true]

end Sent

/-- Settles O21: the frames that reset nothing by `frameSent_next`, the others as a reset by the access in service. -/
theorem replyFrameSent : Obligations.ReplyFrameSent := by
  intro left s
  refine ⟨fun h => congrArg Host.Outcome.next (frameSent_idle h), fun f rest h => ⟨fun hf => ?_, fun hf => ?_⟩⟩
  · have hexec : exec (.replyFrameSent left) s = _ := congrArg Host.Outcome.next (frameSent_next h hf)
    cases rest with
    | nil => exact hexec
    | cons g gs =>
      rw [beginNext, beginFrame_eq] at hexec
      exact hexec
  · intro resets
    have hexec : exec (.replyFrameSent left) s = .next (resetPart .restart s.hlp.straps left s) :=
      congrArg Host.Outcome.next (frameSent_resets h hf)
    refine ⟨fun hs => ?_, fun op hs hop => ?_, fun op a bs ok hs hop => ?_⟩
    · exact hexec.trans (by rw [resetPart_idle hs])
    · exact hexec.trans (by rw [resetPart_read hs hop])
    · rw [resetPart_write hs hop] at hexec
      refine ⟨?_, ?_, ?_⟩
      · rintro rfl; exact hexec
      · rintro rfl; exact hexec
      · rintro bad rfl
        refine ⟨fun hlen hbad => ?_, fun hno => ?_⟩
        · rwa [leave_torn hlen hbad] at hexec
        · rwa [leave_notTorn hno] at hexec

end Sys2Proof.Machine
end

section
/-! The field check and the phase check of every request of the link (O24). -/

namespace Sys2Proof.Machine
open Sys2Proof Sys2Proof.Safety

/-! ### The rows of the phase table (R160) -/

/-- The row of the phase table that a request kind stands in (R160). -/
def requestClass : Nat → ReqClass
  | 0x30 | 0x31 => .status
  | 0x32 => .time
  | 0x33 => .restart
  | 0x38 => .format
  | 0x39 | 0x3A | 0x3B | 0x3C | 0x3D => .config
  | 0x3E => .opening
  | 0x18 | 0x19 | 0x1A | 0x1B | 0x1C | 0x1D | 0x21 | 0x2A | 0x2B => .books
  | _ => .trade

theorem requestClass_time {kind : Nat} (h : requestClass kind = .time) : kind = 0x32 := by
  unfold requestClass at h
  split at h <;> cases h
  rfl

/-- What is served while a FORMAT runs (R160, R171). -/
theorem requestClass_underFormat {kind : Nat} (h : kind ∉ [0x30, 0x31, 0x32]) :
    requestClass kind ≠ .time ∧ requestClass kind ≠ .status := by
  unfold requestClass
  split <;> simp_all

/-- What is served in UNFORMATTED (R160, R169). -/
theorem requestClass_unformatted {kind : Nat} (h : kind ∉ [0x30, 0x31, 0x32, 0x33, 0x38]) :
    requestClass kind = .config ∨ requestClass kind = .opening ∨ requestClass kind = .books ∨ requestClass kind = .trade := by
  unfold requestClass
  split <;> simp_all

theorem requestClass_trade {kind : Nat} (h : kind ≤ 0x0C ∨ kind ∈ [0x10, 0x11, 0x12, 0x13, 0x20, 0x28, 0x29]) :
    requestClass kind = .trade := by
  unfold requestClass
  split <;> simp at h ⊢

theorem requestClass_setup {kind : Nat} (h : kind ∈ [0x38, 0x39, 0x3A, 0x3B, 0x3C, 0x3D]) :
    requestClass kind = .format ∨ requestClass kind = .config := by
  unfold requestClass
  split <;> simp_all

/-! ### The phase check (R130, R160, R170, R171) -/

section Phase
variable {cl : ReqClass} {phase : Phase}

theorem phaseRefusal_startUp (h : cl ≠ .time) (formatting : Bool) : phaseRefusal cl .startup formatting = some (.busy, 0) :=
  if_neg h

theorem phaseRefusal_underFormat (hp : phase = .unformatted ∨ phase = .setup) (htime : cl ≠ .time) (hstatus : cl ≠ .status) :
    phaseRefusal cl phase true = some (.busy, 0) := by
  have hno : ¬(cl = .time ∨ cl = .status) := fun h => h.elim htime hstatus
  rcases hp with rfl | rfl
  · exact if_neg hno
  · exact if_neg hno

theorem phaseRefusal_unformatted (h : cl = .config ∨ cl = .opening ∨ cl = .books ∨ cl = .trade) :
    phaseRefusal cl .unformatted false = some (.notInPhase, 0) := by
  rcases h with rfl | rfl | rfl | rfl <;> rfl

theorem phaseRefusal_inService (h : cl = .format ∨ cl = .config) (formatting : Bool) :
    phaseRefusal cl .service formatting = some (.configRefused, 25) := by
  rcases h with rfl | rfl <;> rfl

end Phase

/-! ### Every request frame -/

section Request
variable {kind : Nat} {tag : Byte} {body : List Byte} {c : Instr} {s : State}

/-- Every request comes by its kind to the row of its class and to the field check of its kind (R160, R176, R177). -/
theorem exec_request (hc : requestOf kind tag body = some c) :
    ∃ (α : Type) (fields : List Byte → Option α) (act : Nat → α → State → State),
      (∀ s, exec c s = .next (hostRequest kind (requestClass kind) tag body fields act s))
        ∧ (fields body).isSome = goodFields kind tag body := by
  unfold requestOf at hc
  split at hc
  all_goals cases hc
  all_goals refine ⟨_, _, _, fun s => rfl, ?_⟩
  all_goals cases body <;> rfl

/-- A request is refused before its block sees it: its tag is taken and it is answered (R160). -/
def RefusedEarly (kind : Nat) (tag : Byte) (body : List Byte) (c : Instr) (s : State) (st : Status) (reason : Nat) : Prop :=
  exec c s = .next (sendLink tag.toNat (plainReply kind st reason (carriedCard kind body)) (taken tag s))

variable (hc : requestOf kind tag body = some c) (hfree : TagFree tag s)
include hc hfree

theorem refused_badField (hbad : goodFields kind tag body = false) : RefusedEarly kind tag body c s .badRequest 1 := by
  obtain ⟨α, fields, act, hexec, hfields⟩ := exec_request hc
  rw [hbad, Option.isSome_eq_false_iff, Option.isNone_iff_eq_none] at hfields
  rw [RefusedEarly, hexec, hostRequest_badField hfree hfields]
  rfl

theorem refused_phase (hgood : goodFields kind tag body = true) {st : Status} {reason : Nat}
    (hphase : phaseRefusal (requestClass kind) s.jc.phase s.jc.format.isSome = some (st, reason)) :
    RefusedEarly kind tag body c s st reason := by
  obtain ⟨α, fields, act, hexec, hfields⟩ := exec_request hc
  obtain ⟨f, hf⟩ := Option.isSome_iff_exists.mp (hfields.trans hgood)
  rw [RefusedEarly, hexec, hostRequest_phase hfree hf hphase]
  rfl

end Request

/-- Settles O24: the field check, and then the phase check by the row of the request's kind. -/
theorem startUpAnswersBusy : Obligations.StartUpAnswersBusy := by
  intro kind tag body c s hc hfree refused good outside
  refine ⟨refused_badField hc hfree, fun hg hp hk => ?_, fun hg hp hf hk => ?_, fun hg hp hf hk => ?_, fun hg hp hf hk => ?_,
    fun hg hp hk => ?_, fun hg hp hk => ?_⟩
  · refine refused_phase hc hfree hg ?_
    rw [hp]
    exact phaseRefusal_startUp (fun h => hk (requestClass_time h)) _
  · obtain ⟨htime, hstatus⟩ := requestClass_underFormat hk
    refine refused_phase hc hfree hg ?_
    rw [Option.isSome_iff_ne_none.mpr hf]
    exact phaseRefusal_underFormat hp htime hstatus
  · refine refused_phase hc hfree hg ?_
    rw [hp, hf]
    exact phaseRefusal_unformatted (requestClass_unformatted hk)
  · refine refused_phase hc hfree hg ?_
    rw [hp, hf, requestClass_trade hk]
    rfl
  · refine refused_phase hc hfree hg ?_
    rw [hp]
    exact phaseRefusal_inService (requestClass_setup hk) _
  · refine refused_phase hc hfree hg ?_
    rw [hp, hk]
    rfl

end Sys2Proof.Machine
end

section
/-! TAKE-ADVICE (O28): the request in its turn, and the request that waits. -/

namespace Sys2Proof.Machine
open Sys2Proof Sys2Proof.Safety

/-! ### The turn of a TAKE-ADVICE (R123, R126) -/

section Turn
variable {tag n : Nat} {rest : List (Nat × Nat)} {s : State}

theorem runAdvice_fault (hs : s.jc.store = .fault) :
    runAdvice ((tag, n) :: rest) s = runAdvice rest (sendLink tag (plainReply 0x18 .storeFault) s) := if_pos hs

/-- There is no record to read (R123). -/
theorem runAdvice_none (hs : s.jc.store = .normal) (h : s.jc.next ≤ s.jc.oldest) : runAdvice ((tag, n) :: rest) s
    = runAdvice rest (sendLink tag (plainReply 0x18 .ok 0 (fig 1 0 ++ fig 6 s.jc.oldest ++ fig 2 s.jc.untaken)) s) := by
  rw [runAdvice, if_neg (by rw [hs]; decide), if_neg (Nat.not_lt.mpr h), adviceFigures, List.flatten_nil, List.append_nil]
  rfl

/-- The oldest untaken record is read (R123). -/
theorem runAdvice_reads (hs : s.jc.store = .normal) (h : s.jc.oldest < s.jc.next) : runAdvice ((tag, n) :: rest) s
    = issue (.adviceRead s.jc.oldest) { s with jc := { s.jc with
        advice := some { tag := tag, count := n, u := s.jc.oldest, records := [] }, adviceWaiting := rest } } := by
  rw [runAdvice, if_neg (by rw [hs]; decide), if_pos h]

end Turn

section Request
variable {tag : Byte} {n : Nat} {s : State}

theorem adviceCount_byte (h1 : 1 ≤ n) (h3 : n ≤ 3) : adviceCount? [byteOf n] = some n := by
  simp [adviceCount?, field, leNat, inRange, byteOf_toNat (show n < 256 by omega), h1, h3]

theorem exec_takeAdvice (ha : Admits .books tag s) (h1 : 1 ≤ n) (h3 : n ≤ 3) :
    exec (.takeAdvice tag [byteOf n]) s = .next (takeAdvice tag.toNat n (taken tag s)) :=
  congrArg Host.Outcome.next (hostRequest_admitted ha (adviceCount_byte h1 h3))

theorem takeAdvice_turn {count : Nat} (h : s.jc.advice = none) : takeAdvice tag.toNat count s = runAdvice [(tag.toNat, count)] s := by
  simp only [takeAdvice, h]

theorem takeAdvice_waits {count : Nat} (h : s.jc.advice ≠ none) : takeAdvice tag.toNat count s
    = { s with jc := { s.jc with adviceWaiting := s.jc.adviceWaiting ++ [(tag.toNat, count)] } } := by
  obtain ⟨job, hjob⟩ := Option.ne_none_iff_exists'.mp h
  simp only [takeAdvice, hjob]

end Request

/-- Settles O28: a request with none before it has its turn at once, and each turn is by the store and the untaken numbers. -/
theorem takeAdviceIsServed : Obligations.TakeAdviceIsServed := by
  refine ⟨fun tag n s ha h1 h3 => ?_, fun tag n rest s => ⟨rfl, runAdvice_fault, runAdvice_none, runAdvice_reads⟩⟩
  intro u free c
  have hexec : exec c s = .next (takeAdvice tag.toNat n u) := exec_takeAdvice ha h1 h3
  refine ⟨fun hfirst => ?_, fun hother => ?_⟩
  · rw [takeAdvice_turn (s := u) hfirst] at hexec
    refine ⟨fun hs h => ?_, fun hs h => ?_, fun hs => ?_⟩
    · rw [hexec, runAdvice_reads (s := u) hs h]; rfl
    · rw [hexec, runAdvice_none (s := u) hs h]; rfl
    · rw [hexec, runAdvice_fault (s := u) hs]; rfl
  · rw [hexec, takeAdvice_waits (s := u) hother]; rfl

end Sys2Proof.Machine
end

section
/-! START-SWEEP and STOP-SWEEP (O33), and the reads of the audit sweep (O56). -/

namespace Sys2Proof.Machine
open Sys2Proof Sys2Proof.Safety

/-! ### START-SWEEP and STOP-SWEEP (R136, R140) -/

/-- The sweep that starts: RUNNING with its figures cleared (R136). -/
def sweepBegun (s : State) : State :=
  { s with asu := { s.asu with state := .running, cursor := 0, paid := 0, bonus := 0, unreadable := 0 } }

section Request
variable {t : Nat} {tag : Byte} {s : State}

theorem exec_startSweep (ha : Admits .trade tag s) : exec (.startSweep tag []) s = .next (startSweep tag.toNat (taken tag s)) :=
  congrArg Host.Outcome.next (hostRequest_admitted ha rfl)

theorem exec_stopSweep (ha : Admits .books tag s) : exec (.stopSweep tag []) s = .next (stopSweep tag.toNat (taken tag s)) :=
  congrArg Host.Outcome.next (hostRequest_admitted ha rfl)

theorem startSweep_fault (hs : s.jc.store = .fault) : startSweep t s = sendLink t (plainReply 0x20 .storeFault) s := if_pos hs

theorem startSweep_busy (hs : s.jc.store = .normal) (hrun : s.asu.state = .running) :
    startSweep t s = sendLink t (plainReply 0x20 .busy) s := by
  rw [startSweep, if_neg (by rw [hs]; decide), if_pos hrun]
  rfl

/-- An IDLE unit starts with the first read, unless a stale one is still outstanding (R136, R141). -/
theorem startSweep_idle (hs : s.jc.store = .normal) (hidle : s.asu.state = .idle) :
    startSweep t s = sendLink t (plainReply 0x20 .ok 0 (fig 3 s.mau.copy.capacity))
      (if s.asu.outstanding then sweepBegun s else issueSweepRead (sweepBegun s)) := by
  have hmau : (if s.asu.outstanding then sweepBegun s else issueSweepRead (sweepBegun s)).mau = s.mau := by
    split
    · rfl
    · exact issue_mau _ _
  rw [startSweep, if_neg (by rw [hs]; decide), if_neg (by rw [hidle]; decide)]
  exact congrArg (fun m : Mau => sendLink t (plainReply 0x20 .ok 0 (fig 3 m.copy.capacity)) _) hmau

theorem stopSweep_running (hrun : s.asu.state = .running) :
    stopSweep t s = sendLink t (plainReply 0x21 .ok 0 (fig 1 1 ++ fig 3 s.asu.cursor)) (abortSweep s) := by
  rw [stopSweep, hrun]
  rfl

theorem stopSweep_idle (hidle : s.asu.state = .idle) : stopSweep t s = sendLink t (plainReply 0x21 .ok 0 (fig 1 0)) s := by
  rw [stopSweep, hidle]
  rfl

/-- SWEEP-DONE ABORTED carries the figures that the sweep had reached (R140). -/
theorem abortSweep_notices (hrun : s.asu.state = .running) :
    (abortSweep s).hlp.notices = { s.hlp.notices with sweepDone := some {
      outcome := .aborted, paid := s.asu.paid, bonus := s.asu.bonus, expectedPaid := 0, expectedBonus := 0,
      slots := s.asu.cursor, unreadable := s.asu.unreadable } } := by
  rw [abortSweep, hrun]
  rfl

end Request

/-- Settles O33: each request is taken, and goes by the store, the sweep's state and the read outstanding. -/
theorem sweepStartsAndStops : Obligations.SweepStartsAndStops := by
  intro tag s u
  refine ⟨fun ha => ?_, fun ha => ⟨fun hrun => ?_, fun hidle => ?_⟩⟩
  · rw [exec_startSweep ha]
    refine ⟨fun hs hidle hread => ?_, fun hs hidle hread => ?_, fun hs hrun => ?_, fun hs => ?_⟩
    · rw [startSweep_idle (s := u) hs hidle, if_neg (show ¬u.asu.outstanding = true from ne_true_of_eq_false hread)]
      rfl
    · rw [startSweep_idle (s := u) hs hidle, if_pos (show u.asu.outstanding = true from hread)]
      rfl
    · rw [startSweep_busy (s := u) hs hrun]
    · rw [startSweep_fault (s := u) hs]
  · obtain ⟨hasu, -⟩ := abortSweep_running (s := u) hrun
    refine ⟨_, (exec_stopSweep ha).trans (congrArg _ (stopSweep_running (s := u) hrun)), hasu, abortSweep_notices (s := u) hrun,
      sendLink_last .., ?_⟩
    have hrest : (abortSweep u).mem = s.mem ∧ (abortSweep u).lines = s.lines ∧ (abortSweep u).windows = s.windows
        ∧ (abortSweep u).ce = s.ce ∧ (abortSweep u).ht = s.ht ∧ (abortSweep u).jc = s.jc ∧ (abortSweep u).mau = s.mau
        ∧ (abortSweep u).pcu = s.pcu := by simp [u, taken]
    simpa [sendLink, pushFrame] using hrest
  · rw [exec_stopSweep ha, stopSweep_idle (s := u) hidle]

/-! ### The reads of the sweep (R137, R139, R141) -/

/-- The sweep with its read back and its cursor on the slot read (R137). -/
def slotSeen (s : State) : State := { s with asu := { s.asu with outstanding := false, cursor := s.asu.cursor + 1 } }

section Read
variable {slot : Nat} {r : CardRec} {s : State}

theorem exec_sweepReadDone (hs : s.jc.serving = some (.sweepRead slot)) (h1 : 1 ≤ slot) (h2 : slot ≤ 1048576) :
    exec .sweepReadDone s = .next (portNext 2 (sweepRead slot s)) := by
  rw [exec, execSweepReadDone, hs]
  exact if_pos (slotExists_of_bounds h1 h2)

theorem sweepRead_stale (hstale : s.asu.stale = true) : sweepRead slot s = dropStale s := if_pos hstale

theorem sweepRead_running (hstale : s.asu.stale = false) (hrun : s.asu.state = .running) :
    sweepRead slot s = sweepOn slot s := by
  rw [sweepRead, if_neg (by rw [hstale]; decide), if_pos hrun]

theorem dropStale_idle (hidle : s.asu.state = .idle) :
    dropStale s = { s with asu := { s.asu with outstanding := false, stale := false } } :=
  if_neg (by rw [hidle]; decide)

/-- The first read of a sweep that was started behind a stale read (R141). -/
theorem dropStale_running (hrun : s.asu.state = .running) :
    dropStale s = issueSweepRead { s with asu := { s.asu with outstanding := false, stale := false } } := if_pos hrun

theorem sweepAdd_readable (hr : readCard (Memory.readMany s.mem (335872 + (slot - 1) * 32) 32) = some r) :
    sweepAdd slot s = { s with asu := { s.asu with paid := s.asu.paid + r.paid, bonus := s.asu.bonus + r.bonus } } := by
  rw [sweepAdd, cardAddress_eq, hr]

theorem sweepAdd_unreadable (hr : readCard (Memory.readMany s.mem (335872 + (slot - 1) * 32) 32) = none) :
    sweepAdd slot s = raiseStoreFault .cards 0 { s with asu := { s.asu with unreadable := s.asu.unreadable + 1 } } := by
  rw [sweepAdd, cardAddress_eq, hr]

/-- Adding up a slot moves neither the cursor nor the totals' copy. -/
theorem sweepAdd_cursor_mau (slot : Nat) (s : State) :
    (sweepAdd slot s).asu.cursor = s.asu.cursor ∧ (sweepAdd slot s).mau = s.mau := by
  unfold sweepAdd
  split
  · exact ⟨rfl, rfl⟩
  · exact ⟨rfl, rfl⟩

/-- Whether the sweep goes on or ends is known before its slot is added up (R137). -/
theorem sweepOn_eq : sweepOn slot s = if s.asu.cursor + 1 = s.mau.copy.capacity then endSweep (sweepAdd slot (slotSeen s))
    else issueSweepRead (sweepAdd slot (slotSeen s)) := by
  obtain ⟨hcursor, hmau⟩ := sweepAdd_cursor_mau slot (slotSeen s)
  rw [sweepOn, ← slotSeen, hcursor, hmau]
  rfl

/-- A sweep with an unreadable slot is a MISMATCH whatever its sums (R139). -/
theorem sweepOutcome_unreadable (h : s.asu.unreadable ≠ 0) : sweepOutcome s = .mismatch := if_neg fun ⟨_, _, hnone⟩ => h hnone

theorem endSweep_mismatch (h : s.asu.unreadable ≠ 0) : endSweep s
    = raise (fun n => { n with sweepDone := some { sweepNotice s with outcome := .mismatch } })
        { s with asu := { s.asu with state := .idle } } := by
  rw [← sweepOutcome_unreadable h]
  rfl

/-- The end of a sweep whose last slot is unreadable: both notices are raised (R137, R139). -/
theorem endSweep_unreadable (s : State) :
    endSweep (raiseStoreFault .cards 0 { s with asu := { s.asu with unreadable := s.asu.unreadable + 1 } })
      = raise (fun n => { n with
            storeFault := some { region := .cards, journal := 0 }
            sweepDone := some {
              outcome := .mismatch, paid := s.asu.paid, bonus := s.asu.bonus
              expectedPaid := expectedPaid s, expectedBonus := expectedBonus s
              slots := s.mau.copy.capacity, unreadable := s.asu.unreadable + 1 } })
          { s with asu := { s.asu with state := .idle, unreadable := s.asu.unreadable + 1 } } := by
  rw [endSweep_mismatch (Nat.succ_ne_zero _)]
  simp [raiseStoreFault, raise, sweepNotice, expectedPaid, expectedBonus, unaccrued]

end Read

/-- Settles O56: the read of a running sweep is added up, and its place says whether the next slot or the end follows; a stale
read is dropped. -/
theorem sweepReads : Obligations.SweepReads := by
  intro slot s hserving h1 h2 read seen next bad
  rw [exec_sweepReadDone hserving h1 h2]
  refine ⟨fun hstale hrun hmore => ?_, fun hstale hrun hlast => ?_, fun hstale hidle => ?_, fun hstale hrun => ?_⟩
  · rw [sweepRead_running hstale hrun, sweepOn_eq, if_neg hmore]
    refine ⟨fun r hr => ?_, fun hr => ?_⟩
    · rw [sweepAdd_readable (s := slotSeen s) hr]
      rfl
    · rw [sweepAdd_unreadable (s := slotSeen s) hr]
      rfl
  · rw [sweepRead_running hstale hrun, sweepOn_eq, if_pos hlast]
    refine ⟨fun r hr => ?_, fun hr => ?_⟩
    · rw [sweepAdd_readable (s := slotSeen s) hr]
      rfl
    · rw [sweepAdd_unreadable (s := slotSeen s) hr, endSweep_unreadable]
      rfl
  · rw [sweepRead_stale hstale, dropStale_idle hidle]
  · rw [sweepRead_stale hstale, dropStale_running hrun]
    rfl

end Sys2Proof.Machine
end

section
/-! The frames of the till lines as a controller hears them (O12). -/

namespace Sys2Proof.Machine
open Sys2Proof Sys2Proof.Safety

/-! ### The check of a frame (R157, R183) -/

theorem fig_one {n : Nat} (h : n < 256) : fig 1 n = [byteOf n] := by
  rw [fig, if_pos (show n < 256 ^ 1 from h)]
  rfl

/-- The two check bytes close a frame's sum (R157). -/
theorem frameCheck_closes (sum : Nat) : (sum + leNat (leBytes 2 (checkOf sum))) % 65536 = 0 := by
  rw [leNat_leBytes, checkOf]
  omega

/-! ### An answer of the station with this identity (R183) -/

section Heard
variable {x : Station} {k : Nat} {body : List Byte}

/-- A till line frame byte by byte, closed by the check of its sum. -/
theorem tillFrame_eq {m l : Nat} (hm : m < 256) (hl : l < 256) (hk : k < 256) (hb : body.length < 256) :
    tillFrame m l k body = byteOf m :: byteOf l :: byteOf k :: byteOf body.length
      :: (body ++ leBytes 2 (checkOf (m + l + k + body.length + byteSum body))) := by
  have hsum : byteSum (byteOf m :: byteOf l :: byteOf k :: byteOf body.length :: body) = m + l + k + body.length + byteSum body := by
    simp only [byteSum, byteOf_toNat hm, byteOf_toNat hl, byteOf_toNat hk, byteOf_toNat hb]
    omega
  simp only [tillFrame, fig_one hm, fig_one hl, fig_one hk, fig_one hb, List.cons_append, List.nil_append, hsum]

/-- What the kind and the body of a frame say, once its framing and identity are good (R183). -/
def heardBody (k : Nat) (body : List Byte) : Heard :=
  if k = kindPass then (if body.length = 0 then .good .pass else .bad)
  else if k = kindRequest then
    match body with
    | [] => .bad
    | kind :: rest => .good (.request kind rest)
  else .bad

/-- A frame of the station with a good check is heard by its kind and body (R183). -/
theorem hear_tillFrame (hm : x.merchant < 256) (hl : x.lane < 256) (hk : k < 256) (hb : body.length ≤ 240) :
    hear x (tillFrame x.merchant x.lane k body) = heardBody k body := by
  have hlen : body.length < 256 := by omega
  have hcheck := frameCheck_closes (x.merchant + x.lane + k + body.length + byteSum body)
  rw [tillFrame_eq hm hl hk hlen]
  simp only [hear, byteOf_toNat hm, byteOf_toNat hl, byteOf_toNat hk, byteOf_toNat hlen, List.length_append, leBytes_length,
    List.take_left, List.drop_left, hcheck, Nat.not_lt.mpr hb, if_false, lt_irrefl, ne_eq, not_true_eq_false, or_self]
  rfl

end Heard

/-- Settles O12: the frame's parts are read back in their order, and its check closes the sum. -/
theorem tillAnswersReadBack : Obligations.TillAnswersReadBack := fun _ _ _ hm hl hb =>
  ⟨hear_tillFrame hm hl (by decide) (Nat.zero_le _), hear_tillFrame hm hl (by decide) hb⟩

end Sys2Proof.Machine
end

section
/-! The turns of a till line (O59): the next entry of a round, the round's end, and the all-station frames. -/

namespace Sys2Proof.Machine
open Sys2Proof Sys2Proof.Safety

/-! ### The next entry of a round (R146) -/

/-- Entry e of a line may be offered the turn in this round (R146). -/
def MayTurn (l : Line) (round e : Nat) : Prop :=
  let x := vget l.stations e stationReset
  x.state = .absent ∨ x.state = .present ∨ (x.state = .silent ∧ round % 8 = 0)

section Round
variable {l : Line} {e : Nat} {p : Nat} {r : Reply}

theorem eligible_iff {x : Station} {round : Nat} : eligible x round = true
    ↔ x.state = .absent ∨ x.state = .present ∨ (x.state = .silent ∧ round % 8 = 0) := by
  cases hx : x.state <;> simp [eligible, hx]

/-- The test of the round's search: from the position upward, and eligible (R146). -/
theorem turnTest_iff {i : Nat} : (decide (l.position ≤ i) && eligible (vget l.stations i stationReset) l.round) = true
    ↔ l.position ≤ i ∧ MayTurn l l.round i := by
  rw [Bool.and_eq_true, decide_eq_true_iff, eligible_iff]; rfl

theorem nextEntry_eq_some (he : e < 48) (hp : l.position ≤ e) (hmay : MayTurn l l.round e)
    (hbefore : ∀ i, i < e → l.position ≤ i → ¬MayTurn l l.round i) : nextEntry l = some e :=
  find_range_eq_some he (turnTest_iff.mpr ⟨hp, hmay⟩) fun i hi => Bool.eq_false_iff.mpr fun h =>
    let ⟨hpos, ht⟩ := turnTest_iff.mp h
    hbefore i hi hpos ht

theorem nextEntry_eq_none (h : ∀ e, e < 48 → l.position ≤ e → ¬MayTurn l l.round e) : nextEntry l = none :=
  find_range_eq_none fun i hi => Bool.eq_false_iff.mpr fun ht =>
    let ⟨hpos, hmay⟩ := turnTest_iff.mp ht
    h i hi hpos hmay

/-- In a round that has just begun the search starts at entry 0. -/
theorem nextEntry_newRound_eq_some (he : e < 48) (hmay : MayTurn l ((l.round + 1) % 65536) e)
    (hbefore : ∀ i, i < e → ¬MayTurn l ((l.round + 1) % 65536) i) : nextEntry (newRound l) = some e :=
  nextEntry_eq_some (l := newRound l) he (Nat.zero_le e) hmay fun i hi _ => hbefore i hi

theorem nextEntry_newRound_eq_none (h : ∀ e, e < 48 → ¬MayTurn l ((l.round + 1) % 65536) e) : nextEntry (newRound l) = none :=
  nextEntry_eq_none (l := newRound l) fun i hi _ => h i hi

/-! ### How the round goes on (R146) -/

theorem goRound_offers (h : nextEntry l = some e) : goRound l = offerTo e l := by rw [goRound, h]

/-- A round in which no entry was offered is waited out. -/
theorem goRound_waits (h : nextEntry l = none) (ho : l.offeredInRound = false) : goRound l = { l with emptyWait := true } := by
  rw [goRound, h]; exact if_neg (by rw [ho]; decide)

/-- After a round with an offer the next one offers at once. -/
theorem goRound_nextRound (h : nextEntry l = none) (ho : l.offeredInRound = true) (hn : nextEntry (newRound l) = some e) :
    goRound l = offerTo e (newRound l) := by
  rw [goRound, h]
  exact (if_pos ho).trans (by rw [hn])

/-- The next round, which no entry is eligible in, is waited out. -/
theorem goRound_nextRound_waits (h : nextEntry l = none) (ho : l.offeredInRound = true) (hn : nextEntry (newRound l) = none) :
    goRound l = { newRound l with emptyWait := true } := by
  rw [goRound, h]
  exact (if_pos ho).trans (by rw [hn])

/-! ### The frames (R147, R153) -/

/-- The line with the turn offered to entry e (R147). -/
def offeredTo (e : Nat) (l : Line) : Line :=
  { l with offered := some e, answering := false, dropAnswer := false, offeredInRound := true, de := true }

theorem offerTo_turn (h : (vget l.stations e stationReset).held = none) : offerTo e l
    = { offeredTo e l with state := .offering, wire := turnFrame (vget l.stations e stationReset) } := by
  simp only [offerTo, h]; rfl

theorem offerTo_reply (h : (vget l.stations e stationReset).held = some r) : offerTo e l
    = { offeredTo e l with state := .delivering, wire := replyFrame (vget l.stations e stationReset) r } := by
  simp only [offerTo, h]; rfl

theorem startBroadcast_open (hi : l.state = .idleGap) (h : l.serviceOpen = some p) :
    startBroadcast l = broadcast kindServiceOpen p { l with serviceOpen := none } := by
  rw [startBroadcast, if_neg (not_not_intro hi), h]

theorem startBroadcast_period (hi : l.state = .idleGap) (ho : l.serviceOpen = none) (h : l.periodChange = some p) :
    startBroadcast l = broadcast kindPeriodChange p { l with periodChange := none } := by
  rw [startBroadcast, if_neg (not_not_intro hi), ho, h]

theorem mayOffer_of_idle (hi : l.state = .idleGap) (ho : l.serviceOpen = none) (hp : l.periodChange = none)
    (hw : l.emptyWait = false) : mayOffer l = true := by simp [mayOffer, hi, ho, hp, hw]

end Round

section Turn
variable {n : Fin 4} {e : Nat} {l' : Line} {s : State}

theorem exec_offerStart (h : mayOffer (s.line n) = true) : exec (.offerStart n) s = .next (s.setLine n (goRound (s.line n))) :=
  congrArg Host.Outcome.next (if_pos h)

/-- An offer carries the reply its entry holds, or the turn alone (R147). -/
theorem exec_offers (h : exec (.offerStart n) s = .next (s.setLine n (offerTo e l'))) (hst : l'.stations = (s.line n).stations) :
    ((s.station n e).held = none → exec (.offerStart n) s = .next (s.setLine n
        { offeredTo e l' with state := .offering, wire := turnFrame (s.station n e) }))
      ∧ ∀ r, (s.station n e).held = some r → exec (.offerStart n) s = .next (s.setLine n
        { offeredTo e l' with state := .delivering, wire := replyFrame (s.station n e) r }) := by
  have hx : vget l'.stations e stationReset = s.station n e := by rw [hst]; rfl
  refine ⟨fun hh => ?_, fun r hh => ?_⟩
  · rw [h, offerTo_turn (hx ▸ hh), hx]
  · rw [h, offerTo_reply (hx ▸ hh), hx]

end Turn

/-- Settles O59: the round goes on by its next entry, and each of the other events has its one case. -/
theorem lineTurns : Obligations.LineTurns := by
  intro n s l x may becomes offers round' next
  refine ⟨fun hi ho hp hw => ?_, fun hw => ?_, fun hst ha => ?_, fun p hi h => ?_, fun p hi ho h => ?_, fun h => ?_⟩
  · have hexec := exec_offerStart (mayOffer_of_idle hi ho hp hw)
    refine ⟨fun e he hpos hmay hbefore => ?_, fun hnone hoff => ?_, fun hnone hoff => ⟨fun e he hmay hbefore => ?_, fun hnext => ?_⟩⟩
    · rw [goRound_offers (nextEntry_eq_some he hpos hmay hbefore)] at hexec
      exact exec_offers hexec rfl
    · exact hexec.trans (by rw [goRound_waits (nextEntry_eq_none hnone) hoff])
    · rw [goRound_nextRound (nextEntry_eq_none hnone) hoff (nextEntry_newRound_eq_some he hmay hbefore)] at hexec
      exact exec_offers hexec rfl
    · rw [goRound_nextRound_waits (nextEntry_eq_none hnone) hoff (nextEntry_newRound_eq_none hnext)] at hexec
      exact hexec
  · exact congrArg (fun u => Host.Outcome.next (s.setLine n u)) (if_pos hw)
  · exact congrArg (fun u => Host.Outcome.next (s.setLine n u)) (if_pos ⟨hst, ha⟩)
  · exact congrArg (fun u => Host.Outcome.next (s.setLine n u)) (startBroadcast_open hi h)
  · exact congrArg (fun u => Host.Outcome.next (s.setLine n u)) (startBroadcast_period hi ho h)
  · exact congrArg (fun u => Host.Outcome.next (s.setLine n u)) (if_pos h)

end Sys2Proof.Machine
end

section
/-! The station requests as the link takes them, and ENABLE-STATION and DISABLE-STATION (O34, O35). -/

namespace Sys2Proof.Machine
open Sys2Proof Sys2Proof.Safety

/-! ### The fields of the requests (R154, R155, R177) -/

theorem field_pair {n e : Nat} (hn : n < 256) (he : e < 256) :
    field [byteOf n, byteOf e] 0 1 = n ∧ field [byteOf n, byteOf e] 1 1 = e := by
  simp [field, leNat, byteOf_toNat hn, byteOf_toNat he]

section Fields
variable {n e : Nat} (hn : n < 4)
include hn

theorem stationFields_bytes (he : e < 48) : stationFields? [byteOf n, byteOf e] = some (n, e) := by
  obtain ⟨hline, hentry⟩ := field_pair (show n < 256 by omega) (show e < 256 by omega)
  simp [stationFields?, hline, hentry, inRange, Nat.le_of_lt_succ hn, Nat.le_of_lt_succ he]

theorem lineStatusFields_entry (he : e < 48) : lineStatusFields? [byteOf n, byteOf e] = some (n, some e) := by
  obtain ⟨hline, hentry⟩ := field_pair (show n < 256 by omega) (show e < 256 by omega)
  simp [lineStatusFields?, hline, hentry, inRange, Nat.le_of_lt_succ hn, Nat.le_of_lt_succ he, show e ≠ 255 by omega]

theorem lineStatusFields_weakest : lineStatusFields? [byteOf n, byteOf 0xFF] = some (n, none) := by
  obtain ⟨hline, hselector⟩ := field_pair (show n < 256 by omega) (show 0xFF < 256 by decide)
  simp [lineStatusFields?, hline, hselector, inRange, Nat.le_of_lt_succ hn]

end Fields

section Admitted
variable {tag : Byte} {n e : Nat} {s : State}

theorem exec_enableStation (ha : Admits .trade tag s) (hn : n < 4) (he : e < 48) :
    exec (.enableStation tag [byteOf n, byteOf e]) s = .next (enableStation tag.toNat (n, e) (taken tag s)) :=
  congrArg Host.Outcome.next (hostRequest_admitted ha (stationFields_bytes hn he))

theorem exec_disableStation (ha : Admits .trade tag s) (hn : n < 4) (he : e < 48) :
    exec (.disableStation tag [byteOf n, byteOf e]) s = .next (disableStation tag.toNat (n, e) (taken tag s)) :=
  congrArg Host.Outcome.next (hostRequest_admitted ha (stationFields_bytes hn he))

theorem exec_clearStationCounts (ha : Admits .books tag s) (hn : n < 4) (he : e < 48) :
    exec (.clearStationCounts tag [byteOf n, byteOf e]) s = .next (clearCounts tag.toNat (n, e) (taken tag s)) :=
  congrArg Host.Outcome.next (hostRequest_admitted ha (stationFields_bytes hn he))

theorem exec_lineStatus {body : List Byte} {sel : Option Nat} (ha : Admits .books tag s)
    (hf : lineStatusFields? body = some (n, sel)) :
    exec (.lineStatus tag body) s = .next (lineStatus tag.toNat (n, sel) (taken tag s)) :=
  congrArg Host.Outcome.next (hostRequest_admitted ha hf)

theorem exec_partStatus (ha : Admits .status tag s) : exec (.partStatus tag []) s
    = .next (sendLink tag.toNat (plainReply 0x30 .ok 0 (partStatusFigures s)) (taken tag s)) :=
  congrArg Host.Outcome.next (hostRequest_admitted ha rfl)

end Admitted

/-! ### ENABLE-STATION (R154) -/

section Enable
variable {t n e : Nat} {s : State}

/-- The entry at p is another one in use with the identity of entry e of line n (R154). -/
def HoldsIdentity (s : State) (n e : Nat) (p : Nat × Nat) : Prop :=
  p.1 < 4 ∧ p.2 < 48 ∧ p ≠ (n, e) ∧ (s.station p.1 p.2).state ≠ .disabled
    ∧ (s.station p.1 p.2).merchant = (s.station n e).merchant ∧ (s.station p.1 p.2).lane = (s.station n e).lane

theorem identityTaken_iff : identityTaken s n e = true ↔ ∃ p, HoldsIdentity s n e p := by
  simp only [identityTaken, List.any_eq_true, mem_allEntries, Bool.and_eq_true, decide_eq_true_eq, HoldsIdentity, and_assoc]

theorem enableStation_inUse (h1 : (s.station n e).state ≠ .disabled) (h2 : (s.station n e).state ≠ .faulty) :
    enableStation t (n, e) s = sendLink t (plainReply 0x28 .ok 0
      (fig 1 (s.station n e).state.code ++ fig 1 (s.station n e).state.code)) s :=
  if_neg (not_or.mpr ⟨h1, h2⟩)

section Out
variable (hout : (s.station n e).state = .disabled ∨ (s.station n e).state = .faulty)
include hout

theorem enableStation_merchant (hm : ¬stationMerchantOk s (s.station n e) = true) :
    enableStation t (n, e) s = sendLink t (plainReply 0x28 .configRefused 21) s :=
  (if_pos hout).trans (if_pos (Bool.not_eq_true _ ▸ hm))

theorem enableStation_duplicate (hm : stationMerchantOk s (s.station n e) = true) (hd : identityTaken s n e = true) :
    enableStation t (n, e) s = sendLink t (plainReply 0x28 .configRefused 22) s :=
  (if_pos hout).trans ((if_neg (by rw [hm]; decide)).trans (if_pos hd))

/-- An entry that passes both tests becomes ABSENT with its misses and bad answers cleared (R154). -/
theorem enableStation_passes (hm : stationMerchantOk s (s.station n e) = true) (hd : ¬identityTaken s n e = true) :
    enableStation t (n, e) s = sendLink t
      (plainReply 0x28 .ok 0 (fig 1 (s.station n e).state.code ++ fig 1 StationState.absent.code))
      (s.setStation n e { s.station n e with state := .absent, misses := 0, bad := 0 }) :=
  (if_pos hout).trans ((if_neg (by rw [hm]; decide)).trans (if_neg hd))

end Out
end Enable

/-- Settles O34: an entry in use is left as it is, and one that is not goes by the two tests of R154. (The request's own action
has the name `enableStation` in this namespace.) -/
theorem Settled.enableStation : Obligations.EnableStation := by
  intro tag n e s ha hn he u x c reply
  have hexec : exec c s = .next (Machine.enableStation tag.toNat (n, e) u) := exec_enableStation ha hn he
  refine ⟨fun hst => ?_, fun hout => ?_⟩
  · have hd : x.state ≠ .disabled := by rcases hst with h | h | h <;> rw [h] <;> decide
    have hf : x.state ≠ .faulty := by rcases hst with h | h | h <;> rw [h] <;> decide
    exact hexec.trans (congrArg _ (enableStation_inUse (s := u) hd hf))
  intro trades other
  have htrades : stationMerchantOk u x = true ↔ trades := stationMerchantOk_iff
  refine ⟨fun ht hfree => ?_, fun ht => ?_, fun n' e' ht hother => ?_⟩
  · have hd : ¬identityTaken u n e = true := fun h =>
      let ⟨(n', e'), hp⟩ := identityTaken_iff.mp h
      hfree n' e' hp
    exact hexec.trans (congrArg _ (enableStation_passes (s := u) hout (htrades.mpr ht) hd))
  · exact hexec.trans (congrArg _ (enableStation_merchant (s := u) hout (mt htrades.mp ht)))
  · have hd : identityTaken u n e = true := identityTaken_iff.mpr ⟨(n', e'), hother⟩
    exact hexec.trans (congrArg _ (enableStation_duplicate (s := u) hout (htrades.mpr ht) hd))

/-! ### DISABLE-STATION (R152, R154) -/

/-- A disabled entry: nothing is held, and the flag of a reply that was held is cleared (R152, R154). -/
def disabledEntry (x : Station) : Station :=
  { x with state := .disabled, held := none, outstanding := x.outstanding && x.held.isNone }

section Disable
variable {t n e m f : Nat} {s : State}

/-- The entry is disabled, and a held reply is discarded with its notice (R152, R154). -/
theorem dropHeld_disabled (hn : n < 4) (he : e < 48) :
    ∃ h, dropHeld n e (s.setStation n e { s.station n e with state := .disabled })
        = concluded n e (disabledEntry (s.station n e)) h s.ce s.jc s
      ∧ ((s.station n e).held = none → h = s.hlp)
      ∧ ∀ r, (s.station n e).held = some r → h = (raiseReplyDiscarded n e r.journal s).hlp := by
  let y : Station := { s.station n e with state := .disabled }
  cases hheld : (s.station n e).held with
  | none =>
    have hy : y = disabledEntry (s.station n e) := by simp [y, disabledEntry, hheld]
    exact ⟨s.hlp, (dropHeld_none (y := y) (s := s) hn he hheld).trans (by rw [hy]), fun _ => rfl, nofun⟩
  | some r =>
    have hy : { y with held := none, outstanding := false } = disabledEntry (s.station n e) := by simp [y, disabledEntry, hheld]
    refine ⟨(raiseReplyDiscarded n e r.journal s).hlp, ?_, nofun, fun r' hr' => by cases hr'; rfl⟩
    exact (dropHeld_some (y := y) (s := s) hn he hheld).trans (by rw [hy])

/-- Dropping an answer to come touches no entry. -/
theorem dropOffer_station (hn : n < 4) : (dropOffer n e s).station m f = s.station m f := by
  unfold dropOffer
  split
  · rw [State.station, line_setLine hn]
    split
    · next hm => rw [hm]; rfl
    · rfl
  · rfl

/-- The answer to an offer in progress to the entry will be dropped (R154). -/
theorem dropOffer_drops (hn : n < 4) (h : (s.line n).offered = some e) : ((dropOffer n e s).line n).dropAnswer = true := by
  rw [dropOffer, if_pos h, setLine_line_same hn]

/-- Dropping an answer to come changes the lines alone. -/
theorem dropOffer_eq : dropOffer n e s = { s with lines := (dropOffer n e s).lines } := by
  unfold dropOffer
  split <;> rfl

end Disable

/-- Settles O35: the entry by `dropHeld_disabled`, the offer in progress by `dropOffer_drops`. (The request's own action has the
name `disableStation` in this namespace.) -/
theorem Settled.disableStation : Obligations.DisableStation := by
  intro tag n e s ha hn he x
  obtain ⟨h, hdrop, hnone, hsome⟩ := dropHeld_disabled (s := taken tag s) hn he
  let v := concluded n e (disabledEntry x) h s.ce s.jc (taken tag s)
  let reply := plainReply 0x29 .ok 0 (fig 1 x.state.code)
  have hexec : exec (.disableStation tag [byteOf n, byteOf e]) s = .next (sendLink tag.toNat reply (dropOffer n e v)) :=
    (exec_disableStation ha hn he).trans (congrArg (fun u => Host.Outcome.next (sendLink tag.toNat reply (dropOffer n e u))) hdrop)
  have hhlp : (dropOffer n e v).hlp = h := congrArg State.hlp dropOffer_eq
  refine ⟨_, hexec, ?_, fun n' e' _ _ hne => ?_, fun hx => ?_, fun r hx => ?_, fun ho => ?_, sendLink_last .., ?_⟩
  · exact (dropOffer_station hn).trans (concluded_station hn he)
  · exact (dropOffer_station hn).trans (setStation_station_ne fun h => hne h.symm)
  · rw [sendLink_hlp_notices, hhlp, hnone hx]
    rfl
  · rw [sendLink_hlp_notices, hhlp, hsome r hx]
    exact ⟨_, rfl, rfl, rfl, rfl⟩
  · obtain ⟨w, hw⟩ := concluded_line (n := n) (e := e) (y := disabledEntry x) (h := h) (c := s.ce) (j := s.jc) (s := taken tag s)
    exact dropOffer_drops hn ((congrArg Line.offered hw).trans ho)
  · show ((dropOffer n e v).mem, (dropOffer n e v).windows, (dropOffer n e v).ce, (dropOffer n e v).ht, (dropOffer n e v).jc,
      (dropOffer n e v).mau, (dropOffer n e v).pcu, (dropOffer n e v).asu) = _
    rw [dropOffer_eq]
    rfl

end Sys2Proof.Machine
end

section
/-! CLEAR-STATION-COUNTS, LINE-STATUS with its WEAKEST, and PART-STATUS (O36). -/

namespace Sys2Proof.Machine
open Sys2Proof Sys2Proof.Safety

/-! ### WEAKEST (R155) -/

/-- Entry i of a line counts for WEAKEST: it is PRESENT or SILENT (R155). -/
def CountsForWeakest (l : Line) (i : Nat) : Prop :=
  (vget l.stations i stationReset).state = .present ∨ (vget l.stations i stationReset).state = .silent

/-- The run counter of entry i (R148). -/
def runOf (l : Line) (i : Nat) : Nat := (vget l.stations i stationReset).run

/-- The choice between the best entry so far and entry e. -/
def weaker (l : Line) (best : Option Nat) (e : Nat) : Option Nat :=
  if weakestCounts (vget l.stations e stationReset) then
    match best with
    | some b => if runOf l e < runOf l b then some e else best
    | none => some e
  else best

/-- What WEAKEST selects among the first k entries: the lowest run counter, on a tie the lowest-numbered (R155). -/
def IsWeakest (l : Line) (k : Nat) : Option Nat → Prop
  | none => ∀ i, i < k → ¬CountsForWeakest l i
  | some b => b < k ∧ CountsForWeakest l b ∧ (∀ i, i < b → CountsForWeakest l i → runOf l b < runOf l i)
      ∧ ∀ i, b < i → i < k → CountsForWeakest l i → runOf l b ≤ runOf l i

section Weakest
variable {l : Line} {k e : Nat} {best : Option Nat}

theorem weakest_eq_foldl : weakest l = (List.range 48).foldl (weaker l) none := rfl

theorem weakestCounts_iff : weakestCounts (vget l.stations e stationReset) = true ↔ CountsForWeakest l e := decide_eq_true_iff

theorem weaker_skips (hc : ¬CountsForWeakest l e) : weaker l best e = best := if_neg (mt weakestCounts_iff.mp hc)

theorem weaker_first (hc : CountsForWeakest l e) : weaker l none e = some e := if_pos (weakestCounts_iff.mpr hc)

theorem weaker_compares {b : Nat} (hc : CountsForWeakest l e) :
    weaker l (some b) e = if runOf l e < runOf l b then some e else some b := if_pos (weakestCounts_iff.mpr hc)

/-- An entry that does not count changes nothing. -/
theorem isWeakest_skips (hc : ¬CountsForWeakest l k) (h : IsWeakest l k best) : IsWeakest l (k + 1) best := by
  cases best with
  | none =>
    intro i hi
    rcases Nat.lt_succ_iff_lt_or_eq.mp hi with hik | rfl
    · exact h i hik
    · exact hc
  | some b =>
    obtain ⟨hb, hcb, hbefore, hafter⟩ := h
    refine ⟨Nat.lt_succ_of_lt hb, hcb, hbefore, fun i hi hi' hci => ?_⟩
    rcases Nat.lt_succ_iff_lt_or_eq.mp hi' with hik | rfl
    · exact hafter i hi hik hci
    · exact absurd hci hc

/-- The first entry that counts is the best so far. -/
theorem isWeakest_first (hc : CountsForWeakest l k) (h : IsWeakest l k none) : IsWeakest l (k + 1) (some k) :=
  ⟨k.lt_succ_self, hc, fun i hi hci => absurd hci (h i hi), fun _ hi hi' => absurd hi (Nat.not_lt.mpr (Nat.le_of_lt_succ hi'))⟩

/-- An entry of a lower run counter is better than every one before it. -/
theorem isWeakest_lower {b : Nat} (hc : CountsForWeakest l k) (h : IsWeakest l k (some b)) (hlt : runOf l k < runOf l b) :
    IsWeakest l (k + 1) (some k) := by
  obtain ⟨-, -, hbefore, hafter⟩ := h
  refine ⟨k.lt_succ_self, hc, fun i hi hci => ?_, fun _ hi hi' => absurd hi (Nat.not_lt.mpr (Nat.le_of_lt_succ hi'))⟩
  rcases Nat.lt_trichotomy i b with hib | rfl | hib
  · exact hlt.trans (hbefore i hib hci)
  · exact hlt
  · exact hlt.trans_le (hafter i hib hi hci)

/-- An entry of a run counter as high as the best one's, or higher, leaves the choice. -/
theorem isWeakest_notLower {b : Nat} (h : IsWeakest l k (some b)) (hge : runOf l b ≤ runOf l k) :
    IsWeakest l (k + 1) (some b) := by
  obtain ⟨hb, hcb, hbefore, hafter⟩ := h
  refine ⟨Nat.lt_succ_of_lt hb, hcb, hbefore, fun i hi hi' hci => ?_⟩
  rcases Nat.lt_succ_iff_lt_or_eq.mp hi' with hik | rfl
  · exact hafter i hi hik hci
  · exact hge

/-- One more entry is taken into account. -/
theorem isWeakest_weaker (h : IsWeakest l k best) : IsWeakest l (k + 1) (weaker l best k) := by
  by_cases hc : CountsForWeakest l k
  · cases best with
    | none =>
      rw [weaker_first hc]
      exact isWeakest_first hc h
    | some b =>
      rw [weaker_compares hc]
      split
      · next hlt => exact isWeakest_lower hc h hlt
      · next hge => exact isWeakest_notLower h (Nat.le_of_not_lt hge)
  · rw [weaker_skips hc]
    exact isWeakest_skips hc h

theorem isWeakest_foldl (l : Line) (k : Nat) : IsWeakest l k ((List.range k).foldl (weaker l) none) := by
  induction k with
  | zero => exact fun _ hi => absurd hi (Nat.not_lt_zero _)
  | succ k ih =>
    rw [List.range_succ, List.foldl_append]
    exact isWeakest_weaker ih

/-- At most one entry is the weakest. -/
theorem weakest_eq_some (he : e < 48) (hc : CountsForWeakest l e)
    (hbefore : ∀ i, i < e → CountsForWeakest l i → runOf l e < runOf l i)
    (hafter : ∀ i, e < i → i < 48 → CountsForWeakest l i → runOf l e ≤ runOf l i) : weakest l = some e := by
  have h := isWeakest_foldl l 48
  rw [← weakest_eq_foldl] at h
  cases hw : weakest l with
  | none =>
    rw [hw] at h
    exact absurd hc (h e he)
  | some b =>
    rw [hw] at h
    obtain ⟨hb, hcb, hbefore', hafter'⟩ := h
    rcases Nat.lt_trichotomy b e with hbe | rfl | hbe
    · exact absurd (hbefore b hbe hcb) (Nat.not_lt.mpr (hafter' e hbe he hc))
    · rfl
    · exact absurd (hbefore' e hbe hc) (Nat.not_lt.mpr (hafter b hbe hb hcb))

theorem weakest_eq_none (h : ∀ i, i < 48 → ¬CountsForWeakest l i) : weakest l = none := by
  have hw := isWeakest_foldl l 48
  rw [← weakest_eq_foldl] at hw
  cases hb : weakest l with
  | none => rfl
  | some b =>
    rw [hb] at hw
    obtain ⟨hlt, hc, -⟩ := hw
    exact absurd hc (h b hlt)

end Weakest

/-! ### LINE-STATUS and PART-STATUS (R155, R165) -/

section Status
variable {t n e : Nat} {s : State}

/-- WEAKEST reports the entry that it selects as if it were named. -/
theorem lineStatus_weakest (h : weakest (s.line n) = some e) : lineStatus t (n, none) s = lineStatus t (n, some e) s := by
  simp only [lineStatus, h]

/-- With no entry selected the station figures are zeros (log 10). -/
theorem lineStatus_none (h : weakest (s.line n) = none) : lineStatus t (n, none) s
    = sendLink t (plainReply 0x2B .ok 0 (fig 1 (s.line n).state.code ++ fig 1 (s.line n).copy.rate
        ++ fig 1 (s.line n).copy.window ++ flagByte (s.line n).copy.enabled ++ fig 2 (s.line n).round
        ++ List.replicate 12 0)) s := by
  simp only [lineStatus, h]
  rfl

/-- The occupied locks are those of slots 0 to 15 (R25). -/
theorem lockSlots_eq (s : State) : lockSlots s = (List.range 16).filterMap s.lock := by
  have hlocks : s.ce.locks.toList = (List.range 16).map s.lock := by
    refine List.ext_getElem (by simp) fun i hi _ => ?_
    have hlt : i < 16 := by simpa using hi
    simp [State.lock, vget, hlt]
  rw [lockSlots, hlocks, List.filterMap_map]
  rfl

/-- The phase as PART-STATUS codes it, without FORMAT and with it (R165, R178). -/
theorem phaseCode_eq (s : State) : phaseCode s
    = if s.jc.format = none then (match s.jc.phase with | .setup => 1 | .service => 2 | _ => 0) else 3 := by
  unfold phaseCode
  cases s.jc.format <;> cases s.jc.phase <;> rfl

/-- The stage and the count of a FORMAT, zeros with none running (R165). -/
def formatProgress (s : State) : Nat × Nat := match s.jc.format with | some job => (job.stage, job.written) | none => (0, 0)

theorem formatProgress_eq (s : State) : formatProgress s
    = ((s.jc.format.getD { tag := 0, capacity := 0, stage := 0, written := 0 }).stage,
      (s.jc.format.getD { tag := 0, capacity := 0, stage := 0, written := 0 }).written) := by
  unfold formatProgress
  cases s.jc.format <;> rfl

/-- The figures of PART-STATUS are the parts of R165's table in their order. -/
theorem partStatusFigures_eq (s : State) : partStatusFigures s =
    [fig 1 (phaseCode s), fig 1 (formatProgress s).1, fig 3 (formatProgress s).2, fig 1 s.jc.store.code, fig 4 s.jc.appendPeriod,
      fig 4 s.mau.copy.accrued, fig 4 s.mau.copy.released, fig 1 s.jc.pendingCount, fig 2 s.jc.untaken,
      fig 6 (s.jc.next % 281474976710656), fig 6 s.jc.oldest, fig 1 (lockSlots s).length,
      fig 1 ((lockSlots s).map fun l => l.waiters.length).sum, fig 2 s.ce.ring.length, fig 2 s.ht.holds.length,
      fig 2 (s.ht.holds.filter fun h => h.state == .claimed).length, fig 4 s.ht.seconds, flagByte s.ht.timeSet,
      fig 1 s.pcu.state.code, fig 1 s.pcu.entries.length, fig 1 s.pcu.cursor, fig 1 s.asu.state.code, fig 3 s.asu.cursor,
      fig 1 (s.line 0).state.code, fig 1 (s.line 1).state.code, fig 1 (s.line 2).state.code,
      fig 1 (s.line 3).state.code].flatten := by
  rw [formatProgress_eq]
  unfold partStatusFigures
  simp only [List.append_assoc]
  rfl

theorem partStatusFigures_length (s : State) : (partStatusFigures s).length = 57 := by
  unfold partStatusFigures
  simp only [List.length_append, fig_length, flagByte_length, List.length_flatten, List.map_map, Function.comp_def]
  rfl

end Status

/-- Settles O36: each request is taken, and WEAKEST is the one entry that meets R155. -/
theorem countsAndStatusRequests : Obligations.CountsAndStatusRequests := by
  intro tag n e s hn he
  refine ⟨fun ha => ?_, fun ha => ?_⟩
  · intro l x entry status counts
    have hentry {sel : Nat} {o : Option Nat} (hf : lineStatusFields? [byteOf n, byteOf sel] = some (n, o))
        (ho : lineStatus tag.toNat (n, o) (taken tag s) = lineStatus tag.toNat (n, some e) (taken tag s)) : status sel (entry e) :=
      (exec_lineStatus ha hf).trans (congrArg _ ho)
    refine ⟨exec_clearStationCounts ha hn he, hentry (lineStatusFields_entry hn he) rfl, fun hc hbefore hafter => ?_, fun hnone => ?_⟩
    · exact hentry (lineStatusFields_weakest hn) (lineStatus_weakest (weakest_eq_some he hc hbefore hafter))
    · exact (exec_lineStatus ha (lineStatusFields_weakest hn)).trans
        (congrArg Host.Outcome.next (lineStatus_none (s := taken tag s) (weakest_eq_none hnone)))
  · intro locks format phase figures
    have hfigures : partStatusFigures s = figures := by
      rw [partStatusFigures_eq, lockSlots_eq, phaseCode_eq]
      rfl
    exact ⟨hfigures ▸ partStatusFigures_length s, hfigures ▸ exec_partStatus ha⟩

end Sys2Proof.Machine
end

section
/-! The frames of the host link: those read back (O11), those rejected (O20), those of no request kind (O22), and those that fail the
tag test (O23). -/

namespace Sys2Proof.Machine
open Sys2Proof Sys2Proof.Safety

/-! ### The kinds that name a request (R177) -/

section Kinds
variable {kind : Nat} {tag : Byte} {body : List Byte} {c : Instr}

theorem bodyLength_of_requestOf (hc : requestOf kind tag body = some c) : (bodyLength? kind).isSome := by
  unfold requestOf at hc
  split at hc
  all_goals cases hc
  all_goals rfl

/-- A kind byte that names no request kind makes no request (R160). -/
theorem requestOf_noKind (h : bodyLength? kind = none) : requestOf kind tag body = none := by
  by_contra hne
  obtain ⟨c, hc⟩ := Option.ne_none_iff_exists'.mp hne
  exact absurd (bodyLength_of_requestOf hc) (by rw [h]; exact Bool.false_ne_true)

theorem bodyLength_of_cardKind {k : CardKind} (h : cardKindOf? kind = some k) : (bodyLength? kind).isSome := by
  unfold cardKindOf? at h
  split at h
  all_goals cases h
  all_goals rfl

/-- A frame of no request kind carries no card number (R160, R179). -/
theorem carriedCard_noKind (h : bodyLength? kind = none) : carriedCard kind body = [] := by
  have hkind : cardKindOf? kind = none := by
    by_contra hne
    obtain ⟨k, hk⟩ := Option.ne_none_iff_exists'.mp hne
    exact absurd (bodyLength_of_cardKind hk) (by rw [h]; exact Bool.false_ne_true)
  rw [carriedCard, hkind]

theorem replyKind_request (h : (bodyLength? kind).isSome) : replyKind kind = kind + 0x80 := if_pos h

theorem replyKind_noKind (h : bodyLength? kind = none) : replyKind kind = 0xFE :=
  if_neg (by rw [h]; exact Bool.false_ne_true)

end Kinds

/-! ### The frame of a request (R157, R158) -/

section Frame
variable {kind tag : Nat} {body : List Byte}

/-- A host frame byte by byte, closed by the check of its sum; its body is at most 240 bytes, so that its length is one byte. -/
theorem hostFrame_eq (hk : kind < 256) (ht : tag < 256) (hb : body.length ≤ 240) :
    hostFrame kind tag body = 0xC5 :: byteOf (body.length + 2) :: byteOf 0 :: byteOf kind :: byteOf tag
      :: (body ++ leBytes 2 (checkOf (body.length + 2 + kind + tag + byteSum body))) := by
  have hl : body.length + 2 < 256 := by omega
  have hlength : leBytes 2 (body.length + 2) = [byteOf (body.length + 2), byteOf 0] := by
    rw [leBytes, leBytes, leBytes, Nat.div_eq_of_lt hl]
  have hsum : byteSum (byteOf (body.length + 2) :: byteOf 0 :: byteOf kind :: byteOf tag :: body)
      = body.length + 2 + kind + tag + byteSum body := by
    simp only [byteSum, byteOf_toNat hk, byteOf_toNat ht, byteOf_toNat hl, byteOf_toNat (Nat.zero_lt_succ 255)]
    omega
  simp only [hostFrame, fig_one hk, fig_one ht, hlength, List.cons_append, List.nil_append, hsum]

/-- Bytes whose length is that of their body and whose check closes their sum are an accepted frame (R157, R158). -/
theorem receive_whole {length kind tag : Byte} {body check : List Byte} (hl : length.toNat = body.length + 2)
    (hb : body.length ≤ 240) (hcheck : check.length = 2)
    (hsum : (body.length + 2 + kind.toNat + tag.toNat + byteSum body + leNat check) % 65536 = 0) :
    receive (0xC5 :: length :: byteOf 0 :: kind :: tag :: (body ++ check)) = .accepted kind tag body := by
  have hassoc : body.length + 2 + (kind.toNat + (tag.toNat + byteSum body))
      = body.length + 2 + kind.toNat + tag.toNat + byteSum body := by omega
  simp only [receive, hl, byteOf_toNat (Nat.zero_lt_succ 255), Nat.mul_zero, Nat.add_zero, List.length_cons, List.length_append,
    List.take_succ_cons, List.drop_succ_cons, List.take_left, List.drop_left, List.drop_zero, byteSum, hassoc,
    List.take_of_length_le hcheck.le, hsum, hcheck]
  rw [if_neg (by simp), if_neg (by omega), if_neg (by omega), if_neg (by omega), if_neg (by simp)]

/-- The receiver accepts the frame, with the parts it was made of (R157, R158). -/
theorem receive_hostFrame (hk : kind < 256) (ht : tag < 256) (hb : body.length ≤ 240) :
    receive (hostFrame kind tag body) = .accepted (byteOf kind) (byteOf tag) body := by
  rw [hostFrame_eq hk ht hb]
  refine receive_whole (byteOf_toNat (by omega)) hb (leBytes_length ..) ?_
  rw [byteOf_toNat hk, byteOf_toNat ht]
  exact frameCheck_closes _

end Frame

/-- A well-formed command that is a frame has a body that fits, and is the request of its kind or a frame of no request kind
(R157, R160, R177). -/
theorem hostParts_spec {c : Instr} {kind : Nat} {tag : Byte} {body : List Byte} (hwf : c.wf = true)
    (hparts : hostParts c = some (kind, tag, body)) :
    kind < 256 ∧ body.length ≤ 240 ∧ (requestOf kind tag body).getD (.noRequestKindFrame (byteOf kind) tag body) = c := by
  cases c
  case noRequestKindFrame k t b =>
    cases hparts
    obtain ⟨hnone, hfits⟩ := Bool.and_eq_true_iff.mp hwf
    refine ⟨k.isLt, of_decide_eq_true hfits, ?_⟩
    rw [requestOf_noKind (Option.isNone_iff_eq_none.mp hnone), byteOf, BitVec.ofNat_toNat, BitVec.setWidth_eq]
    rfl
  all_goals cases hparts
  all_goals exact ⟨by decide, of_decide_eq_true hwf, rfl⟩

/-- Settles O11: the receiver accepts the frame with its parts, and these are the command. -/
theorem hostFramesReadBack : Obligations.HostFramesReadBack := by
  intro c kind tag body hwf hparts
  obtain ⟨hk, hb, hcommand⟩ := hostParts_spec hwf hparts
  have htag : byteOf tag.toNat = tag := by rw [byteOf, BitVec.ofNat_toNat, BitVec.setWidth_eq]
  rw [frameCommand, receive_hostFrame hk tag.isLt hb, htag]
  dsimp only
  rw [byteOf_toNat hk, ← hcommand]
  cases requestOf kind tag body with
  | some request => rfl
  | none => rfl

/-! ### Frames that are refused before their tag is taken (R158, R159, R161) -/

section Refused
variable {bytes : List Byte} {s : State}

theorem takeRejected_rejected {reason : Nat} (h : s.hlp.deaf = false)
    (hr : receive (s.hlp.inbound ++ bytes) = .rejected reason) : takeRejected bytes s = rejectFrame reason s := by
  simp [takeRejected, h, hr]

theorem takeGap_partial (h : s.hlp.deaf = false) (hr : receive (s.hlp.inbound ++ bytes) = .partialFrame) :
    takeGap bytes s = rejectFrame 6 s := by
  simp [takeGap, h, hr, reasonGap]

end Refused

/-- Settles O20: either event comes to `rejectFrame`, whose reply waits while fewer than 8 such do. -/
theorem rejectedFramesAreAnswered : Obligations.RejectedFramesAreAnswered := fun _ _ _ hdeaf =>
  ⟨fun hr => congrArg Host.Outcome.next (takeRejected_rejected hdeaf hr),
    fun hr => congrArg Host.Outcome.next (takeGap_partial hdeaf hr)⟩

/-- Settles O22: the frame passes the tag test and fails the field check. -/
theorem unknownKindIsRefused : Obligations.UnknownKindIsRefused := by
  intro kind tag body s hkind hfree
  have hexec : exec (.noRequestKindFrame kind tag body) s
      = .next (hostRequest kind.toNat .status tag body (fun _ => (none : Option Unit)) (fun _ _ s => s) s) := by
    show execNoRequestKindFrame kind tag body s = _
    rw [execNoRequestKindFrame, hkind]
    rfl
  rw [hexec, hostRequest_badField hfree rfl, sendLink, earlyRefusal, carriedCard_noKind hkind, replyKind_noKind hkind]
  rfl

/-- Settles O23: the three refusals of `hostRequest`'s tag test, for the request of every kind. -/
theorem tagTestRefusals : Obligations.TagTestRefusals := by
  intro kind tag body c s hc hdeaf hunting refused
  obtain ⟨α, fields, act, hexec, -⟩ := exec_request hc
  have hreply := replyKind_request (bodyLength_of_requestOf hc)
  refine ⟨fun hz => ?_, fun hz hin => ?_, fun hz hin hfull => ?_⟩
  · rw [hexec, hostRequest_tagZero hdeaf hz, hreply]
    rfl
  · rw [hexec, hostRequest_duplicate hdeaf hz hin, hreply]
    rfl
  · rw [hexec, hostRequest_full hdeaf hz hin hfull, hreply]
    rfl

end Sys2Proof.Machine
end

section
/-! ATTN_N (O5): what each operation of the part does to the pin. The pin and the notice set change together, by a raising or by
TAKE-NOTICES; the phase changes at the end of start-up, which raises STARTED, and else only outside start-up. The laws of the
books and of the limits say nothing of the notice set, so the pin is followed through the operations here. -/

namespace Sys2Proof.Machine
open Sys2Proof Sys2Proof.Safety

/-! ### The law and the shared operations -/

/-- All that the law of ATTN_N looks at (R163). -/
def attnView (s : State) := (s.jc.phase, s.jc.format, s.hlp.notices, s.hlp.attnLow)

section Attn
variable {s t : State}

theorem attnOk_frame (h : AttnOk s) (hview : attnView t = attnView s) : AttnOk t := by
  simp only [attnView, Prod.mk.injEq] at hview
  obtain ⟨hphase, hformat, hnotices, hattn⟩ := hview
  rw [AttnOk, hphase, hformat, hnotices, hattn]
  exact h

/-- The phase moves, and FORMAT starts or ends, outside start-up alone (R170 to R172, R175). There the law looks at the link
only. -/
theorem attnOk_outside (h : AttnOk s) (hs : s.jc.phase ≠ .startup) (ht : t.jc.phase ≠ .startup) (hlink : t.hlp = s.hlp) :
    AttnOk t := by
  obtain ⟨-, hattn⟩ := h
  refine ⟨fun hstart => absurd hstart ht, ?_⟩
  rw [hlink, hattn, decide_eq_true hs, decide_eq_true ht]

/-- A FORMAT in progress means that start-up has ended (R171). -/
theorem attnOk_formatting {job : FormatJob} (h : AttnOk s) (hf : s.jc.format = some job) : s.jc.phase ≠ .startup := by
  obtain ⟨hnone, -⟩ := h
  intro hstart
  rw [hnone hstart] at hf
  cases hf

/-- A raising leaves a notice pending, and pulls the pin low once start-up has ended (R163). -/
theorem attnOk_raise {f : Notices → Notices} (h : AttnOk s) (hf : (f s.hlp.notices).none? = false) : AttnOk (raise f s) := by
  obtain ⟨hformat, hattn⟩ := h
  refine ⟨hformat, ?_⟩
  rw [raise_attnLow, raise_notices, raise_jc, hf, hattn]
  cases s.jc.phase <;> cases s.hlp.notices.none? <;> rfl

theorem attnOk_raiseStoreFault {region : Region} {j : Nat} (h : AttnOk s) : AttnOk (raiseStoreFault region j s) :=
  attnOk_raise h (by simp [Notices.none?])

theorem attnOk_raiseStationChange {n e : Nat} {st : StationState} (h : AttnOk s) : AttnOk (raiseStationChange n e st s) :=
  attnOk_raise h (by simp [Notices.none?])

theorem attnOk_raiseHoldsExpired (h : AttnOk s) : AttnOk (raiseHoldsExpired s) := attnOk_raise h (by simp [Notices.none?])

theorem attnOk_discardReply {n e : Nat} {r : Reply} (h : AttnOk s) : AttnOk (discardReply n e r s) :=
  attnOk_raise (attnOk_frame h rfl) (by simp [Notices.none?])

theorem attnOk_abortSweep (h : AttnOk s) : AttnOk (abortSweep s) := by
  unfold abortSweep
  split
  · exact h
  · exact attnOk_raise (attnOk_frame h rfl) (by simp [Notices.none?])

/-- Start-up ends with STARTED raised (R130, R163, R169). -/
theorem attnOk_endStart {phase : Phase} (hphase : phase ≠ .startup) (epoch recovered : Nat) (s : State) :
    AttnOk (endStart phase epoch recovered s) := by
  refine ⟨fun hstart => absurd hstart hphase, ?_⟩
  have hpending : (endStart phase epoch recovered s).hlp.notices.none? = false := by simp [endStart, Notices.none?]
  have hlow : (endStart phase epoch recovered s).hlp.attnLow = (s.hlp.attnLow || decide (phase ≠ .startup)) := rfl
  rw [hpending, hlow, endStart_phase, decide_eq_true hphase, Bool.or_true]
  rfl

theorem attnOk_storeOp (op : PortOp) (h : AttnOk s) : AttnOk (storeOp op s) := attnOk_frame h (by simp [attnView])

theorem attnOk_leaveOp (op : PortOp) (left : Residue) (h : AttnOk s) : AttnOk (leaveOp op left s) :=
  attnOk_frame h (by simp [attnView])

theorem attnOk_issue {op : PortOp} (h : AttnOk s) : AttnOk (issue op s) := attnOk_frame h (by simp [attnView])

theorem attnOk_sendLink {tag : Nat} {reply : Reply} (h : AttnOk s) : AttnOk (sendLink tag reply s) := attnOk_frame h rfl

theorem attnOk_sendStation {n e : Nat} {reply : Reply} (h : AttnOk s) : AttnOk (sendStation n e reply s) := by
  unfold sendStation
  split
  · exact attnOk_discardReply h
  · exact attnOk_discardReply h
  · exact attnOk_frame h rfl

theorem attnOk_sendReply {o : Origin} {reply : Reply} (h : AttnOk s) : AttnOk (sendReply o reply s) := by
  cases o with
  | link tag => exact attnOk_sendLink h
  | station n e => exact attnOk_sendStation h

/-! ### Card locks (R21 to R24) -/

theorem attnOk_answerOwner {k : Nat} {req : CardReq} {reply : Reply} (h : AttnOk s) : AttnOk (answerOwner k req reply s) :=
  attnOk_frame (attnOk_sendReply (o := req.origin) (reply := reply) h) (by simp [attnView, answerOwner])

theorem attnOk_seekLock {req : CardReq} (h : AttnOk s) : AttnOk (seekLock req s) := by
  unfold seekLock
  split
  · split
    · split
      · exact attnOk_frame h rfl
      · exact attnOk_sendReply h
    · exact h
  · split
    · exact attnOk_frame h (by simp [attnView])
    · exact attnOk_sendReply h

theorem attnOk_takeCardRequest {req : CardReq} (h : AttnOk s) : AttnOk (takeCardRequest req s) := by
  unfold takeCardRequest
  split
  · exact attnOk_sendReply h
  · exact attnOk_seekLock h

theorem attnOk_setDoing {k : Nat} {d : Deciding} (h : AttnOk s) : AttnOk (setDoing k d s) := attnOk_frame h (by simp [attnView])

/-! ### Refused records, and the port's next access (R46, R112, R117) -/

theorem attnOk_refuseItem {item : AppendItem} {st : Status} {reason journal : Nat} {extra : List Byte} (h : AttnOk s) :
    AttnOk (refuseItem item st reason extra journal s) := by
  cases item with
  | movement k m => exact attnOk_answerOwner (attnOk_frame h (by simp [attnView]))
  | admin tag k m => exact attnOk_sendLink h
  | cutoff tag => exact attnOk_sendLink h

theorem attnOk_portLoop (fuel : Nat) (h : AttnOk s) : AttnOk (portLoop fuel s) := by
  induction fuel generalizing s with
  | zero => exact attnOk_frame h rfl
  | succ fuel ih =>
    have hqueued : AttnOk (queueAppend s) := attnOk_frame h (by simp [attnView])
    simp only [portLoop]
    generalize queueAppend s = u at hqueued
    split
    · exact attnOk_frame hqueued rfl
    split
    · split
      · exact ih (attnOk_frame hqueued rfl)
      split
      · exact attnOk_frame hqueued rfl
      · exact ih (attnOk_refuseItem (attnOk_frame hqueued rfl))
    · exact attnOk_frame hqueued rfl

theorem attnOk_portNext {n : Nat} (h : AttnOk s) : AttnOk (portNext n s) := attnOk_portLoop _ h

theorem attnOk_issueDue (h : AttnOk s) : AttnOk (issueDue s) := by
  unfold issueDue
  split
  · split
    · exact attnOk_portNext h
    · exact attnOk_frame h (by simp [attnView])
  · exact h

theorem attnOk_joinAppend {item : AppendItem} (h : AttnOk s) : AttnOk (joinAppend item s) := by
  unfold joinAppend
  split
  · exact attnOk_refuseItem h
  · exact attnOk_issueDue (attnOk_frame h rfl)

/-! ### Totals writes, advice, and store FAULT (R123, R125, R126, R131) -/

theorem attnOk_requestTotals {job : TotalsJob} (h : AttnOk s) : AttnOk (requestTotals job s) :=
  attnOk_frame h (by simp [attnView])

theorem attnOk_nextTotals (h : AttnOk s) : AttnOk (nextTotals s) := attnOk_frame h (by simp [attnView])

theorem attnOk_answerAdvice {tag : Nat} {reply : Reply} (h : AttnOk s) : AttnOk (answerAdvice tag reply s) :=
  attnOk_frame h (by simp [attnView])

/-- FAULT raises STORE-FAULT; as it is entered it may discard replies and abort the sweep, which raise their own notices
(R125, R126, R141, R152). -/
theorem attnOk_enterFault {region : Region} {j : Nat} (h : AttnOk s) : AttnOk (enterFault region j s) := by
  have hraised : AttnOk (raiseStoreFault region j s) := attnOk_raiseStoreFault h
  cases hs : s.jc.store with
  | fault => rw [enterFault_again _ _ _ hs]; exact hraised
  | normal =>
    rw [enterFault_first _ _ _ hs]
    have hended : AttnOk (abortSweep { raiseStoreFault region j s with jc := { s.jc with store := .fault } }) :=
      attnOk_abortSweep (attnOk_frame hraised rfl)
    generalize abortSweep _ = u at hended
    have hrefused : AttnOk (refuseUnissued u) :=
      List.foldlRecOn _ _ (attnOk_frame hended rfl) fun _ hv _ _ => attnOk_refuseItem hv
    exact attnOk_frame hrefused (by simp [attnView])

/-! ### The ends of an accrual, a walk and a recovery (R88, R102, R129) -/

theorem attnOk_finishRecovery (h : AttnOk s) : AttnOk (finishRecovery s) := by
  unfold finishRecovery
  split
  · exact attnOk_issue (attnOk_frame h rfl)
  · exact attnOk_issue (attnOk_frame h rfl)

theorem attnOk_endRecoveryIfStarting (h : AttnOk s) : AttnOk (endRecoveryIfStarting s) := by
  unfold endRecoveryIfStarting
  split
  · exact attnOk_finishRecovery h
  · exact h

theorem attnOk_recoverNext {todo : List JBody} (h : AttnOk s) : AttnOk (recoverNext todo s) := by
  unfold recoverNext
  split
  · exact attnOk_finishRecovery h
  split
  · exact attnOk_issue (attnOk_frame h rfl)
  · exact attnOk_frame h rfl

theorem attnOk_stopAccrual (h : AttnOk s) : AttnOk (stopAccrual s) := attnOk_endRecoveryIfStarting (attnOk_frame h rfl)

theorem attnOk_stopWalk (h : AttnOk s) : AttnOk (stopWalk s) := attnOk_endRecoveryIfStarting (attnOk_frame h rfl)

theorem attnOk_failAccrual {region : Region} {j : Nat} (h : AttnOk s) : AttnOk (failAccrual region j s) :=
  attnOk_stopAccrual (attnOk_enterFault h)

theorem attnOk_failWalk {region : Region} {j : Nat} (h : AttnOk s) : AttnOk (failWalk region j s) :=
  attnOk_stopWalk (attnOk_enterFault h)

/-! ### Accruals (R82 to R89) -/

theorem attnOk_accrualTotals {a : Accrual} (h : AttnOk s) : AttnOk (accrualTotals a s) := by
  unfold accrualTotals
  dsimp only
  split
  · exact attnOk_issue (attnOk_frame h rfl)
  split
  · exact attnOk_requestTotals (attnOk_frame h rfl)
  · exact attnOk_failAccrual h

theorem attnOk_endStage1 {a : Accrual} (h : AttnOk s) : AttnOk (endStage1 a s) := by
  unfold endStage1
  split
  · exact attnOk_accrualTotals h
  · exact attnOk_stopAccrual h

theorem attnOk_beginAccrual {b : JBody} (h : AttnOk s) : AttnOk (beginAccrual b s) := by
  unfold beginAccrual
  dsimp only
  split
  · exact attnOk_issue (attnOk_frame h rfl)
  · exact attnOk_accrualTotals h

theorem attnOk_accrualRead {a : Accrual} {m : Nat} (h : AttnOk s) : AttnOk (accrualRead a m s) := by
  unfold accrualRead
  dsimp only
  split
  · exact attnOk_failAccrual h
  split
  · exact attnOk_endStage1 h
  split
  · exact attnOk_issue (attnOk_frame h rfl)
  · exact attnOk_failAccrual h

/-! ### The close walk and the rebuild of a list (R95 to R102, R109) -/

theorem attnOk_walkTo {w : Walk} {g m : Nat} (h : AttnOk s) : AttnOk (walkTo w g m s) := attnOk_issue (attnOk_frame h rfl)

theorem attnOk_endWalk {w : Walk} (h : AttnOk s) : AttnOk (endWalk w s) := by
  unfold endWalk
  split
  · exact attnOk_failWalk h
  · exact attnOk_requestTotals (attnOk_frame h rfl)

theorem attnOk_walkOn {w : Walk} (h : AttnOk s) : AttnOk (walkOn w s) := by
  unfold walkOn
  split
  · exact attnOk_walkTo h
  split
  · exact attnOk_failWalk h
  split
  · exact attnOk_walkTo (attnOk_frame h rfl)
  · exact attnOk_endWalk (attnOk_frame h rfl)

theorem attnOk_walkMerchant {w : Walk} {m : Nat} {record : MerchantRec} (h : AttnOk s) :
    AttnOk (walkMerchant w m record s) := by
  unfold walkMerchant
  dsimp only
  split
  · split
    · exact attnOk_walkOn (attnOk_frame h rfl)
    · exact attnOk_walkOn h
  split
  · exact attnOk_walkOn h
  split
  · exact attnOk_walkOn h
  split
  · exact attnOk_issue h
  · exact attnOk_failWalk h

theorem attnOk_walkRead {w : Walk} {m : Nat} (h : AttnOk s) : AttnOk (walkRead w m s) := by
  unfold walkRead
  split
  · exact attnOk_failWalk h
  split
  · exact attnOk_stopWalk h
  · exact attnOk_walkMerchant h

theorem attnOk_walkWritten {w : Walk} {m : Nat} {record : MerchantRec} (h : AttnOk s) : AttnOk (walkWritten w m record s) := by
  have hgoes {u : State} (hu : AttnOk u) :
      AttnOk (match u.jc.store with | .normal => walkOn w u | .fault => stopWalk u) := by
    split
    · exact attnOk_walkOn hu
    · exact attnOk_stopWalk hu
  refine hgoes ?_
  split
  all_goals
    split
    · exact attnOk_frame h rfl
    · exact attnOk_frame h rfl

theorem attnOk_endRebuild {st : ListState} (h : AttnOk s) : AttnOk (endRebuild st s) := attnOk_issue (attnOk_frame h rfl)

theorem attnOk_failRebuild (h : AttnOk s) : AttnOk (failRebuild s) := attnOk_endRebuild (attnOk_enterFault h)

theorem attnOk_rebuildOn {g m : Nat} (h : AttnOk s) : AttnOk (rebuildOn g m s) := by
  unfold rebuildOn
  dsimp only
  split
  · exact attnOk_issue (attnOk_frame h rfl)
  split
  · exact attnOk_failRebuild h
  split
  · exact attnOk_issue (attnOk_frame h rfl)
  split
  · exact attnOk_failRebuild (attnOk_frame h rfl)
  · exact attnOk_endRebuild (attnOk_frame h rfl)

theorem attnOk_rebuildRead {g m : Nat} (h : AttnOk s) : AttnOk (rebuildRead g m s) := by
  unfold rebuildRead
  split
  · exact attnOk_failRebuild h
  split
  · split
    · exact attnOk_rebuildOn (attnOk_frame h rfl)
    · exact attnOk_rebuildOn h
  · exact attnOk_rebuildOn h

/-! ### Totals writes, reads of the books, advice and commit marks (R90, R122, R123, R131, R134) -/

theorem attnOk_loadEpoch {epoch : Nat} (h : AttnOk s) : AttnOk (loadEpoch epoch s) := attnOk_issue (attnOk_frame h rfl)

theorem attnOk_totalsWritten {job : TotalsJob} {copy : Totals} (h : AttnOk s) : AttnOk (totalsWritten job copy s) := by
  unfold totalsWritten
  split
  · exact attnOk_loadEpoch h
  · split
    · exact attnOk_issue h
    · exact attnOk_stopAccrual h
  · split
    · exact attnOk_issue h
    · exact attnOk_stopWalk h
  · exact attnOk_sendLink (attnOk_frame h rfl)
  · exact attnOk_answerAdvice (attnOk_frame h rfl)

theorem attnOk_totalsFailed {job : TotalsJob} {copy : Totals} {earlier : Nat} (h : AttnOk s) :
    AttnOk (totalsFailed job copy earlier s) := by
  unfold totalsFailed
  split
  · exact attnOk_loadEpoch (attnOk_enterFault h)
  · exact attnOk_failAccrual h
  · exact attnOk_failWalk h
  · exact attnOk_sendLink (attnOk_frame (attnOk_enterFault h) rfl)
  · exact attnOk_answerAdvice (attnOk_frame (attnOk_enterFault h) rfl)

theorem attnOk_totalsRead {tag : Nat} (h : AttnOk s) : AttnOk (totalsRead tag s) := by
  unfold totalsRead
  dsimp only
  split
  · exact attnOk_sendLink h
  · exact attnOk_sendLink (attnOk_enterFault h)

theorem attnOk_statusRead {tag m : Nat} (h : AttnOk s) : AttnOk (statusRead tag m s) := by
  unfold statusRead
  split
  · exact attnOk_sendLink h
  · exact attnOk_sendLink (attnOk_enterFault h)

theorem attnOk_takeAdvice {tag count : Nat} (h : AttnOk s) : AttnOk (takeAdvice tag count s) := by
  unfold takeAdvice
  split
  · exact attnOk_frame h (by simp [attnView])
  · exact attnOk_frame h rfl

theorem attnOk_endAdviceReads {job : AdviceJob} (h : AttnOk s) : AttnOk (endAdviceReads job s) := by
  unfold endAdviceReads
  split
  · exact attnOk_answerAdvice h
  · exact attnOk_requestTotals (attnOk_frame h rfl)

theorem attnOk_adviceSlot {job : AdviceJob} {bs : List Byte} (h : AttnOk s) : AttnOk (adviceSlot job bs s) := by
  unfold adviceSlot
  dsimp only
  split
  · exact attnOk_endAdviceReads h
  split
  · exact attnOk_issue (attnOk_frame h rfl)
  · exact attnOk_endAdviceReads h

theorem attnOk_adviceRead {job : AdviceJob} {j : Nat} (h : AttnOk s) : AttnOk (adviceRead job j s) := by
  unfold adviceRead
  dsimp only
  split
  · exact attnOk_answerAdvice (attnOk_enterFault h)
  split
  · exact attnOk_answerAdvice h
  · exact attnOk_adviceSlot h

theorem attnOk_recoverOn (h : AttnOk s) : AttnOk (recoverOn s) := by
  unfold recoverOn
  split
  · exact attnOk_recoverNext (attnOk_frame h rfl)
  · exact h

/-- The walk's end raises CLOSE-DONE (R100). -/
theorem attnOk_finishWalk {w : Walk} (h : AttnOk s) : AttnOk (finishWalk w s) :=
  attnOk_raise (attnOk_frame h rfl) (by simp [Notices.none?])

theorem attnOk_committed {j : Nat} (h : AttnOk s) : AttnOk (committed j s) := by
  unfold committed
  refine attnOk_recoverOn ?_
  split
  · split
    · exact attnOk_finishWalk (attnOk_frame h rfl)
    · exact attnOk_frame h rfl
  · exact attnOk_frame h rfl

theorem attnOk_commitFailed {j : Nat} (h : AttnOk s) : AttnOk (commitFailed j s) :=
  attnOk_endRecoveryIfStarting (attnOk_frame (attnOk_enterFault h) rfl)

/-! ### The payout list and the audit sweep (R104 to R106, R135 to R141) -/

theorem attnOk_readPayoutEntry {tag : Nat} (h : AttnOk s) : AttnOk (readPayoutEntry tag s) := by
  unfold readPayoutEntry
  dsimp only
  split
  · exact attnOk_sendLink h
  all_goals
    split
    · exact attnOk_sendLink (attnOk_frame h rfl)
    · exact attnOk_sendLink h

theorem attnOk_releaseList {tag : Nat} (h : AttnOk s) : AttnOk (releaseList tag s) := by
  unfold releaseList
  split
  · exact attnOk_sendLink h
  split
  · exact attnOk_sendLink h
  · exact attnOk_requestTotals (attnOk_frame h rfl)

theorem attnOk_issueSweepRead (h : AttnOk s) : AttnOk (issueSweepRead s) := attnOk_issue (attnOk_frame h rfl)

theorem attnOk_startSweep {tag : Nat} (h : AttnOk s) : AttnOk (startSweep tag s) := by
  unfold startSweep
  dsimp only
  split
  · exact attnOk_sendLink h
  split
  · exact attnOk_sendLink h
  refine attnOk_sendLink ?_
  split
  · exact attnOk_frame h rfl
  · exact attnOk_issueSweepRead (attnOk_frame h rfl)

theorem attnOk_stopSweep {tag : Nat} (h : AttnOk s) : AttnOk (stopSweep tag s) := by
  unfold stopSweep
  split
  · exact attnOk_sendLink (attnOk_abortSweep h)
  · exact attnOk_sendLink h

theorem attnOk_sweepAdd {slot : Nat} (h : AttnOk s) : AttnOk (sweepAdd slot s) := by
  unfold sweepAdd
  split
  · exact attnOk_frame h rfl
  · exact attnOk_raiseStoreFault (attnOk_frame h rfl)

/-- The sweep's end raises SWEEP-DONE (R139). -/
theorem attnOk_endSweep (h : AttnOk s) : AttnOk (endSweep s) := attnOk_raise (attnOk_frame h rfl) (by simp [Notices.none?])

theorem attnOk_sweepOn {slot : Nat} (h : AttnOk s) : AttnOk (sweepOn slot s) := by
  have hcursor : AttnOk { s with asu := { s.asu with outstanding := false, cursor := s.asu.cursor + 1 } } :=
    attnOk_frame h rfl
  have hadd := attnOk_sweepAdd (slot := slot) hcursor
  unfold sweepOn
  dsimp only
  split
  · exact attnOk_endSweep hadd
  · exact attnOk_issueSweepRead hadd

theorem attnOk_sweepRead {slot : Nat} (h : AttnOk s) : AttnOk (sweepRead slot s) := by
  unfold sweepRead
  split
  · unfold dropStale
    dsimp only
    split
    · exact attnOk_issueSweepRead (attnOk_frame h rfl)
    · exact attnOk_frame h rfl
  split
  · exact attnOk_sweepOn h
  · exact attnOk_frame h rfl

/-! ### Start-up (R127 to R130) -/

theorem attnOk_startupTotals (h : AttnOk s) : AttnOk (startupTotals s) := by
  unfold startupTotals
  dsimp only
  split
  · exact attnOk_endStart (phase := .unformatted) nofun 0 0 s
  split
  · exact attnOk_endStart (phase := .setup) nofun 0 0 _
  · exact attnOk_requestTotals (attnOk_frame h rfl)

theorem attnOk_loadItem (i : ConfigItem) (h : AttnOk s) : AttnOk (loadItem i s) := by
  cases i <;> exact attnOk_frame h rfl

theorem attnOk_loadConfig {k : Nat} (h : AttnOk s) : AttnOk (loadConfig k s) := by
  unfold loadConfig
  split
  · exact attnOk_loadItem _ h
  · exact attnOk_raiseStoreFault h

theorem attnOk_startupConfig {k : Nat} (h : AttnOk s) : AttnOk (startupConfig k s) := by
  have hload := attnOk_loadConfig (k := k) h
  unfold startupConfig
  dsimp only
  split
  · exact attnOk_issue (attnOk_frame hload rfl)
  · exact attnOk_issue (attnOk_frame hload rfl)

theorem attnOk_endScan {n : Nat} {found : List JBody} (h : AttnOk s) : AttnOk (endScan n found s) := by
  unfold endScan
  split
  · exact attnOk_finishRecovery (attnOk_frame (attnOk_enterFault h) rfl)
  dsimp only
  split
  · exact attnOk_recoverNext (attnOk_frame h rfl)
  · exact attnOk_finishRecovery (attnOk_frame h rfl)

theorem attnOk_scanSlot {n : Nat} {found : List JBody} (h : AttnOk s) : AttnOk (scanSlot n found s) := by
  unfold scanSlot
  dsimp only
  split
  · exact attnOk_issue (attnOk_frame h rfl)
  · exact attnOk_endScan h

theorem attnOk_cardStepDone (h : AttnOk s) : AttnOk (cardStepDone s) := by
  unfold cardStepDone
  split
  · exact attnOk_frame h rfl
  · exact h

theorem attnOk_recoverCard {b : JBody} (h : AttnOk s) : AttnOk (recoverCard b s) := by
  unfold recoverCard
  dsimp only
  split
  · exact attnOk_cardStepDone h
  · exact attnOk_issue h

theorem attnOk_loadAdmission {m : Nat} (h : AttnOk s) : AttnOk (loadAdmission m s) := by
  unfold loadAdmission
  split
  · exact attnOk_frame h rfl
  · exact attnOk_frame (attnOk_enterFault h) rfl

theorem attnOk_admissionOn {m : Nat} (h : AttnOk s) : AttnOk (admissionOn m s) := by
  have hload := attnOk_loadAdmission (m := m) h
  unfold admissionOn
  generalize loadAdmission m s = u at hload
  dsimp only
  split
  · exact attnOk_issue (attnOk_frame hload rfl)
  · exact attnOk_endStart (phase := .setup) nofun _ _ _

/-! ### The requests of R170 -/

/-- Start-up answers every request of R170 BUSY (R170). -/
theorem cfgPhase_taken {what : ConfigWhat} {phase : Phase} (h : cfgPhase what phase = none) : phase ≠ .startup := by
  rintro rfl
  cases h

theorem attnOk_issueFormat {job : FormatJob} (h : AttnOk s) (hs : s.jc.phase ≠ .startup) : AttnOk (issueFormat job s) :=
  attnOk_issue (attnOk_outside h hs hs rfl)

theorem attnOk_openService {tag : Nat} (h : AttnOk s) (hs : s.jc.phase ≠ .startup) : AttnOk (openService tag s) := by
  unfold openService
  split
  · exact attnOk_sendLink h
  · exact attnOk_sendLink (attnOk_outside h hs nofun rfl)

theorem attnOk_startCfg {q : ConfigReq} (h : AttnOk s) : AttnOk (startCfg q s).1 := by
  unfold startCfg
  dsimp only
  split
  · exact attnOk_sendLink h
  next hphase =>
  have hs := cfgPhase_taken hphase
  split
  · exact attnOk_openService h hs
  · split
    · exact attnOk_sendLink h
    · exact attnOk_issueFormat h hs
  · split
    · exact attnOk_sendLink h
    · exact attnOk_issue h
  · split
    · exact attnOk_sendLink h
    split
    · exact attnOk_sendLink h
    · exact attnOk_issue h

theorem attnOk_runCfg (l : List ConfigReq) (h : AttnOk s) : AttnOk (runCfg l s) := by
  induction l generalizing s with
  | nil => exact attnOk_frame h rfl
  | cons q rest ih =>
    unfold runCfg
    dsimp only
    split
    · exact attnOk_frame (attnOk_startCfg (q := q) h) rfl
    · exact ih (attnOk_startCfg h)

theorem attnOk_takeCfg {kind tag : Nat} {what : ConfigWhat} (h : AttnOk s) : AttnOk (takeCfg kind tag what s) := by
  unfold takeCfg
  dsimp only
  split
  · exact attnOk_runCfg _ h
  · exact attnOk_frame h rfl

theorem attnOk_answerCfg {st : Status} {figures : List Byte} (h : AttnOk s) : AttnOk (answerCfg st figures s) := by
  unfold answerCfg
  split
  · exact attnOk_runCfg _ (attnOk_sendLink h)
  · exact h

theorem attnOk_itemWritten (i : ConfigItem) (h : AttnOk s) : AttnOk (itemWritten i s) :=
  attnOk_answerCfg (attnOk_loadItem i (attnOk_storeOp _ h))

theorem attnOk_setMerchantRead {tag m cls group : Nat} (h : AttnOk s) : AttnOk (setMerchantRead tag m cls group s) := by
  unfold setMerchantRead
  split
  · exact attnOk_answerCfg (attnOk_enterFault h)
  · exact attnOk_answerCfg h
  · exact attnOk_issue h

theorem attnOk_setMerchantWritten {tag m : Nat} {before : MerchantState} {record : MerchantRec} (h : AttnOk s) :
    AttnOk (setMerchantWritten tag m before record s) :=
  attnOk_answerCfg (attnOk_frame (attnOk_storeOp (.setMerchantWrite tag m before record) h) (by simp [attnView]))

/-- FORMAT's end finds the part outside start-up, as its writes do (R171, R172). -/
theorem attnOk_formatDone {job : FormatJob} (h : AttnOk s) (hs : s.jc.phase ≠ .startup) : AttnOk (formatDone job s) := by
  have hfresh : AttnOk { freshBooks job s with jc := { (freshBooks job s).jc with phase := .setup } } :=
    attnOk_outside h hs (by simp) (freshBooks_hlp job s)
  exact attnOk_answerCfg hfresh

theorem attnOk_formatDoneFault {job : FormatJob} (h : AttnOk s) (hs : s.jc.phase ≠ .startup) :
    AttnOk (formatDoneFault job s) := by
  have hfresh : AttnOk (freshBooks job s) := attnOk_outside h hs (by simpa using hs) (freshBooks_hlp job s)
  exact attnOk_frame hfresh (by simp [attnView, formatDoneFault])

theorem attnOk_formatWritten {job : FormatJob} (h : AttnOk s) (hs : s.jc.phase ≠ .startup) : AttnOk (formatWritten job s) := by
  unfold formatWritten
  dsimp only
  split
  · exact attnOk_issueFormat h hs
  split
  · exact attnOk_issueFormat h hs
  split
  · exact attnOk_formatDone h hs
  · exact attnOk_formatDoneFault h hs

theorem attnOk_formatFailed {job : FormatJob} (h : AttnOk s) (hs : s.jc.phase ≠ .startup) : AttnOk (formatFailed job s) :=
  attnOk_answerCfg (attnOk_outside (attnOk_enterFault h) (by rwa [enterFault_jc_phase]) nofun rfl)

/-! ### Decisions, holds, and the completions of appends and card writes (R11, R31, R37, R47, R48, R117, R118) -/

theorem attnOk_carryOut {k : Nat} {req : CardReq} {card : CardRec} {v : Verdict} (h : AttnOk s) :
    AttnOk (carryOut k req card v s) := by
  cases v with
  | answer reply => exact attnOk_answerOwner h
  | enter p => exact attnOk_setDoing h
  | claim => exact attnOk_setDoing h
  | move m => exact attnOk_joinAppend (attnOk_setDoing h)

theorem attnOk_releaseHold {k : Nat} {req : CardReq} {card : CardRec} (h : AttnOk s) : AttnOk (releaseHold k req card s) := by
  unfold releaseHold
  split
  · split
    · exact attnOk_answerOwner (attnOk_frame h rfl)
    · exact attnOk_answerOwner h
  · exact attnOk_answerOwner h

theorem attnOk_decideCard {k : Nat} {req : CardReq} {card : CardRec} (h : AttnOk s) : AttnOk (decideCard k req card s) := by
  cases hk : req.kind with
  | release => rw [decideCard_release hk]; exact attnOk_releaseHold h
  | balance => rw [decideCard_balance hk]; exact attnOk_answerOwner h
  | activate | load | hold | capture | redeem | void | refund | cashOut | block | unblock =>
    simp only [decideCard, hk]; exact attnOk_carryOut h

/-- A card that reads badly raises STORE-FAULT without a FAULT of the store (R11). -/
theorem attnOk_cardRead {k slot : Nat} (h : AttnOk s) : AttnOk (cardRead k slot s) := by
  unfold cardRead
  split
  · exact h
  split
  · exact attnOk_answerOwner (attnOk_raiseStoreFault h)
  split
  · exact attnOk_answerOwner h
  · exact attnOk_decideCard h

theorem attnOk_expireHold {epoch serial : Nat} (h : AttnOk s) : AttnOk (expireHold epoch serial s) := by
  unfold expireHold
  split
  · split
    · exact attnOk_raiseHoldsExpired (attnOk_frame h rfl)
    · exact h
  · exact h

theorem attnOk_holdArrives {k : Nat} (h : AttnOk s) : AttnOk (holdArrives k s) := by
  unfold holdArrives
  split
  · split
    · unfold enterHold
      split
      · exact attnOk_answerOwner h
      · exact attnOk_answerOwner (attnOk_frame h rfl)
    · exact h
  · exact h

theorem attnOk_claimHold {k : Nat} {req : CardReq} {card : CardRec} (h : AttnOk s) : AttnOk (claimHold k req card s) := by
  unfold claimHold
  dsimp only
  split
  · split
    · exact attnOk_carryOut h
    split
    · exact attnOk_answerOwner h
    split
    · exact attnOk_answerOwner h
    · exact attnOk_carryOut (attnOk_frame h rfl)
  · exact attnOk_carryOut h

theorem attnOk_claimArrives {k : Nat} (h : AttnOk s) : AttnOk (claimArrives k s) := by
  unfold claimArrives
  split
  · split
    · exact attnOk_claimHold h
    · exact h
  · exact h

/-- Before its reply a completed movement changes the sweep, the holds and the ring (R47, R138). -/
theorem attnOk_cardWritten {k j p : Nat} {m : Movement} (h : AttnOk s) : AttnOk (cardWritten k m j p s) := by
  have hstored := attnOk_storeOp (.cardWrite k m j p) h
  unfold cardWritten
  generalize storeOp (.cardWrite k m j p) s = u at hstored
  have hbefore : AttnOk (completeRing m j p (completeHolds m (sweepAdjust m.req.slot m.paidDelta m.bonusDelta u))) :=
    attnOk_frame hstored (by simp [attnView])
  exact attnOk_frame (attnOk_answerOwner hbefore) rfl

theorem attnOk_cardWriteFailed {k j p : Nat} {m : Movement} {left : Residue} (h : AttnOk s) :
    AttnOk (cardWriteFailed k m j p left s) := by
  have hfault : AttnOk (enterFault .cards j (leaveOp (.cardWrite k m j p) left s)) :=
    attnOk_enterFault (attnOk_leaveOp _ left h)
  exact attnOk_answerOwner (attnOk_frame hfault (by simp [attnView]))

/-- JOURNAL-HIGH is raised, or takes a new count while it is pending, which leaves the pin as it is (R124, R163). -/
theorem attnOk_noteUntaken (h : AttnOk s) : AttnOk (noteUntaken s) := by
  unfold noteUntaken
  split
  · exact attnOk_raise h (by simp [Notices.none?])
  split
  · next hhigh =>
    obtain ⟨hformat, hattn⟩ := h
    have hpending : s.hlp.notices.none? = false := by
      refine beq_eq_false_iff_ne.mpr fun hnone => ?_
      rw [hnone] at hhigh
      cases hhigh
    have hstill : Notices.none? { s.hlp.notices with journalHigh := some s.jc.untaken } = false := by simp [Notices.none?]
    rw [hpending] at hattn
    refine ⟨hformat, ?_⟩
    rw [hstill]
    exact hattn
  · exact h

theorem attnOk_countAppend {rest : List AppendItem} (h : AttnOk s) : AttnOk (countAppend rest s) :=
  attnOk_noteUntaken (attnOk_frame h rfl)

theorem attnOk_afterAppend {item : AppendItem} {b : JBody} (h : AttnOk s) : AttnOk (afterAppend item b s) := by
  cases item with
  | movement k m => exact attnOk_issue h
  | admin tag k m => exact attnOk_frame h rfl
  | cutoff tag => exact attnOk_frame h rfl

theorem attnOk_appendWritten {b : JBody} (h : AttnOk s) : AttnOk (appendWritten b s) := by
  have hstored := attnOk_storeOp (.appendWrite b) h
  unfold appendWritten
  generalize storeOp (.appendWrite b) s = u at hstored
  dsimp only
  split
  · exact hstored
  split
  · exact attnOk_afterAppend (attnOk_countAppend hstored)
  · exact attnOk_refuseItem (attnOk_frame hstored rfl)

theorem attnOk_appendFailed {b : JBody} {left : Residue} (h : AttnOk s) : AttnOk (appendFailed b left s) := by
  have hfault : AttnOk (enterFault .journal b.number (leaveOp (.appendWrite b) left s)) :=
    attnOk_enterFault (attnOk_leaveOp _ left h)
  unfold appendFailed
  dsimp only
  split
  · exact hfault
  · exact attnOk_refuseItem (attnOk_frame hfault rfl)

/-! ### The till lines (R146 to R154) -/

theorem attnOk_closeOffer {n e : Nat} {outcome : State → State}
    (houtcome : ∀ {u}, AttnOk u → AttnOk (outcome u)) (h : AttnOk s) :
    AttnOk (closeOffer n e outcome s) := by
  unfold closeOffer
  dsimp only
  split
  · exact attnOk_frame h rfl
  · exact attnOk_frame (houtcome h) rfl

theorem attnOk_applyGood {n e : Nat} (h : AttnOk s) : AttnOk (applyGood n e s) := by
  unfold applyGood
  dsimp only
  split
  · exact attnOk_raiseStationChange (attnOk_frame h rfl)
  · exact attnOk_frame h rfl

theorem attnOk_stationAsks {n e : Nat} {kind : Byte} {body : List Byte} (h : AttnOk s) :
    AttnOk (stationAsks n e kind body s) := by
  unfold stationAsks
  dsimp only
  split
  · exact attnOk_frame h rfl
  split
  · exact attnOk_takeCardRequest (attnOk_frame h rfl)
  · exact attnOk_sendStation (attnOk_frame h rfl)

theorem attnOk_applyAnswer {n e : Nat} {a : Answer} (h : AttnOk s) : AttnOk (applyAnswer n e a s) := by
  cases a with
  | pass => exact attnOk_applyGood h
  | request kind body => exact attnOk_stationAsks (attnOk_applyGood h)

theorem attnOk_goodAnswer {n : Nat} {frame : List Byte} (h : AttnOk s) : AttnOk (goodAnswer n frame s) := by
  unfold goodAnswer
  split
  · split
    · exact attnOk_closeOffer attnOk_applyAnswer h
    · exact h
  · exact h

theorem attnOk_applyMiss {n e : Nat} (h : AttnOk s) : AttnOk (applyMiss n e s) := by
  unfold applyMiss
  dsimp only
  split
  · exact attnOk_raiseStationChange (attnOk_frame h rfl)
  · exact attnOk_frame h rfl

theorem attnOk_dropHeld {n e : Nat} (h : AttnOk s) : AttnOk (dropHeld n e s) := by
  unfold dropHeld
  split
  · exact attnOk_discardReply h
  · exact h

theorem attnOk_applyBad {n e : Nat} (h : AttnOk s) : AttnOk (applyBad n e s) := by
  unfold applyBad
  dsimp only
  split
  · exact attnOk_dropHeld (attnOk_raiseStationChange (attnOk_frame h rfl))
  · exact attnOk_frame h rfl

theorem attnOk_badAnswer {n : Nat} {frame : List Byte} (h : AttnOk s) : AttnOk (badAnswer n frame s) := by
  unfold badAnswer
  split
  · split
    · exact attnOk_closeOffer attnOk_applyBad h
    · exact h
  · exact h

theorem attnOk_enableStation {tag : Nat} {p : Nat × Nat} (h : AttnOk s) : AttnOk (enableStation tag p s) := by
  unfold enableStation
  dsimp only
  split
  · split
    · exact attnOk_sendLink h
    split
    · exact attnOk_sendLink h
    · exact attnOk_sendLink (attnOk_frame h rfl)
  · exact attnOk_sendLink h

theorem attnOk_disableStation {tag : Nat} {p : Nat × Nat} (h : AttnOk s) : AttnOk (disableStation tag p s) := by
  have hdrop {u : State} (hu : AttnOk u) : AttnOk (dropOffer p.1 p.2 u) := by
    unfold dropOffer
    split
    · exact attnOk_frame hu rfl
    · exact hu
  exact attnOk_sendLink (hdrop (attnOk_dropHeld (attnOk_frame h rfl)))


end Attn

end Sys2Proof.Machine
end

section
/-! ATTN_N over every command (O5): each keeps the pin with the notice set, or resets the part, whose pin is high in start-up. -/

namespace Sys2Proof.Machine
open Sys2Proof Sys2Proof.Safety

/-- The law of ATTN_N, whether an access is in service or not. -/
def AttnLaw (_ : Bool) (s : State) : Prop := AttnOk s

section Commands
variable {s : State}

theorem attnLaw_complete {work : State → State} (h : AttnOk (work s)) : NextKeeps AttnLaw (.next (complete work s)) :=
  nextKeeps_next (attnOk_portNext h)

theorem attnLaw_reset (cause : ResetCause) (straps : BitVec 2) (left : Residue) (s : State) :
    AttnLaw true (resetPart cause straps left s) := ⟨fun _ => rfl, rfl⟩

/-! ### The frames of the link (R157 to R161) -/

theorem attnOk_sendUntagged {kind tag : Nat} {reply : Reply} (h : AttnOk s) :
    AttnOk (sendUntagged kind tag reply s) := attnOk_frame h (by simp [attnView])

/-- A request frame keeps the law when its block does (R157 to R160). -/
theorem attnLaw_hostRequest {α : Type} {kind : Nat} {c : ReqClass} {tag : Byte} {body : List Byte}
    {fields : List Byte → Option α} {act : Nat → α → State → State} (h : AttnOk s)
    (hact : ∀ f u, AttnOk u → AttnOk (act tag.toNat f u)) :
    NextKeeps AttnLaw (.next (hostRequest kind c tag body fields act s)) := by
  have hunt : AttnOk { s with hlp := { s.hlp with inbound := [] } } := attnOk_frame h rfl
  have htaken (tags : List Nat) : AttnOk { s with hlp := { s.hlp with inbound := [], inFlight := tags } } :=
    attnOk_frame h rfl
  refine nextKeeps_next ?_
  unfold hostRequest
  dsimp only
  split
  · exact h
  split
  · exact attnOk_sendUntagged hunt
  split
  · exact attnOk_sendUntagged hunt
  split
  · exact attnOk_sendUntagged hunt
  split
  · exact attnOk_sendLink (htaken _)
  split
  · exact attnOk_sendLink (htaken _)
  · exact hact _ _ (htaken _)

theorem attnLaw_hostCard (k : CardKind) (tag : Byte) (body : List Byte) (h : AttnOk s) :
    NextKeeps AttnLaw (.next (hostCard k tag body s)) :=
  attnLaw_hostRequest h fun _ _ => attnOk_takeCardRequest

theorem attnLaw_hostAdmin (k : AdminKind) (tag : Byte) (body : List Byte) (h : AttnOk s) :
    NextKeeps AttnLaw (.next (hostAdmin k tag body s)) :=
  attnLaw_hostRequest h fun _ _ => attnOk_joinAppend

theorem attnLaw_hostItem (kind : Nat) (fields : List Byte → Option ConfigItem) (tag : Byte) (body : List Byte) (h : AttnOk s) :
    NextKeeps AttnLaw (.next (hostItem kind fields tag body s)) :=
  attnLaw_hostRequest h fun _ _ => attnOk_takeCfg

theorem attnOk_rejectFrame (reason : Nat) (h : AttnOk s) : AttnOk (rejectFrame reason s) :=
  attnOk_sendUntagged (attnOk_frame h rfl)

theorem attnOk_takeRejected (bytes : List Byte) (h : AttnOk s) : AttnOk (takeRejected bytes s) := by
  unfold takeRejected
  split
  · exact h
  split
  · exact attnOk_rejectFrame _ h
  · exact h

theorem attnOk_takeGap (bytes : List Byte) (h : AttnOk s) : AttnOk (takeGap bytes s) := by
  unfold takeGap
  split
  · exact h
  split
  · exact attnOk_rejectFrame _ h
  · exact h

/-- TAKE-NOTICES empties the notice set and lets the pin go (R164). -/
theorem attnOk_takeNotices {tag : Nat} (h : AttnOk s) : AttnOk (takeNotices tag s) := by
  obtain ⟨hformat, -⟩ := h
  exact ⟨hformat, (Bool.and_false _).symm⟩

/-- A sent reply frame moves the link's tables on, or resets the part (R161, R167, R172). -/
theorem attnLaw_frameSent (left : Residue) (h : AttnOk s) : NextKeeps AttnLaw (.next (frameSent left s)) := by
  unfold frameSent
  split
  · exact nextKeeps_next h
  split
  · exact nextKeeps_next (attnLaw_reset ..)
  · exact nextKeeps_next (attnOk_frame h rfl)

/-! ### The accesses of cards and of the journal -/

theorem attnLaw_execCardReadDone (h : AttnOk s) : NextKeeps AttnLaw (execCardReadDone s) := by
  unfold execCardReadDone
  split
  · split
    · exact attnLaw_complete (attnOk_cardRead h)
    · exact nextKeeps_fault _
  · exact nextKeeps_next h

theorem attnLaw_execCardWriteDone (h : AttnOk s) : NextKeeps AttnLaw (execCardWriteDone s) := by
  unfold execCardWriteDone
  split
  · exact attnLaw_complete (attnOk_cardWritten h)
  · exact nextKeeps_next h

theorem attnLaw_execCardWriteFails (left : Residue) (h : AttnOk s) : NextKeeps AttnLaw (execCardWriteFails left s) := by
  unfold execCardWriteFails
  split
  · exact attnLaw_complete (attnOk_cardWriteFailed h)
  · exact nextKeeps_next h

theorem attnLaw_execAppendWriteDone (h : AttnOk s) : NextKeeps AttnLaw (execAppendWriteDone s) := by
  unfold execAppendWriteDone
  split
  · exact attnLaw_complete (attnOk_appendWritten h)
  · exact nextKeeps_next h

theorem attnLaw_execAppendWriteFails (left : Residue) (h : AttnOk s) : NextKeeps AttnLaw (execAppendWriteFails left s) := by
  unfold execAppendWriteFails
  split
  · exact attnLaw_complete (attnOk_appendFailed h)
  · exact nextKeeps_next h

theorem attnLaw_execAdviceReadDone (h : AttnOk s) : NextKeeps AttnLaw (execAdviceReadDone s) := by
  unfold execAdviceReadDone
  split
  · refine attnLaw_complete ?_
    unfold adviceArrives
    split
    · exact attnOk_adviceRead h
    · exact h
  · exact nextKeeps_next h

theorem attnLaw_execCommitMarkDone (h : AttnOk s) : NextKeeps AttnLaw (execCommitMarkDone s) := by
  unfold execCommitMarkDone
  split
  · exact attnLaw_complete (attnOk_committed (attnOk_storeOp _ h))
  · exact nextKeeps_next h

theorem attnLaw_execCommitMarkFails (left : Residue) (h : AttnOk s) : NextKeeps AttnLaw (execCommitMarkFails left s) := by
  unfold execCommitMarkFails
  split
  · exact attnLaw_complete (attnOk_commitFailed (attnOk_leaveOp _ left h))
  · exact nextKeeps_next h

/-! ### The accesses of accruals, the walk, the rebuild and the totals -/

theorem attnLaw_execAccrualStart (h : AttnOk s) : NextKeeps AttnLaw (execAccrualStart s) := by
  unfold execAccrualStart
  split
  · exact nextKeeps_next (attnOk_beginAccrual (attnOk_frame h rfl))
  · exact nextKeeps_next h

theorem attnLaw_execAccrualMerchantReadDone (h : AttnOk s) : NextKeeps AttnLaw (execAccrualMerchantReadDone s) := by
  unfold execAccrualMerchantReadDone
  split
  · refine attnLaw_complete ?_
    unfold accrualReadArrives
    split
    · exact attnOk_accrualRead h
    · exact h
  · exact nextKeeps_next h

theorem attnLaw_execAccrualMerchantWriteDone (failed : Option Residue) (h : AttnOk s) :
    NextKeeps AttnLaw (execAccrualMerchantWriteDone failed s) := by
  unfold execAccrualMerchantWriteDone
  split
  · next m record _ =>
    split
    · refine attnLaw_complete ?_
      have hstored := attnOk_storeOp (.accrualWrite m record) h
      unfold accrualWritten
      split
      · exact attnOk_endStage1 hstored
      · exact hstored
    · next left =>
      refine attnLaw_complete ?_
      have hleft := attnOk_leaveOp (.accrualWrite m record) left h
      unfold accrualWriteFailed
      split
      · exact attnOk_failAccrual hleft
      · exact hleft
  · exact nextKeeps_next h

theorem attnLaw_execCloseWalkStart (h : AttnOk s) : NextKeeps AttnLaw (execCloseWalkStart s) := by
  unfold execCloseWalkStart
  split
  · exact nextKeeps_next (attnOk_walkTo (attnOk_frame h rfl))
  · exact nextKeeps_next h

theorem attnLaw_execWalkMerchantReadDone (h : AttnOk s) : NextKeeps AttnLaw (execWalkMerchantReadDone s) := by
  unfold execWalkMerchantReadDone
  split
  · refine attnLaw_complete ?_
    unfold walkReadArrives
    split
    · exact attnOk_walkRead h
    · exact h
  · exact nextKeeps_next h

theorem attnLaw_execWalkMerchantWriteDone (h : AttnOk s) : NextKeeps AttnLaw (execWalkMerchantWriteDone s) := by
  unfold execWalkMerchantWriteDone
  split
  · next m record _ =>
    refine attnLaw_complete ?_
    have hstored := attnOk_storeOp (.walkWrite m record) h
    unfold walkWriteArrives
    split
    · exact attnOk_walkWritten hstored
    · exact hstored
  · exact nextKeeps_next h

theorem attnLaw_execWalkMerchantWriteFails (left : Residue) (h : AttnOk s) :
    NextKeeps AttnLaw (execWalkMerchantWriteFails left s) := by
  unfold execWalkMerchantWriteFails
  split
  · next m record _ =>
    refine attnLaw_complete ?_
    have hleft := attnOk_leaveOp (.walkWrite m record) left h
    unfold walkWriteFailed
    split
    · exact attnOk_failWalk hleft
    · exact hleft
  · exact nextKeeps_next h

theorem attnLaw_execRebuildReadDone (h : AttnOk s) : NextKeeps AttnLaw (execRebuildReadDone s) := by
  unfold execRebuildReadDone
  split
  · refine attnLaw_complete ?_
    unfold rebuildArrives
    split
    · exact attnOk_rebuildRead h
    · exact h
  · exact nextKeeps_next h

theorem attnLaw_execTotalsWriteDone (h : AttnOk s) : NextKeeps AttnLaw (execTotalsWriteDone s) := by
  unfold execTotalsWriteDone
  split
  · exact attnLaw_complete (attnOk_nextTotals (attnOk_totalsWritten (attnOk_storeOp _ h)))
  · exact nextKeeps_next h

theorem attnLaw_execTotalsWriteFails (left : Residue) (h : AttnOk s) : NextKeeps AttnLaw (execTotalsWriteFails left s) := by
  unfold execTotalsWriteFails
  split
  · exact attnLaw_complete (attnOk_nextTotals (attnOk_totalsFailed (attnOk_leaveOp _ left h)))
  · exact nextKeeps_next h

theorem attnLaw_execReadTotalsReadDone (h : AttnOk s) : NextKeeps AttnLaw (execReadTotalsReadDone s) := by
  unfold execReadTotalsReadDone
  split
  · exact attnLaw_complete (attnOk_totalsRead h)
  · exact nextKeeps_next h

theorem attnLaw_execMerchantStatusReadDone (h : AttnOk s) : NextKeeps AttnLaw (execMerchantStatusReadDone s) := by
  unfold execMerchantStatusReadDone
  split
  · exact attnLaw_complete (attnOk_statusRead h)
  · exact nextKeeps_next h

theorem attnLaw_execSweepReadDone (h : AttnOk s) : NextKeeps AttnLaw (execSweepReadDone s) := by
  unfold execSweepReadDone
  split
  · split
    · exact attnLaw_complete (attnOk_sweepRead h)
    · exact nextKeeps_fault _
  · exact nextKeeps_next h

/-! ### The accesses of setup -/

theorem attnLaw_execProgrammeWriteDone (h : AttnOk s) : NextKeeps AttnLaw (execProgrammeWriteDone s) := by
  unfold execProgrammeWriteDone
  split
  · exact attnLaw_complete (attnOk_itemWritten _ h)
  · exact nextKeeps_next h

theorem attnLaw_execTariffWriteDone (h : AttnOk s) : NextKeeps AttnLaw (execTariffWriteDone s) := by
  unfold execTariffWriteDone
  split
  · exact attnLaw_complete (attnOk_itemWritten _ h)
  · exact nextKeeps_next h

theorem attnLaw_execLineConfigWriteDone (h : AttnOk s) : NextKeeps AttnLaw (execLineConfigWriteDone s) := by
  unfold execLineConfigWriteDone
  split
  · exact attnLaw_complete (attnOk_itemWritten _ h)
  · exact attnLaw_complete (attnOk_itemWritten _ h)
  · exact nextKeeps_next h

theorem attnLaw_execSetMerchantReadDone (h : AttnOk s) : NextKeeps AttnLaw (execSetMerchantReadDone s) := by
  unfold execSetMerchantReadDone
  split
  · exact attnLaw_complete (attnOk_setMerchantRead h)
  · exact nextKeeps_next h

theorem attnLaw_execSetMerchantWriteDone (h : AttnOk s) : NextKeeps AttnLaw (execSetMerchantWriteDone s) := by
  unfold execSetMerchantWriteDone
  split
  · exact attnLaw_complete (attnOk_setMerchantWritten h)
  · exact nextKeeps_next h

theorem attnLaw_execConfigWriteFails (left : Residue) (h : AttnOk s) : NextKeeps AttnLaw (execConfigWriteFails left s) := by
  unfold execConfigWriteFails
  split
  · exact attnLaw_complete (attnOk_answerCfg (attnOk_enterFault (attnOk_leaveOp _ left h)))
  · exact attnLaw_complete (attnOk_answerCfg (attnOk_enterFault (attnOk_leaveOp _ left h)))
  · exact nextKeeps_next h

theorem attnLaw_execFormatWriteDone (h : AttnOk s) : NextKeeps AttnLaw (execFormatWriteDone s) := by
  unfold execFormatWriteDone
  split
  · next stage i a bs _ =>
    refine attnLaw_complete ?_
    have hstored := attnOk_storeOp (.formatWrite stage i a bs) h
    unfold formatArrives
    split
    · next hjob => exact attnOk_formatWritten hstored (attnOk_formatting hstored hjob)
    · exact hstored
  · exact nextKeeps_next h

theorem attnLaw_execFormatWriteFails (left : Residue) (h : AttnOk s) : NextKeeps AttnLaw (execFormatWriteFails left s) := by
  unfold execFormatWriteFails
  split
  · next stage i a bs _ =>
    refine attnLaw_complete ?_
    have hleft := attnOk_leaveOp (.formatWrite stage i a bs) left h
    unfold formatStops
    split
    · next hjob => exact attnOk_formatFailed hleft (attnOk_formatting hleft hjob)
    · exact hleft
  · exact nextKeeps_next h

/-! ### The accesses of start-up (R127 to R130) -/

theorem attnLaw_execStartupTotalsReadDone (h : AttnOk s) : NextKeeps AttnLaw (execStartupTotalsReadDone s) := by
  unfold execStartupTotalsReadDone
  split
  · exact attnLaw_complete (attnOk_startupTotals h)
  · exact nextKeeps_next h

theorem attnLaw_execStartupConfigReadDone (h : AttnOk s) : NextKeeps AttnLaw (execStartupConfigReadDone s) := by
  unfold execStartupConfigReadDone
  split
  · exact attnLaw_complete (attnOk_startupConfig h)
  · exact nextKeeps_next h

theorem attnLaw_execJournalScanReadDone (h : AttnOk s) : NextKeeps AttnLaw (execJournalScanReadDone s) := by
  unfold execJournalScanReadDone
  split
  · refine attnLaw_complete ?_
    unfold scanArrives
    split
    · exact attnOk_scanSlot h
    · exact h
  · exact nextKeeps_next h

theorem attnLaw_execRecoveryCardReadDone (h : AttnOk s) : NextKeeps AttnLaw (execRecoveryCardReadDone s) := by
  unfold execRecoveryCardReadDone
  split
  · split
    · exact attnLaw_complete (attnOk_recoverCard h)
    · exact nextKeeps_fault _
  · exact nextKeeps_next h

theorem attnLaw_execRecoveryCardWriteDone (failed : Option Residue) (h : AttnOk s) :
    NextKeeps AttnLaw (execRecoveryCardWriteDone failed s) := by
  unfold execRecoveryCardWriteDone
  split
  · split
    · exact attnLaw_complete (attnOk_cardStepDone (attnOk_storeOp _ h))
    · exact attnLaw_complete (attnOk_finishRecovery (attnOk_enterFault (attnOk_leaveOp _ _ h)))
  · exact nextKeeps_next h

theorem attnLaw_execAdmissionLoadReadDone (h : AttnOk s) : NextKeeps AttnLaw (execAdmissionLoadReadDone s) := by
  unfold execAdmissionLoadReadDone
  split
  · exact attnLaw_complete (attnOk_admissionOn h)
  · exact nextKeeps_next h

/-! ### The lines' own events -/

theorem attnLaw_execOfferStart (n : Fin 4) (h : AttnOk s) : NextKeeps AttnLaw (execOfferStart n s) := by
  refine nextKeeps_next ?_
  split
  · exact attnOk_frame h rfl
  · exact h

theorem attnLaw_execAnswerWindowExpiry (n : Fin 4) (h : AttnOk s) : NextKeeps AttnLaw (execAnswerWindowExpiry n s) := by
  refine nextKeeps_next ?_
  split
  · exact attnOk_closeOffer attnOk_applyMiss h
  · exact h

theorem attnLaw_execAnswerGapExpiry (n : Fin 4) (h : AttnOk s) : NextKeeps AttnLaw (execAnswerGapExpiry n s) := by
  refine nextKeeps_next ?_
  split
  · exact attnOk_closeOffer attnOk_applyBad h
  · exact h

theorem attnLaw_execNoRequestKindFrame (kind tag : Byte) (body : List Byte) (h : AttnOk s) :
    NextKeeps AttnLaw (execNoRequestKindFrame kind tag body s) := by
  unfold execNoRequestKindFrame
  split
  · exact nextKeeps_next h
  · exact attnLaw_hostRequest h fun _ _ hu => hu

/-! ### Every command -/

/-- Every command keeps the law of ATTN_N. -/
theorem exec_keeps_attn (c : Instr) (h : AttnOk s) : NextKeeps AttnLaw (exec c s) := by
  have same {t : State} (hview : attnView t = attnView s) : NextKeeps AttnLaw (.next t) := nextKeeps_next (attnOk_frame h hview)
  cases c with
  | reset cause straps left => exact nextKeeps_next (attnLaw_reset ..)
  | frameRejected bytes => exact nextKeeps_next (attnOk_takeRejected bytes h)
  | receiveGapExpiry bytes => exact nextKeeps_next (attnOk_takeGap bytes h)
  | replyFrameSent left => exact attnLaw_frameSent left h
  | activate tag body => exact attnLaw_hostCard .activate tag body h
  | load tag body => exact attnLaw_hostCard .load tag body h
  | hold tag body => exact attnLaw_hostCard .hold tag body h
  | release tag body => exact attnLaw_hostCard .release tag body h
  | balance tag body => exact attnLaw_hostCard .balance tag body h
  | capture tag body => exact attnLaw_hostCard .capture tag body h
  | redeem tag body => exact attnLaw_hostCard .redeem tag body h
  | void tag body => exact attnLaw_hostCard .void tag body h
  | refund tag body => exact attnLaw_hostCard .refund tag body h
  | cashOut tag body => exact attnLaw_hostCard .cashOut tag body h
  | block tag body => exact attnLaw_hostCard .block tag body h
  | unblock tag body => exact attnLaw_hostCard .unblock tag body h
  | suspendMerchant tag body => exact attnLaw_hostAdmin .suspend tag body h
  | resumeMerchant tag body => exact attnLaw_hostAdmin .resume tag body h
  | closeMerchant tag body => exact attnLaw_hostAdmin .close tag body h
  | cutoff tag body => exact attnLaw_hostRequest h fun _ _ => attnOk_joinAppend
  | takeAdvice tag body => exact attnLaw_hostRequest h fun _ _ => attnOk_takeAdvice
  | readPayout tag body => exact attnLaw_hostRequest h fun _ _ => attnOk_readPayoutEntry
  | rewindPayout tag body => exact attnLaw_hostRequest h fun _ _ hu => attnOk_frame hu rfl
  | releasePayout tag body => exact attnLaw_hostRequest h fun _ _ => attnOk_releaseList
  | readTotals tag body => exact attnLaw_hostRequest h fun _ _ => attnOk_issue
  | merchantStatus tag body => exact attnLaw_hostRequest h fun _ _ => attnOk_issue
  | startSweep tag body => exact attnLaw_hostRequest h fun _ _ => attnOk_startSweep
  | stopSweep tag body => exact attnLaw_hostRequest h fun _ _ => attnOk_stopSweep
  | enableStation tag body => exact attnLaw_hostRequest h fun _ _ => attnOk_enableStation
  | disableStation tag body => exact attnLaw_hostRequest h fun _ _ => attnOk_disableStation
  | clearStationCounts tag body => exact attnLaw_hostRequest h fun _ _ hu => attnOk_frame hu rfl
  | lineStatus tag body => exact attnLaw_hostRequest h fun _ _ => attnOk_sendLink
  | partStatus tag body => exact attnLaw_hostRequest h fun _ _ => attnOk_sendLink
  | takeNotices tag body => exact attnLaw_hostRequest h fun _ _ => attnOk_takeNotices
  | restart tag body => exact attnLaw_hostRequest h fun _ _ hu => attnOk_frame hu rfl
  | setTime tag body => exact attnLaw_hostRequest h fun _ _ hu => attnOk_frame hu rfl
  | format tag body => exact attnLaw_hostRequest h fun _ _ => attnOk_takeCfg
  | setProgramme tag body => exact attnLaw_hostItem _ _ tag body h
  | setTariff tag body => exact attnLaw_hostItem _ _ tag body h
  | setMerchant tag body => exact attnLaw_hostRequest h fun _ _ => attnOk_takeCfg
  | setStation tag body => exact attnLaw_hostItem _ _ tag body h
  | setLine tag body => exact attnLaw_hostItem _ _ tag body h
  | openService tag body => exact attnLaw_hostRequest h fun _ _ => attnOk_takeCfg
  | secondsTick => exact same rfl
  | holdExpiry epoch serial => exact nextKeeps_next (attnOk_expireHold h)
  | holdEntry lock => exact nextKeeps_next (attnOk_holdArrives h)
  | holdClaim lock => exact nextKeeps_next (attnOk_claimArrives h)
  | cardReadDone => exact attnLaw_execCardReadDone h
  | appendIssue => exact nextKeeps_next (attnOk_issueDue h)
  | appendWriteDone => exact attnLaw_execAppendWriteDone h
  | appendWriteFails left => exact attnLaw_execAppendWriteFails left h
  | cardWriteDone => exact attnLaw_execCardWriteDone h
  | cardWriteFails left => exact attnLaw_execCardWriteFails left h
  | accrualStart => exact attnLaw_execAccrualStart h
  | accrualMerchantReadDone => exact attnLaw_execAccrualMerchantReadDone h
  | accrualMerchantWriteDone failed => exact attnLaw_execAccrualMerchantWriteDone failed h
  | totalsWriteDone => exact attnLaw_execTotalsWriteDone h
  | totalsWriteFails left => exact attnLaw_execTotalsWriteFails left h
  | commitMarkDone => exact attnLaw_execCommitMarkDone h
  | commitMarkFails left => exact attnLaw_execCommitMarkFails left h
  | closeWalkStart => exact attnLaw_execCloseWalkStart h
  | walkMerchantReadDone => exact attnLaw_execWalkMerchantReadDone h
  | walkMerchantWriteDone => exact attnLaw_execWalkMerchantWriteDone h
  | walkMerchantWriteFails left => exact attnLaw_execWalkMerchantWriteFails left h
  | adviceReadDone => exact attnLaw_execAdviceReadDone h
  | merchantStatusReadDone => exact attnLaw_execMerchantStatusReadDone h
  | readTotalsReadDone => exact attnLaw_execReadTotalsReadDone h
  | programmeWriteDone => exact attnLaw_execProgrammeWriteDone h
  | tariffWriteDone => exact attnLaw_execTariffWriteDone h
  | setMerchantReadDone => exact attnLaw_execSetMerchantReadDone h
  | setMerchantWriteDone => exact attnLaw_execSetMerchantWriteDone h
  | lineConfigWriteDone => exact attnLaw_execLineConfigWriteDone h
  | configWriteFails left => exact attnLaw_execConfigWriteFails left h
  | formatWriteDone => exact attnLaw_execFormatWriteDone h
  | formatWriteFails left => exact attnLaw_execFormatWriteFails left h
  | sweepReadDone => exact attnLaw_execSweepReadDone h
  | rebuildReadDone => exact attnLaw_execRebuildReadDone h
  | startupTotalsReadDone => exact attnLaw_execStartupTotalsReadDone h
  | startupConfigReadDone => exact attnLaw_execStartupConfigReadDone h
  | journalScanReadDone => exact attnLaw_execJournalScanReadDone h
  | recoveryCardReadDone => exact attnLaw_execRecoveryCardReadDone h
  | recoveryCardWriteDone failed => exact attnLaw_execRecoveryCardWriteDone failed h
  | admissionLoadReadDone => exact attnLaw_execAdmissionLoadReadDone h
  | offerStart n => exact attnLaw_execOfferStart n h
  | broadcastStart n => exact same rfl
  | emptyRoundWaitExpiry n => exact same rfl
  | offerSent n => exact same rfl
  | broadcastSent n => exact same rfl
  | goodAnswer n frame => exact nextKeeps_next (attnOk_goodAnswer h)
  | answerWindowExpiry n => exact attnLaw_execAnswerWindowExpiry n h
  | answerGapExpiry n => exact attnLaw_execAnswerGapExpiry n h
  | badAnswer n frame => exact nextKeeps_next (attnOk_badAnswer h)
  | noRequestKindFrame kind tag body => exact attnLaw_execNoRequestKindFrame kind tag body h

end Commands

/-- Settles O5: a step idles, or carries out a command, which keeps the law. -/
theorem stepKeepsAttn : Obligations.StepKeepsAttn := by
  intro s t h ht
  unfold step at ht
  split at ht
  · cases ht; exact h
  · next c rest _ => exact exec_keeps_attn c (s := { s with pending := rest }) h t ht

end Sys2Proof.Machine
end

section
/-! FORMAT from the link to its guard (O39): the phases it is taken in, and what its turn at the Journal Controller makes of it. -/

namespace Sys2Proof.Machine
open Sys2Proof Sys2Proof.Safety

section Format
variable {tag : Byte} {cap : Nat} {s : State}

/-- FORMAT is taken outside service alone, once start-up has ended (R160). -/
theorem admits_format_phase (h : Admits .format tag s) : s.jc.phase = .setup ∨ s.jc.phase = .unformatted := by
  obtain ⟨_, hphase⟩ := h
  cases hp : s.jc.phase with
  | startup => simp [hp, phaseRefusal] at hphase
  | service => simp [hp, phaseRefusal] at hphase
  | setup => exact .inl rfl
  | unformatted => exact .inr rfl

/-- FORMAT with no request of R170 before it is taken by the JC at once, in UNFORMATTED as in SETUP (R170, R171). -/
theorem exec_format_idle (h1 : 1 ≤ cap) (h2 : cap ≤ 1048576) (ha : Admits .format tag s) (hcfg : s.jc.cfg = none) :
    exec (.format tag (leBytes 3 cap)) s
      = .next (runCfg [{ tag := tag.toNat, kind := 0x38, what := .format cap }] (taken tag s)) := by
  rw [exec, execFormat, hostRequest_admitted ha (formatFields_bytes h1 h2), takeCfg_idle (s := taken tag s) hcfg]

/-- The guard is not made, or passes, in each state FORMAT begins in (R171). -/
theorem formatGuard_begins
    (h : s.jc.phase = .unformatted ∨ s.jc.store = .fault ∨ (s.jc.untaken = 0 ∧ s.pcu.state = .empty)) :
    formatGuard s = none := by
  rcases h with hp | hs | hbooks
  · exact formatGuard_passes (.inl fun ⟨hset, _⟩ => by cases hp.symm.trans hset)
  · exact formatGuard_passes (.inl fun ⟨_, hnormal⟩ => by cases hs.symm.trans hnormal)
  · exact formatGuard_passes (.inr hbooks)

end Format

/-- Settles O39: FORMAT's turn comes at once, and `formatGuard` decides what becomes of it. -/
theorem formatBegins : Obligations.FormatBegins := by
  intro tag cap s ha hcfg h1 h2 u idle c
  have hphase : u.jc.phase = .setup ∨ u.jc.phase = .unformatted := admits_format_phase (s := s) ha
  have hexec : exec c s = _ := exec_format_idle h1 h2 ha hcfg
  have refused {reason : Nat} {figures : List Byte} (hg : formatGuard u = some (reason, figures)) :
      exec c s = .next (sendLink tag.toNat (plainReply 0x38 .formatRefused reason figures) idle) := by
    rw [hexec, runCfg_done (startCfg_format_refused hphase rfl hg)]; rfl
  refine ⟨fun hbegins => ?_, fun hp hs hu => ?_, fun hp hs hu hl => ?_⟩
  · rw [hexec, runCfg_works (startCfg_format hphase rfl (formatGuard_begins (s := u) hbegins)), ← issue_cfg]
  · exact refused (formatGuard_untaken (s := u) hp hs hu)
  · exact refused (formatGuard_list (s := u) hp hs hu hl)

end Sys2Proof.Machine
end

section
/-! The two branches of a step: a command at the front of the queue, and an empty queue (O1). -/

namespace Sys2Proof.Machine
open Sys2Proof Sys2Proof.Safety

/-- The front command leaves the queue before it is carried out, so that it sees the rest alone. -/
theorem step_of_pending_cons {c : Instr} {rest : List Instr} {s : State} (h : s.pending = c :: rest) :
    step s = exec c { s with pending := rest } := by
  rw [step, h]

/-- The model's choice of log 5: with no command waiting, no part of the state moves. -/
theorem step_of_pending_nil {s : State} (h : s.pending = []) : step s = .next s := by
  rw [step, h]

/-- Settles O1: the queue has a front command or is empty, and each case is one branch of `step`. -/
theorem stepTakesTheFrontCommand : Obligations.StepTakesTheFrontCommand :=
  ⟨fun _ _ _ hfront => step_of_pending_cons hfront, fun _ hidle => step_of_pending_nil hidle⟩

end Sys2Proof.Machine
end
